-- ==== Sys2Proof/Word.lean ====
section
/-! DEFINITION. The plain words of the machine and one fixed-size table type. -/

namespace Sys2Proof

/-- A byte of a link frame or of the configuration memory. -/
abbrev Byte := BitVec 8

/-- A 16-bit word of the configuration image, and a check or random residue (R149, R150, R188). -/
abbrev Word := BitVec 16

/-- A value of the station clock, in microseconds; it wraps modulo 2^32 (R169). -/
abbrev Clock := BitVec 32

/-- A raw conversion result, 0 to 4095 (R181). -/
abbrev Raw := BitVec 12

/-- A station address, 0 to 31 (R1). -/
abbrev Addr := Fin 32

/-- A length of time in microseconds. -/
abbrev Micros := Nat

/-- `n` cells of one kind, indexed from 0: the 32-entry tables, the four tanks, the four capture channels. -/
structure Tab (n : Nat) (α : Type) where
  /-- The cells in index order. -/
  cells : List α
  /-- There are always exactly `n` of them. -/
  size : cells.length = n
deriving DecidableEq, Repr

/-- The cell at an index. -/
def Tab.get {n : Nat} {α : Type} (t : Tab n α) (i : Fin n) : α :=
  t.cells.get ⟨i.val, by rw [t.size]; exact i.isLt⟩

/-- The table with one cell replaced. -/
def Tab.set {n : Nat} {α : Type} (t : Tab n α) (i : Fin n) (a : α) : Tab n α :=
  ⟨t.cells.set i.val a, by rw [List.length_set, t.size]⟩

/-- Every cell replaced by its image. -/
def Tab.map {n : Nat} {α β : Type} (f : α → β) (t : Tab n α) : Tab n β :=
  ⟨t.cells.map f, by rw [List.length_map, t.size]⟩

/-- The images of a list's values with their positions, counted from `k`. -/
def mapFrom {α β : Type} (f : Nat → α → β) : Nat → List α → List β
  | _, [] => []
  | k, a :: as => f k a :: mapFrom f (k + 1) as

/-- Mapping with positions keeps the length. -/
theorem mapFrom_length {α β : Type} (f : Nat → α → β) (l : List α) :
    ∀ k, (mapFrom f k l).length = l.length := by
  induction l with
  | nil => intro k; rfl
  | cons a as ih => intro k; simp [mapFrom, ih]

/-- Every cell replaced by an image that may depend on its index. -/
def Tab.mapIdx {n : Nat} {α β : Type} (f : Nat → α → β) (t : Tab n α) : Tab n β :=
  ⟨mapFrom f 0 t.cells, by rw [mapFrom_length, t.size]⟩

/-- `n` equal cells. -/
def Tab.all (n : Nat) {α : Type} (a : α) : Tab n α :=
  ⟨List.replicate n a, List.length_replicate⟩

/-- The four cells written out. -/
def Tab.of4 {α : Type} (a b c d : α) : Tab 4 α := ⟨[a, b, c, d], rfl⟩

end Sys2Proof
end

