-- ==== Sys2Proof/Config.lean ====
section
/-! DEFINITION. The values the manual leaves open, as constants without a body. -/

namespace Sys2Proof

/-- A word of the held image while the image is empty (R187), by its number.
The manual says how a parameter is read from a held image (R190) and that the capture channels run in
START, before any image is held (R170); it does not say which minimum interval they use there.
Free value, DESIGN CHOICE, notes/assumptions/5.md: safe. -/
opaque Config.unloadedWord : Nat → Word

/-- The shaft speed found from a period of 0 µs, by the pulses per revolution: R72 divides by the period
and states no result there. A period of 0 needs two accepted edges in one microsecond, which a
minimum interval of 0 allows (R170). Free value, DESIGN CHOICE, notes/assumptions/6.md: safe. -/
opaque Config.zeroPeriodSpeed : Nat → Nat

/-- The two-byte shaft speed field of a PROP_STATE for a measured speed above 65535 rpm: R72 gives the speed no upper
bound, R154 gives its field two bytes and R166 states no value for such a speed. Free value, DESIGN CHOICE,
notes/assumptions/45.md: safe. -/
opaque Config.wideSpeed : Nat → BitVec 16

end Sys2Proof
end

