-- ==== Sys2Proof/Syntax.lean ====
section
/-! DEFINITION. The commands of the C460: one constructor for each row of spec/opcode_table.json, with the
fields of the Convoy Link frames they carry. -/

namespace Sys2Proof

/-- The three station roles (chapter Roles of 00_scope.md); a strapping of role code 0 is none of them. -/
inductive Role where
  | helm | propulsion | coupling
deriving DecidableEq, Repr

/-- The steering modes, in the order of their codes (R153). -/
inductive SteeringMode where
  | normal | flanking | midship
deriving DecidableEq, Repr

/-- The gear sequencer's states, in the order of their codes (R59, R154). -/
inductive GearState where
  | neutral | engagingAhead | ahead | engagingAstern | astern | disengaging | dwell | gearFault
deriving DecidableEq, Repr

/-- The side of a propulsion station: PORT +1, CENTRE 0, STARBOARD −1 (R1). -/
inductive Side where
  | port | centre | starboard
deriving DecidableEq, Repr

/-- The rudder types, in the order of their codes (R154). -/
inductive RudderType where
  | steering | flanking
deriving DecidableEq, Repr

/-- The strain classes, in rising order and in the order of their codes (R94, R154). -/
inductive StrainClass where
  | slack | taut | high | overload | parted
deriving DecidableEq, Repr

/-- The winch states, in the order of their codes (R105, R154). -/
inductive WinchState where
  | idle | heaving | holding | lockedOut
deriving DecidableEq, Repr

/-- The actions of a CON frame, codes 1 to 4 (R153). -/
inductive ConAction where
  | request | grant | decline | take
deriving DecidableEq, Repr

/-- The states of an alert entry, in the order of their codes (R131, R155). -/
inductive EntryState where
  | activeUnack | activeAcked | clearedUnack
deriving DecidableEq, Repr

/-- The alert codes 1 to 33, in the order of the table of section 8.1. -/
inductive AlertCode where
  | rxError | txFault | txLoss | addressConflict | duplicateAddress | configClamped | configCorrupt
  | demandLost | peerSilent | conLost | stationLag | viewFull | fuelDiscontinuity | tankLow
  | leverSignal | gearInterlock | gearTimeout | governorFollow | shaftSignal | overspeed
  | engineNotReady | flowSignal | returnExceeds | rudderFollow | rudderInterlock | rudderSpread
  | rudderFeedback | strainHigh | overload | parted | winchRun | tensionSignal | converterOverrun
deriving DecidableEq, Repr

/-- What the header of a received frame tells beside its kind: the START flag and the source address (R152). -/
structure RxHeader where
  start  : Bool
  source : Addr
deriving DecidableEq, Repr

/-- The payload of a DEMAND (R153); `thrust` and `turn` are signed, `cap` 0 is none. -/
structure DemandFields where
  number  : Byte
  epoch   : Byte
  thrust  : BitVec 16
  turn    : BitVec 16
  mode    : SteeringMode
  cap     : BitVec 16
  stopAll : Bool
deriving DecidableEq, Repr

/-- The payload of a CON frame but for its action (R153). -/
structure ConFields where
  target : Addr
  epoch  : Byte
  thrust : BitVec 16
  turn   : BitVec 16
deriving DecidableEq, Repr

/-- The payload of a PROP_STATE (R154); `setpoint` and `angle` are signed. -/
structure PropStateFields where
  rated    : BitVec 16
  ahead    : BitVec 16
  astern   : BitVec 16
  setpoint : BitVec 16
  gear     : GearState
  side     : Side
  rudder   : RudderType
  angle    : BitVec 16
  rpm      : BitVec 16
  fuelRate : BitVec 16
  trim     : BitVec 16
  followed : Byte
  standby  : Bool
  trip     : Bool
  warn     : Bool
deriving DecidableEq, Repr

/-- The payload of a STRAIN (R154). -/
structure StrainFields where
  joint   : Byte
  cls     : StrainClass
  tension : BitVec 16
  peak    : BitVec 16
  winch   : WinchState
  standby : Bool
deriving DecidableEq, Repr

/-- The payload of a FUEL (R155). -/
structure FuelFields where
  totals : Tab 4 (BitVec 32)
  tank   : Byte
  rate   : BitVec 16
deriving DecidableEq, Repr

/-- The payload of an ACCOUNT (R155). -/
structure AccountFields where
  totals : Tab 4 (BitVec 40)
  low    : Tab 4 Bool
deriving DecidableEq, Repr

/-- One item of an ALERT (R155). -/
structure AlertItem where
  code  : AlertCode
  state : EntryState
  occ   : Byte
deriving DecidableEq, Repr

/-- The payload of an ALERT (R155): `part1` is the part number, `last` the LAST flag. -/
structure AlertFields where
  part1 : Bool
  last  : Bool
  items : List AlertItem
deriving DecidableEq, Repr

/-- One item of an ACK (R155). -/
structure AckItem where
  station : Byte
  code    : AlertCode
  occ     : Byte
deriving DecidableEq, Repr

/-- The parts of the 100 ms control tick whose order the world chooses (R22, R58, R62, R65, R195). -/
inductive TickPart where
  /-- the decay step of the demand record (R22) -/
  | decay
  /-- the thrust unit's evaluation and ramp (R39 to R46) -/
  | thrust
  /-- the gear sequencer's tick action (R62, R64, R65) -/
  | gear
  /-- fuel metering (R116 to R118) -/
  | metering
  /-- the standby entry test (R195) -/
  | standbyTest
deriving DecidableEq, Repr

/-- What ends a reception as a fragment (R148). -/
inductive FragmentCause where
  /-- a preamble that does not alternate -/
  | preamble
  /-- a bit time without a mid-bit change -/
  | midBit
  /-- quiet before an end marker -/
  | quiet
deriving DecidableEq, Repr

/-- What LINE_QUIET carries: the time that has passed and, where a reception is under way, its bits so far, from the
preamble's first on (R147, R148). -/
structure QuietFound where
  dt   : Micros
  bits : List Bool
deriving DecidableEq, Repr

/-- The commands: what reaches a station from outside or falls due on its clock. `dt` is the time, in µs, that has
passed since the command before it (notes/assumptions/1.md); LINE_QUIET holds it in its `QuietFound`. A fragment
carries the bits of its reception, from the preamble's first on. An input command carries the level its line now
has; a tick or an assembly at a PROPULSION station carries the tank select lines as they stand. -/
inductive Instr where
  | powerOnReset (rolePins : BitVec 2) (addrPins : Addr) (lines : BitVec 16)
  | resetLineReset (rolePins : BitVec 2) (addrPins : Addr) (lines : BitVec 16)
  | configReadComplete (dt : Micros) (bytes : List Byte)
  | referenceCheckComplete (dt : Micros) (result : Raw)
  | joinTimeExpiry (dt : Micros)
  | controlTick (dt : Micros) (order : List TickPart) (tank : BitVec 2)
  | sweep (dt : Micros)
  | demandTimeoutExpiry (dt : Micros)
  | holdTimeExpiry (dt : Micros)
  | demand (dt : Micros) (h : RxHeader) (p : DemandFields)
  | conRequest (dt : Micros) (h : RxHeader) (p : ConFields)
  | conGrant (dt : Micros) (h : RxHeader) (p : ConFields)
  | conDecline (dt : Micros) (h : RxHeader) (p : ConFields)
  | conTake (dt : Micros) (h : RxHeader) (p : ConFields)
  | propState (dt : Micros) (h : RxHeader) (p : PropStateFields)
  | strain (dt : Micros) (h : RxHeader) (p : StrainFields)
  | fuel (dt : Micros) (h : RxHeader) (p : FuelFields)
  | account (dt : Micros) (h : RxHeader) (p : AccountFields)
  | alert (dt : Micros) (h : RxHeader) (role : Role) (p : AlertFields)
  | ack (dt : Micros) (h : RxHeader) (items : List AckItem)
  | roster (dt : Micros) (h : RxHeader) (epoch : Byte)
  | standby (dt : Micros) (h : RxHeader) (epoch : Byte)
  | wake (dt : Micros) (h : RxHeader) (epoch : Byte)
  | receiveError (dt : Micros) (bits : List Bool)
  | fragment (dt : Micros) (cause : FragmentCause) (bits : List Bool)
  | transmitStart (dt : Micros) (tank : BitVec 2)
  | collision (dt : Micros)
  | jamEnd (dt : Micros)
  | backoffEnd (dt : Micros) (tank : BitVec 2)
  | transmitFault (dt : Micros)
  | sentEnd (dt : Micros)
  | txLossExpiry (dt : Micros)
  | conRequestInput (dt : Micros) (on : Bool)
  | requestTimerExpiry (dt : Micros)
  | demandIntervalExpiry (dt : Micros)
  | helmSwitchChange (dt : Micros) (mode economy : BitVec 2) (stopAll : Bool)
  | standbySwitch (dt : Micros) (on : Bool)
  | rosterClearInput (dt : Micros) (on : Bool)
  | stationLag (dt : Micros)
  | economyTrimEvaluation (dt : Micros)
  | engineReadyChange (dt : Micros) (on : Bool)
  | gearFeedbackChange (dt : Micros) (ahead astern : Bool)
  | gearFeedbackTimerExpiry (dt : Micros)
  | releaseTimerExpiry (dt : Micros)
  | dwellExpiry (dt : Micros)
  | captureEdge (dt : Micros) (ch : Fin 4)
  | noiseTimerExpiry (dt : Micros) (ch : Fin 4)
  | stampExpiry (dt : Micros) (ch : Fin 4)
  | shaftPulseTimeout (dt : Micros)
  | noPulseWatchExpiry (dt : Micros)
  | settleTimerExpiry (dt : Micros)
  | deviationStartExpiry (dt : Micros)
  | agreementStartExpiry (dt : Micros)
  | valveSenseChange (dt : Micros) (port starboard : Bool)
  | rudderFollowTimerExpiry (dt : Micros)
  | rudderSpread (dt : Micros)
  | wireBrokenInput (dt : Micros) (on : Bool)
  | winchLockoutInput (dt : Micros) (on : Bool)
  | slackDwellExpiry (dt : Micros)
  | runTimerExpiry (dt : Micros)
  | winchSettleExpiry (dt : Micros)
  | strainIntervalExpiry (dt : Micros)
  | stateIntervalExpiry (dt : Micros)
  | fuelRateEvaluation (dt : Micros)
  | flowWatchExpiry (dt : Micros)
  | fuelIntervalExpiry (dt : Micros)
  | accountIntervalExpiry (dt : Micros)
  | tankFilledInput (dt : Micros) (tank : Fin 4) (on : Bool)
  | fuelDiscontinuityExpiry (dt : Micros)
  | acknowledgeInput (dt : Micros) (on : Bool)
  | repeatTimerExpiry (dt : Micros)
  | sequenceStart (dt : Micros)
  | sequenceCompletion (dt : Micros) (a0 a1 reference : Raw)
  | overrunExpiry (dt : Micros)
  | periodStart (dt : Micros)
  | wakeInput (dt : Micros) (on : Bool)
  | configWatch (dt : Micros) (damage : List (Nat × Word))
  | receptionStart (dt : Micros)
  | lineQuiet (found : QuietFound)
deriving DecidableEq, Repr

end Sys2Proof
end

