-- ==== Sys2Proof/WellFormed.lean ====
section
/-! DEFINITION. Which commands are well formed: the bounds that the types of `Instr` do not carry. -/

namespace Sys2Proof

/-- A tick's order names each of its five parts once. -/
def tickOrderOk (order : List TickPart) : Bool :=
  order.length == 5 && order.contains .decay && order.contains .thrust && order.contains .gear
    && order.contains .metering && order.contains .standbyTest
    && decide (order.idxOf .gear < order.idxOf .standbyTest)

/-- An occurrence number is 1 to 255 (R131, R155). -/
def occOk (occ : Byte) : Bool := occ != 0

/-- An ALERT carries 0 to 8 items, each under an occurrence of 1 to 255 (R155, R156). -/
def AlertFields.ok (p : AlertFields) : Bool :=
  decide (p.items.length ≤ 8) && p.items.all (fun it => occOk it.occ)

/-- An ACK carries 1 to 8 items, each under an occurrence of 1 to 255 (R155, R156). -/
def ackItemsOk (items : List AckItem) : Bool :=
  decide (1 ≤ items.length) && decide (items.length ≤ 8) && items.all (fun it => occOk it.occ)

/-- The bits of a reception, from its first on, alternate as its preamble does: 1, 0, 1, 0 and so on (R147). -/
def preambleHolds (bits : List Bool) : Bool :=
  bits.take 16 == ((List.replicate 8 [true, false]).flatten).take bits.length

/-- A fragment's bits are those of its cause: a preamble that does not alternate ends the reception at the bit that
shows it, and any other cause has found it alternating (R148). -/
def fragmentOk (cause : FragmentCause) (bits : List Bool) : Bool :=
  match cause with
  | .preamble => !preambleHolds bits && preambleHolds bits.dropLast
  | .midBit => preambleHolds bits
  | .quiet => preambleHolds bits

/-- A command is well formed: the configuration memory gives 128 bytes (R188), the frames' counts and
occurrence numbers are in range (R155), a tick's order is an order of its five parts, a damaged word
is one of the 64 (R188), and the bits of a fragment fit its cause (R148). -/
def Instr.wf : Instr → Bool
  | .configReadComplete _ bytes => bytes.length == 128
  | .controlTick _ order _ => tickOrderOk order
  | .alert _ _ _ p => p.ok
  | .ack _ _ items => ackItemsOk items
  | .configWatch _ damage => damage.all (fun d => decide (d.1 < 64))
  | .powerOnReset .. => true
  | .resetLineReset .. => true
  | .referenceCheckComplete .. => true
  | .joinTimeExpiry .. => true
  | .sweep .. => true
  | .demandTimeoutExpiry .. => true
  | .holdTimeExpiry .. => true
  | .demand .. => true
  | .conRequest .. => true
  | .conGrant .. => true
  | .conDecline .. => true
  | .conTake .. => true
  | .propState .. => true
  | .strain .. => true
  | .fuel .. => true
  | .account .. => true
  | .roster .. => true
  | .standby .. => true
  | .wake .. => true
  | .receiveError .. => true
  | .fragment _ cause bits => fragmentOk cause bits
  | .transmitStart .. => true
  | .collision .. => true
  | .jamEnd .. => true
  | .backoffEnd .. => true
  | .transmitFault .. => true
  | .sentEnd .. => true
  | .txLossExpiry .. => true
  | .conRequestInput .. => true
  | .requestTimerExpiry .. => true
  | .demandIntervalExpiry .. => true
  | .helmSwitchChange .. => true
  | .standbySwitch .. => true
  | .rosterClearInput .. => true
  | .stationLag .. => true
  | .economyTrimEvaluation .. => true
  | .engineReadyChange .. => true
  | .gearFeedbackChange .. => true
  | .gearFeedbackTimerExpiry .. => true
  | .releaseTimerExpiry .. => true
  | .dwellExpiry .. => true
  | .captureEdge .. => true
  | .noiseTimerExpiry .. => true
  | .stampExpiry .. => true
  | .shaftPulseTimeout .. => true
  | .noPulseWatchExpiry .. => true
  | .settleTimerExpiry .. => true
  | .deviationStartExpiry .. => true
  | .agreementStartExpiry .. => true
  | .valveSenseChange .. => true
  | .rudderFollowTimerExpiry .. => true
  | .rudderSpread .. => true
  | .wireBrokenInput .. => true
  | .winchLockoutInput .. => true
  | .slackDwellExpiry .. => true
  | .runTimerExpiry .. => true
  | .winchSettleExpiry .. => true
  | .strainIntervalExpiry .. => true
  | .stateIntervalExpiry .. => true
  | .fuelRateEvaluation .. => true
  | .flowWatchExpiry .. => true
  | .fuelIntervalExpiry .. => true
  | .accountIntervalExpiry .. => true
  | .tankFilledInput .. => true
  | .fuelDiscontinuityExpiry .. => true
  | .acknowledgeInput .. => true
  | .repeatTimerExpiry .. => true
  | .sequenceStart .. => true
  | .sequenceCompletion .. => true
  | .overrunExpiry .. => true
  | .periodStart .. => true
  | .wakeInput .. => true
  | .receptionStart .. => true
  | .lineQuiet found => fragmentOk .quiet found.bits

end Sys2Proof
end

