-- ==== Sys2Proof/Machine/State.lean ====
section
/-! DEFINITION. The state of one C460 station, as plain data, and the state after reset. -/

namespace Sys2Proof.Machine

/-- Why a step stops with a fault: never. Every event of the table has an effect or none in every state, and the
part's own end states FAILED and HALTED are station states (section 12.4), so no meaning raises a fault.
Safe: the model adds no stop the manual does not give. -/
inductive Fault where
deriving DecidableEq, Repr

/-- Why a command is turned away without a meaning. -/
inductive Refusal where
  /-- Raised only by an arm of exec whose command has no meaning yet; safe (no claim can be proved of it). -/
  | notModelled (mnemonic : String)
deriving DecidableEq, Repr

/-- A running timer or a series: the clock value it counts from and its length (R169). -/
structure Timer where
  since : Clock
  span  : Micros
deriving DecidableEq, Repr

/-! ## Start unit -/

/-- The station states of section 12.4. -/
inductive StationState where
  | start | joining | active | standby | failed | listenOnly | halted
deriving DecidableEq, Repr

/-- The reset cause (R187). -/
inductive ResetCause where
  | powerOn | resetLine
deriving DecidableEq, Repr

/-- The start unit's own state beside station state, role and address (R187 to R196). -/
structure StartUnit where
  /-- the reset cause -/
  cause     : ResetCause
  /-- the held image, 64 words, or empty after a reset (R188) -/
  image     : List Word
  /-- the moment at which the read of the configuration memory under way began (R188) -/
  reading   : Option Clock
  /-- the standing request (R194) -/
  request   : Bool
  /-- the join time (R191) -/
  joinTimer : Option Timer
  /-- the 1 s series of the config watch (R193) -/
  watch     : Option Timer
deriving DecidableEq, Repr

/-! ## Peer table -/

/-- The liveness of an entry that is not EMPTY (R1); EMPTY is the absence of an entry. -/
inductive Liveness where
  | live | standby | silent
deriving DecidableEq, Repr

/-- The roster fields of a PROPULSION entry beside its role (R1). -/
structure PropRoster where
  rated  : Nat
  side   : Side
  rudder : RudderType
deriving DecidableEq, Repr

/-- The propulsion record (R1). -/
structure PropRecord where
  ahead    : Nat
  astern   : Nat
  setpoint : Int
  gear     : GearState
  angle    : Int
  rpm      : Nat
  fuelRate : Nat
  trim     : Nat
  followed : Byte
  trip     : Bool
  warn     : Bool
deriving DecidableEq, Repr

/-- The strain record (R1). -/
structure StrainRecord where
  cls     : StrainClass
  tension : Nat
  peak    : Nat
  winch   : WinchState
deriving DecidableEq, Repr

/-- The role of an entry with the roster fields and the record that role has (R1). -/
inductive EntryBody where
  | helm
  | propulsion (roster : PropRoster) (refresh : Bool) (record : PropRecord)
  | coupling (joint : Nat) (refresh : Bool) (record : StrainRecord)
deriving DecidableEq, Repr

/-- An entry of the peer table that is not EMPTY (R1). -/
structure Entry where
  body     : EntryBody
  liveness : Liveness
  heard    : Clock
deriving DecidableEq, Repr

/-- The peer table: what frames have filled; the own entry is computed from the station's own state (R10). -/
structure PeerTable where
  /-- the entries, none for EMPTY (R1) -/
  entries   : Tab 32 (Option Entry)
  /-- the conflict list: the time of the last conflicting frame of each address in it (R5) -/
  conflicts : Tab 32 (Option Clock)
  /-- the 100 ms sweep series (R11) -/
  sweep     : Option Timer
deriving DecidableEq, Repr

/-! ## Demand unit -/

/-- The con view (R17): the holder, or none, and the epoch. -/
structure ConView where
  holder : Option Addr
  epoch  : Byte
deriving DecidableEq, Repr

/-- The state of the demand record (R19). -/
inductive RecordState where
  | none | fresh | held | decaying
deriving DecidableEq, Repr

/-- The five values of a demand (R19, R24, R25): `cap` none is the economy cap "none". -/
structure Demand where
  thrust  : Int
  turn    : Int
  mode    : SteeringMode
  cap     : Option Nat
  stopAll : Bool
deriving DecidableEq, Repr

/-- The demand record (R19). -/
structure DemandRecord where
  demand   : Demand
  number   : Byte
  accepted : Option Clock
  state    : RecordState
deriving DecidableEq, Repr

/-- The part of the demand unit that every station has (sections 2.1, 2.2). -/
structure DemandUnit where
  view         : ConView
  record       : DemandRecord
  /-- the demand timeout of a FRESH record (R21) -/
  timeout      : Option Timer
  /-- the hold time of a HELD record (R21) -/
  hold         : Option Timer
  /-- the 100 ms control tick series (R22) -/
  tick         : Option Timer
deriving DecidableEq, Repr

/-- The con state of a HELM station (R28). -/
inductive ConState where
  | standingBy | requesting | holding
deriving DecidableEq, Repr

/-- The part of the demand unit that a HELM station has (sections 2.3, 2.4). -/
structure HelmUnit where
  /-- the live demand; its thrust and turn are the levers' last valid values (R24, R25) -/
  live             : Demand
  /-- whether the thrust lever's latest result was a signal fault (R24) -/
  thrustFault      : Bool
  /-- whether the turn tiller's latest result was a signal fault (R24) -/
  turnFault        : Bool
  /-- the current demand (R26) -/
  current          : Demand
  /-- the demand number of the current demand (R26) -/
  number           : Byte
  con              : ConState
  /-- the 3 s request timer (R29) -/
  requestTimer     : Option Timer
  /-- the holder the view named when the REQUEST was queued (R31) -/
  requestedOf      : Option Addr
  /-- the demand interval series (R27) -/
  interval         : Option Timer
  /-- the standby switch's pending mark (R35) -/
  switchPending    : Bool
  /-- whether a STANDBY has been queued since the standby switch turned on (R35) -/
  standbyQueued    : Bool
  /-- the lag start times (R34) -/
  lag              : Tab 32 (Option Clock)
deriving DecidableEq, Repr

/-! ## Thrust unit, gear sequencer, governor supervisor, steering unit -/

/-- The thrust unit (R37). -/
structure ThrustUnit where
  /-- the governor setpoint X, kN -/
  x          : Int
  lastTarget : Int
  /-- the economy trim E, per-mille -/
  trim       : Nat
  /-- the availability factor f, per-mille -/
  factor     : Nat
  /-- the available ahead A_p, kN -/
  ahead      : Nat
  /-- the available astern B_p, kN -/
  astern     : Nat
  /-- the strain factor F, per-mille -/
  strain     : Nat
  /-- the governor duty, per-mille -/
  duty       : Nat
  /-- the expected shaft speed, rpm -/
  expected   : Nat
  /-- the 1 s economy series (R55) -/
  economy    : Option Timer
  /-- the state interval series of PROP_STATE (R166) -/
  stateSeries : Option Timer
deriving DecidableEq, Repr

/-- The release of an engaged clutch (R59). -/
inductive Release where
  | none | speedWait | timedWait
deriving DecidableEq, Repr

/-- The gear sequencer (R59). -/
structure GearUnit where
  state         : GearState
  supervised    : Bool
  release       : Release
  releaseTimer  : Option Timer
  feedbackTimer : Option Timer
  dwellTimer    : Option Timer
deriving DecidableEq, Repr

/-- The governor supervisor (R72 to R76). -/
structure GovernorUnit where
  /-- the measured shaft speed, rpm -/
  rpm        : Nat
  /-- the time of the last accepted shaft pulse -/
  lastPulse  : Option Clock
  /-- the 2 s without an accepted edge of R72 -/
  pulseTimer : Option Timer
  /-- the no-pulse watch of R73 -/
  watch      : Option Timer
  /-- whether the no-pulse term of R73 holds -/
  noPulse    : Bool
  /-- the 5 s settle timer of the follow monitor (R75) -/
  settle     : Option Timer
  /-- whether the settle timer has ended with the duty unchanged since (R75) -/
  settled    : Bool
  deviation  : Option Clock
  agreement  : Option Clock
deriving DecidableEq, Repr

/-- The state of the valve drive (R77). -/
inductive DriveState where
  | stopped | drivingPort | drivingStbd | inhibited
deriving DecidableEq, Repr

/-- The steering unit (R77); angles in tenths of a degree. -/
structure SteeringUnit where
  /-- the measured angle θ_meas -/
  angle       : Int
  /-- the rudder demand θ_d -/
  demand      : Int
  drive       : DriveState
  /-- the inhibit cause INTERLOCK -/
  interlock   : Bool
  /-- the inhibit cause FEEDBACK -/
  feedback    : Bool
  /-- the duty last written for the driving valve -/
  valveDuty   : Nat
  followTimer : Option Timer
  /-- the deviation start of the spread monitor -/
  deviation   : Option Clock
  supervised  : Bool
deriving DecidableEq, Repr

/-! ## Coupling unit -/

/-- The coupling unit (R94); tensions in tenths of a tonne. -/
structure CouplingUnit where
  /-- the tension window, oldest first -/
  window      : List Nat
  filtered    : Nat
  cls         : StrainClass
  classTaken  : Bool
  partedLatch : Bool
  peak        : Option Nat
  /-- the peak since assembly -/
  peakSince   : Option Nat
  /-- onset pending, with its time -/
  onset       : Option Clock
  winch       : WinchState
  dwellTimer  : Option Timer
  runTimer    : Option Timer
  /-- the snapshot of CAP0's running count made at the entry to HEAVING (R109) -/
  drumSnap    : BitVec 32
  drumCount   : Nat
  settleTimer : Option Timer
  supervised  : Bool
  /-- the strain interval series (R104) -/
  interval    : Option Timer
deriving DecidableEq, Repr

/-! ## Fuel unit -/

/-- The fuel unit's metering half (R114); volumes in µL but for the totals in mL. -/
structure MeterUnit where
  totals     : Tab 4 (BitVec 32)
  residue    : Int
  supplySnap : BitVec 32
  returnSnap : BitVec 32
  secondNet  : Int
  /-- the rate window, oldest first -/
  window     : List Int
  rate       : Nat
  returnMark : Bool
  flowWatch  : Option Timer
  /-- whether the no-supply-pulse term of R120 holds -/
  noSupply   : Bool
  /-- the 1 s rate series (R119) -/
  rateSeries : Option Timer
  /-- the fuel interval series (R121) -/
  interval   : Option Timer
deriving DecidableEq, Repr

/-- One account record of a HELM station (R123). -/
structure AccountRecord where
  carried : Tab 4 Nat
  last    : Tab 4 (BitVec 32)
  restart : Bool
deriving DecidableEq, Repr

/-- The fuel unit's account half (R123); volumes in mL. -/
structure AccountUnit where
  records     : Tab 32 AccountRecord
  totals      : Tab 4 Nat
  baselines   : Tab 4 Nat
  low         : Tab 4 Bool
  /-- the holder flags of R130 -/
  holderLow   : Option (Tab 4 Bool)
  /-- the last discontinuity time -/
  lastDisc    : Option Clock
  /-- the account interval series (R129) -/
  interval    : Option Timer
deriving DecidableEq, Repr

/-! ## Alert unit -/

/-- An entry of the alert list (R131); its class and latching follow from its code. -/
structure AlertEntry where
  code  : AlertCode
  state : EntryState
  occ   : Byte
deriving DecidableEq, Repr

/-- The alert unit of every station (R131, R140, R142). -/
structure AlertUnit where
  /-- the alert list, in the order of entry -/
  list        : List AlertEntry
  /-- the 5 s repeat timer -/
  repeatTimer : Option Timer
  /-- the part-1-due mark -/
  part1Due    : Bool
  /-- whether the list has changed since the latest part 0 was assembled (R142) -/
  changed     : Bool
deriving DecidableEq, Repr

/-- An item of the convoy alert view (R143). -/
structure ViewItem where
  station   : Addr
  code      : AlertCode
  state     : EntryState
  occ       : Byte
  requested : Bool
  sent      : Bool
deriving DecidableEq, Repr

/-- The convoy alert view of a HELM station (R143, R144). -/
structure ViewUnit where
  /-- the items, in the order in which they were added -/
  items : List ViewItem
  /-- the part-0-seen marks, each with the codes its part 0 carried -/
  part0 : Tab 32 (Option (List AlertCode))
deriving DecidableEq, Repr

/-! ## Link unit -/

/-- The frame kinds, in the order of their codes 1 to 11 (R151). -/
inductive FrameKind where
  | demand | con | propState | strain | fuel | account | alert | ack | roster | standby | wake
deriving DecidableEq, Repr

/-- A frame's kind with its payload (R153 to R155). -/
inductive Payload where
  | demand (p : DemandFields)
  | con (action : ConAction) (p : ConFields)
  | propState (p : PropStateFields)
  | strain (p : StrainFields)
  | fuel (p : FuelFields)
  | account (p : AccountFields)
  | alert (p : AlertFields)
  | ack (items : List AckItem)
  | roster (epoch : Byte)
  | standby (epoch : Byte)
  | wake (epoch : Byte)
deriving DecidableEq, Repr

/-- A frame: what its header says and its payload (R152). -/
structure Frame where
  start   : Bool
  source  : Addr
  role    : Role
  /-- the class, 0 to 3 -/
  cls     : Fin 4
  payload : Payload
deriving DecidableEq, Repr

/-- A frame waiting in the transmit queue (R162): `content` for a kind taken at enqueue. -/
structure Waiting where
  kind    : FrameKind
  cls     : Fin 4
  entered : Clock
  content : Option Payload
deriving DecidableEq, Repr

/-- The frame in hand (R158): its latest assembly and when that attempt, or the jam after it, began. -/
structure InHand where
  frame      : Frame
  /-- the collision count -/
  collisions : Nat
  /-- the moment the attempt under way, or the jam, began -/
  since      : Clock
  /-- the moment of the latest assembly -/
  assembled  : Clock
  /-- whether the station's own receiver has taken the echo of this attempt (R161) -/
  echo       : Bool
deriving DecidableEq, Repr

/-- The transmitter's states (section 9.5); BACKING_OFF holds its drawn slots. -/
inductive Transmitter where
  | idle
  | deferring
  | sending (hand : InHand)
  | jamming (hand : InHand)
  | backingOff (hand : InHand) (slots : Nat)
deriving DecidableEq, Repr

/-- The receiver's states (R148). -/
inductive Receiver where
  | hunting | receiving
deriving DecidableEq, Repr

/-- The link unit, the check engine and the transmit queue (chapter 9). -/
structure LinkUnit where
  /-- the moment since which the line is quiet, none while it is active (R147) -/
  quietSince  : Option Clock
  /-- the latest level change that the station can place while the line is active: the start of a reception or the
  end of its own jam, none where it can place none. MODEL's own: DESIGN CHOICE, notes/assumptions/29.md: safe. -/
  lastChange  : Option Clock
  receiver    : Receiver
  tx          : Transmitter
  /-- the waiting frames in the order of their entry; the head is the first of the least class (R162) -/
  queue       : List Waiting
  /-- the transmit residue (R149) -/
  txResidue   : Word
  /-- the receive residue (R149) -/
  rxResidue   : Word
  /-- the random residue (R150) -/
  random      : Word
  /-- the start mark (R161) -/
  startMark   : Bool
  /-- the latest error mark of JOINING (R167) -/
  errorMark   : Bool
  /-- the time of the last loss (R167) -/
  lastLoss    : Option Clock
deriving DecidableEq, Repr

/-- What a raise, a clear or an offered frame can touch: the conditions present, the alert unit and the link. -/
structure Comms where
  /-- the conditions present, by code 1 to 33 at index code − 1; owners keep them, not the list (R50, R133) -/
  present : Tab 33 Bool
  alerts  : AlertUnit
  link    : LinkUnit
deriving DecidableEq, Repr

/-! ## Converter, capture channels, outputs -/

/-- What the converter is doing (R181, R186), with the moment it began; a sequence with the raw results that its
conversions give, A1 read at a HELM station alone. DESIGN CHOICE, notes/assumptions/20.md: unsafe. -/
inductive Converting where
  | idle
  | sequence (since : Clock) (a0 a1 reference : Raw)
  | reference (since : Clock)
deriving DecidableEq, Repr

/-- The judgement of a channel's latest value (R184). -/
inductive RangeState where
  | inRange | fault
deriving DecidableEq, Repr

/-- The levels at the converter's inputs, as the raw results that a conversion of each gives: the lines A0 and A1,
and the reference. MODEL's own: DESIGN CHOICE, notes/assumptions/20.md: unsafe. -/
structure Levels where
  a0        : Raw
  a1        : Raw
  reference : Raw
deriving DecidableEq, Repr

/-- The converter (R181). Its sequence results not yet delivered are those of the conversions that have ended, by
the state and the clock: `State.sequenceResults` of Machine/Local.lean. -/
structure Converter where
  state       : Converting
  /-- the levels that stand at its inputs -/
  levels      : Levels
  /-- the latest values of A0 to A7, none for invalid -/
  latest      : Tab 8 (Option Raw)
  /-- the latest value of the reference -/
  latestRef   : Option Raw
  /-- the range states of A0 to A7 -/
  range       : Tab 8 (Option RangeState)
  /-- the interval, the spacing of sequence starts -/
  interval    : Micros
  /-- the series of sequence starts, as the moment the next interval counts from; none while it does not run (R182) -/
  series      : Option Clock
  lastOverrun : Option Clock
deriving DecidableEq, Repr

/-- A capture channel (R170). -/
structure Channel where
  stamp       : Option Clock
  previous    : Option Clock
  count       : BitVec 32
  noise       : Bool
  noiseTimer  : Option Timer
  expiryTimer : Option Timer
deriving DecidableEq, Repr

/-- The two duty banks of an output (R176). -/
inductive Bank where
  | a | b
deriving DecidableEq, Repr

/-- A PWM output (R176): its banks, and the duty that drives the period under way. -/
structure Pwm where
  bankA     : Nat
  bankB     : Nat
  inControl : Bank
  pending   : Bool
  driving   : Nat
deriving DecidableEq, Repr

/-- The three outputs and their one train of periods (section 10.4). -/
structure OutputUnit where
  outs    : Tab 3 Pwm
  periods : Timer
deriving DecidableEq, Repr

/-! ## The station -/

/-- One C460 station. -/
structure State where
  /-- the station clock (R169) -/
  clock    : Clock
  /-- the levels of IN0 to IN15 -/
  lines    : Tab 16 Bool
  station  : StationState
  /-- the strapped role, none for role code 0 (R187) -/
  role     : Option Role
  /-- the strapped address (R187) -/
  address  : Addr
  start    : StartUnit
  comms    : Comms
  peers    : PeerTable
  demand   : DemandUnit
  helm     : HelmUnit
  thrust   : ThrustUnit
  gear     : GearUnit
  gov      : GovernorUnit
  steer    : SteeringUnit
  coup     : CouplingUnit
  meter    : MeterUnit
  account  : AccountUnit
  view     : ViewUnit
  conv     : Converter
  caps     : Tab 4 Channel
  outputs  : OutputUnit
  /-- the commands that are waiting, first in, first out -/
  pending  : List Instr
deriving DecidableEq, Repr

/-! ## Reset values -/

/-- No demand: D 0, T 0, NORMAL, no cap, STOP_ALL clear (R19, R25, R26). -/
def Demand.zero : Demand :=
  { thrust := 0, turn := 0, mode := .normal, cap := none, stopAll := false }

/-- The peer table after either reset (R2). -/
def PeerTable.reset : PeerTable :=
  { entries := Tab.all 32 none, conflicts := Tab.all 32 none, sweep := none }

/-- The demand unit after either reset (R17, R19). -/
def DemandUnit.reset : DemandUnit :=
  { view := { holder := none, epoch := 0 },
    record := { demand := Demand.zero, number := 0, accepted := none, state := .none },
    timeout := none, hold := none, tick := none }

/-- The helm's part after either reset (R24, R25, R26, R28). -/
def HelmUnit.reset : HelmUnit :=
  { live := Demand.zero, thrustFault := false, turnFault := false, current := Demand.zero, number := 0,
    con := .standingBy, requestTimer := none, requestedOf := none, interval := none,
    switchPending := false, standbyQueued := false, lag := Tab.all 32 none }

/-- The thrust unit after either reset (R37). The factor, the availability and the idle speed are found at
JOINING entry; until then they read 0, 0, 0 and 600 rpm. DESIGN CHOICE, notes/assumptions/7.md: unsafe. -/
def ThrustUnit.reset : ThrustUnit :=
  { x := 0, lastTarget := 0, trim := 1000, factor := 0, ahead := 0, astern := 0, strain := 1000, duty := 0,
    expected := 600, economy := none, stateSeries := none }

/-- The gear sequencer after either reset (R59). -/
def GearUnit.reset : GearUnit :=
  { state := .neutral, supervised := false, release := .none, releaseTimer := none,
    feedbackTimer := none, dwellTimer := none }

/-- The governor supervisor after either reset (R72, R73, R75). -/
def GovernorUnit.reset : GovernorUnit :=
  { rpm := 0, lastPulse := none, pulseTimer := none, watch := none, noPulse := false, settle := none,
    settled := false, deviation := none, agreement := none }

/-- The steering unit after either reset (R77). -/
def SteeringUnit.reset : SteeringUnit :=
  { angle := 0, demand := 0, drive := .stopped, interlock := false, feedback := false, valveDuty := 0,
    followTimer := none, deviation := none, supervised := false }

/-- The coupling unit after either reset (R94). The drum snapshot, for which no rule gives a value before the first
entry to HEAVING, reads 0. DESIGN CHOICE, notes/assumptions/54.md: unsafe. -/
def CouplingUnit.reset : CouplingUnit :=
  { window := [], filtered := 0, cls := .slack, classTaken := false, partedLatch := false, peak := none,
    peakSince := none, onset := none, winch := .idle, dwellTimer := none, runTimer := none, drumSnap := 0,
    drumCount := 0, settleTimer := none, supervised := false, interval := none }

/-- The metering half after a reset that leaves the given totals and residue (R114). -/
def MeterUnit.reset (totals : Tab 4 (BitVec 32)) (residue : Int) : MeterUnit :=
  { totals := totals, residue := residue, supplySnap := 0, returnSnap := 0, secondNet := 0,
    window := List.replicate 10 0, rate := 0, returnMark := false, flowWatch := none, noSupply := false,
    rateSeries := none, interval := none }

/-- An account record after either reset (R123). -/
def AccountRecord.reset : AccountRecord :=
  { carried := Tab.all 4 0, last := Tab.all 4 0, restart := false }

/-- The account half after either reset (R123). -/
def AccountUnit.reset : AccountUnit :=
  { records := Tab.all 32 AccountRecord.reset, totals := Tab.all 4 0, baselines := Tab.all 4 0,
    low := Tab.all 4 false, holderLow := none, lastDisc := none, interval := none }

/-- The alert unit after either reset (R131, R142). -/
def AlertUnit.reset : AlertUnit :=
  { list := [], repeatTimer := none, part1Due := false, changed := false }

/-- The convoy alert view after either reset (R131, R144). -/
def ViewUnit.reset : ViewUnit :=
  { items := [], part0 := Tab.all 32 none }

/-- The seed of the random residue: 0x5A00 + address + 1 (R150). -/
def randomSeed (address : Addr) : Word := BitVec.ofNat 16 (0x5A00 + address.val + 1)

/-- The link unit after either reset (R168). The transmit and receive residues are seeded before each use;
until then they read 0 (DESIGN CHOICE, notes/assumptions/8.md: unsafe). The line counts as active from the reset on.
DESIGN CHOICE, notes/assumptions/51.md: unsafe. -/
def LinkUnit.reset (address : Addr) : LinkUnit :=
  { quietSince := none, lastChange := none, receiver := .hunting, tx := .idle, queue := [], txResidue := 0,
    rxResidue := 0, random := randomSeed address, startMark := true, errorMark := false, lastLoss := none }

/-- No condition present, the alert list empty and the link at rest. -/
def Comms.reset (address : Addr) : Comms :=
  { present := Tab.all 33 false, alerts := AlertUnit.reset, link := LinkUnit.reset address }

/-- The converter's interval by the role, outside STANDBY (R181). -/
def roleInterval : Option Role → Micros
  | some .coupling => 50000
  | some .helm => 20000
  | some .propulsion => 20000
  | none => 20000

/-- The converter after either reset (R181). The interval is given "by role, at JOINING entry"; it reads the
strapped role's from the reset on (notes/assumptions/47.md); the lines A0 and A1 stand at 0, the reference at its
sound level of 2048 (notes/assumptions/20.md). DESIGN CHOICE: unsafe. -/
def Converter.reset (role : Option Role) : Converter :=
  { state := .idle, levels := { a0 := 0, a1 := 0, reference := 2048 }, latest := Tab.all 8 none,
    latestRef := none, range := Tab.all 8 none, interval := roleInterval role, series := none, lastOverrun := none }

/-- A capture channel after either reset (R170). -/
def Channel.reset : Channel :=
  { stamp := none, previous := none, count := 0, noise := false, noiseTimer := none, expiryTimer := none }

/-- A PWM output after either reset (R176). -/
def Pwm.reset : Pwm :=
  { bankA := 0, bankB := 0, inControl := .a, pending := false, driving := 0 }

/-- The outputs after either reset; periods start every 2000 µs from its end (R176). -/
def OutputUnit.reset : OutputUnit :=
  { outs := Tab.all 3 Pwm.reset, periods := { since := 0, span := 2000 } }

/-- The station at the end of a reset of the given cause, strapped as given, with its lines as they stand and
the tank totals and residue the reset leaves (R187 and each unit's table). It is in START with the read
of the configuration memory begun (R188). DESIGN CHOICE, notes/assumptions/65.md: unsafe. -/
def State.afterReset (cause : ResetCause) (role : Option Role) (address : Addr) (lines : Tab 16 Bool)
    (totals : Tab 4 (BitVec 32)) (residue : Int) (pending : List Instr) : State :=
  { clock := 0, lines := lines, station := .start, role := role, address := address,
    start := { cause := cause, image := [], reading := some 0, request := false, joinTimer := none,
               watch := none },
    comms := Comms.reset address, peers := PeerTable.reset, demand := DemandUnit.reset,
    helm := HelmUnit.reset, thrust := ThrustUnit.reset, gear := GearUnit.reset, gov := GovernorUnit.reset,
    steer := SteeringUnit.reset, coup := CouplingUnit.reset, meter := MeterUnit.reset totals residue,
    account := AccountUnit.reset, view := ViewUnit.reset, conv := Converter.reset role,
    caps := Tab.all 4 Channel.reset, outputs := OutputUnit.reset, pending := pending }

/-- The machine right after reset: a power-on reset, with no command waiting. What the pins give is the
world's; here they strap PROPULSION at address 0 with every line off, and the commands POWER_ON_RESET and
RESET_LINE_RESET give any other strapping. DESIGN CHOICE, notes/assumptions/4.md: unsafe. -/
def State.reset : State :=
  State.afterReset .powerOn (some .propulsion) 0 (Tab.all 16 false) (Tab.all 4 0) 0 []

end Sys2Proof.Machine
end

