-- ==== Sys2Proof/Machine/Ops.lean ====
section
/-! DEFINITION. Shared operations: the clock and timers, sequence numbers, the square root, the check engine,
codes, the discrete lines, and the station states in which units act. -/

namespace Sys2Proof.Machine

/-! ## Arithmetic -/

/-- "Clamp x to a..b" of the Conventions. -/
def clampInt (lo hi x : Int) : Int := if x < lo then lo else if hi < x then hi else x

/-- The same for quantities that are not negative. -/
def clampNat (lo hi x : Nat) : Nat := if x < lo then lo else if hi < x then hi else x

/-- One binary digit of the square root after another, from digit `b` − 1 down. -/
def isqrtBits : Nat → Nat → Nat → Nat
  | 0, _, acc => acc
  | b + 1, n, acc => if (acc + 2 ^ b) * (acc + 2 ^ b) ≤ n then isqrtBits b n (acc + 2 ^ b) else isqrtBits b n acc

/-- isqrt of the Terms: the greatest integer whose square does not exceed the argument. -/
def isqrt (n : Nat) : Nat := isqrtBits (Nat.log2 n / 2 + 1) n 0

/-- "a is newer than b" of the Conventions: (a − b) mod 256 lies in 1 to 127. -/
def newer (a b : Byte) : Bool := decide (1 ≤ (a - b).toNat) && decide ((a - b).toNat ≤ 127)

/-- A signed 16-bit field (R152). -/
def signed16 (w : BitVec 16) : Int := w.toInt

/-- A sum of naturals. -/
def sumNat : List Nat → Nat
  | [] => 0
  | a :: as => a + sumNat as

/-- A sum of integers. -/
def sumInt : List Int → Int
  | [] => 0
  | a :: as => a + sumInt as

/-! ## Time (R169) -/

/-- Milliseconds and seconds in microseconds. -/
def ms (n : Nat) : Micros := n * 1000

@[inherit_doc ms] def sec (n : Nat) : Micros := n * 1000000

/-- A link bit time is 8 µs (R147). -/
def bitTimes (n : Nat) : Micros := n * 8

/-- The time from one clock value to another, modulo 2^32 (R169). -/
def elapsed (now since : Clock) : Micros := (now - since).toNat

/-- A timer of the given length started at a moment. -/
def startTimer (now : Clock) (span : Micros) : Option Timer := some { since := now, span := span }

/-- A timer that runs and whose length has passed. -/
def due (t : Option Timer) (now : Clock) : Bool :=
  match t with
  | none => false
  | some t => decide (t.span ≤ elapsed now t.since)

/-- The next interval of a series, counted from the end of the last one and not from the moment it was taken.
DEDUCED, notes/assumptions/43.md: safe. Its length is the one that the series was started with: a configured
interval is read once, at the start of the series. DESIGN CHOICE, notes/assumptions/52.md: unsafe. -/
def nextInterval (t : Option Timer) : Option Timer :=
  t.map (fun t => { t with since := t.since + BitVec.ofNat 32 t.span })

/-- A moment held since which at least the given time has passed. -/
def aged (since : Option Clock) (now : Clock) (limit : Micros) : Bool :=
  match since with
  | none => false
  | some c => decide (limit ≤ elapsed now c)

/-- The time that has passed since the command before. DESIGN CHOICE, notes/assumptions/1.md: safe. -/
def State.advance (s : State) (dt : Micros) : State := { s with clock := s.clock + BitVec.ofNat 32 dt }

/-! ## Station states -/

/-- JOINING, ACTIVE, STANDBY, LISTEN_ONLY: the peer table takes frames and sweeps (R3, R11), the control tick
falls (R22), and metering runs (R115). -/
def StationState.taking : StationState → Bool
  | .joining | .active | .standby | .listenOnly => true
  | .start | .failed | .halted => false

/-- ACTIVE, STANDBY, LISTEN_ONLY: most shared conditions are raised and cleared (R16, R23, R167, R185). -/
def StationState.reporting : StationState → Bool
  | .active | .standby | .listenOnly => true
  | .start | .joining | .failed | .halted => false

/-- ACTIVE, STANDBY: the machinery is supervised and the queue takes frames (R61, R78, R95, R162). -/
def StationState.acting : StationState → Bool
  | .active | .standby => true
  | .start | .joining | .failed | .listenOnly | .halted => false

/-- JOINING, ACTIVE, LISTEN_ONLY: the demand timers run (R23), and a HELM's units take their inputs (R24, R123). -/
def StationState.timing : StationState → Bool
  | .joining | .active | .listenOnly => true
  | .start | .standby | .failed | .halted => false

/-- From JOINING entry until the next reset: the own entry stands (R10) and the receiver runs (R148). -/
def StationState.joined : StationState → Bool
  | .joining | .active | .standby | .listenOnly | .halted => true
  | .start | .failed => false

/-- START, FAILED, JOINING, LISTEN_ONLY, HALTED: the safe state stands (R180). -/
def StationState.safe : StationState → Bool
  | .start | .failed | .joining | .listenOnly | .halted => true
  | .active | .standby => false

/-- ACTIVE, LISTEN_ONLY: a HELM's own conditions are raised and cleared (R24, R126, R128, R143). -/
def StationState.helmReporting : StationState → Bool
  | .active | .listenOnly => true
  | .start | .joining | .standby | .failed | .halted => false

/-- The station's role is HELM. -/
def State.isHelm (s : State) : Bool := s.role == some .helm
/-- The station's role is PROPULSION. -/
def State.isProp (s : State) : Bool := s.role == some .propulsion
/-- The station's role is COUPLING. -/
def State.isCoup (s : State) : Bool := s.role == some .coupling

/-! ## Discrete input lines -/

/-- The level of an input line. -/
def State.line (s : State) (i : Fin 16) : Bool := s.lines.get i

/-- An input line at a new level. -/
def State.setLine (s : State) (i : Fin 16) (on : Bool) : State := { s with lines := s.lines.set i on }

/-- The lines read at the end of a reset: bit i is INi. -/
def linesOfBits (v : BitVec 16) : Tab 16 Bool := Tab.mapIdx (fun i _ => v.getLsbD i) (Tab.all 16 false)

/-- A two-line value with the lower-numbered line as the less significant bit (chapter Station lines). -/
def twoLine (low high : Bool) : Nat := low.toNat + 2 * high.toNat

/-- A PROPULSION station's tank select lines IN3 and IN4 at the given value; at another role nothing. DESIGN CHOICE,
notes/assumptions/9.md: safe. -/
def State.selectTank (s : State) (v : BitVec 2) : State :=
  if s.isProp then (s.setLine 3 (v.getLsbD 0)).setLine 4 (v.getLsbD 1) else s

/-- The selected tank (R118). -/
def State.tank (s : State) : Fin 4 := Fin.ofNat 4 (twoLine (s.line 3) (s.line 4))

/-! ## The check engine (section 9.2) -/

/-- One step of the frame check (R149). -/
def crcStep (r : Word) (b : Bool) : Word :=
  if (r.msb ^^ b) then (r <<< 1) ^^^ 0x8005#16 else r <<< 1

/-- The frame check over bits in the order sent. -/
def crcBits (r : Word) : List Bool → Word
  | [] => r
  | b :: bs => crcBits (crcStep r b) bs

/-- The seed of the frame check (R149). -/
def crcSeed : Word := 0xFFFF#16

/-- A byte's bits, most significant first (R147). -/
def byteBits (b : Byte) : List Bool :=
  [b.getLsbD 7, b.getLsbD 6, b.getLsbD 5, b.getLsbD 4, b.getLsbD 3, b.getLsbD 2, b.getLsbD 1, b.getLsbD 0]

/-- A word's bits, most significant first. -/
def wordBits (w : Word) : List Bool :=
  byteBits (BitVec.ofNat 8 (w.toNat / 256)) ++ byteBits (BitVec.ofNat 8 (w.toNat % 256))

/-- The bits of bytes sent in order. -/
def bytesBits : List Byte → List Bool
  | [] => []
  | b :: bs => byteBits b ++ bytesBits bs

/-- The bits of words, each high byte first. -/
def wordsBits : List Word → List Bool
  | [] => []
  | w :: ws => wordBits w ++ wordsBits ws

/-- One step of the random generator (R150). -/
def randomStep (r : Word) : Word :=
  let x := ((r.getLsbD 15 ^^ r.getLsbD 13) ^^ r.getLsbD 12) ^^ r.getLsbD 10
  (r <<< 1) ||| (if x then 1#16 else 0#16)

/-- `n` steps of the random generator. -/
def randomSteps : Nat → Word → Word
  | 0, r => r
  | n + 1, r => randomSteps n (randomStep r)

/-- The slots drawn from a residue for collision count n: its low min(n, 5) bits (R150). -/
def drawSlots (n : Nat) (r : Word) : Nat := r.toNat % 2 ^ (min n 5)

/-! ## Alert codes (section 8.1) -/

/-- A code's number, 1 to 33. -/
def alertNumber : AlertCode → Nat
  | .rxError => 1 | .txFault => 2 | .txLoss => 3 | .addressConflict => 4 | .duplicateAddress => 5
  | .configClamped => 6 | .configCorrupt => 7 | .demandLost => 8 | .peerSilent => 9 | .conLost => 10
  | .stationLag => 11 | .viewFull => 12 | .fuelDiscontinuity => 13 | .tankLow => 14 | .leverSignal => 15
  | .gearInterlock => 16 | .gearTimeout => 17 | .governorFollow => 18 | .shaftSignal => 19
  | .overspeed => 20 | .engineNotReady => 21 | .flowSignal => 22 | .returnExceeds => 23
  | .rudderFollow => 24 | .rudderInterlock => 25 | .rudderSpread => 26 | .rudderFeedback => 27
  | .strainHigh => 28 | .overload => 29 | .parted => 30 | .winchRun => 31 | .tensionSignal => 32
  | .converterOverrun => 33

/-- Every code, in order. -/
def allAlertCodes : List AlertCode :=
  [.rxError, .txFault, .txLoss, .addressConflict, .duplicateAddress, .configClamped, .configCorrupt,
   .demandLost, .peerSilent, .conLost, .stationLag, .viewFull, .fuelDiscontinuity, .tankLow, .leverSignal,
   .gearInterlock, .gearTimeout, .governorFollow, .shaftSignal, .overspeed, .engineNotReady, .flowSignal,
   .returnExceeds, .rudderFollow, .rudderInterlock, .rudderSpread, .rudderFeedback, .strainHigh, .overload,
   .parted, .winchRun, .tensionSignal, .converterOverrun]

/-- The code of a number, none outside 1 to 33. -/
def alertOfNumber (n : Nat) : Option AlertCode := if n = 0 then none else allAlertCodes[n - 1]?

/-- The trip-class codes. -/
def tripClass : AlertCode → Bool
  | .duplicateAddress | .configCorrupt | .gearInterlock | .gearTimeout | .overspeed | .rudderInterlock
  | .rudderFeedback | .overload | .parted => true
  | _ => false

/-- The latched codes. -/
def latchedCode : AlertCode → Bool
  | .gearInterlock | .gearTimeout | .overspeed | .rudderInterlock | .parted | .winchRun => true
  | _ => false

/-- A code's place in the table of conditions. -/
def alertIndex (c : AlertCode) : Fin 33 := Fin.ofNat 33 (alertNumber c - 1)

/-- Whether an owner holds a condition present. -/
def Comms.has (m : Comms) (c : AlertCode) : Bool := m.present.get (alertIndex c)

/-- Whether an owner holds a condition present. -/
def State.has (s : State) (c : AlertCode) : Bool := s.comms.has c

end Sys2Proof.Machine
end

