-- ==== Sys2Proof/Machine/Operands.lean ====
section
/-! DEFINITION. How operands are read: the parameters of the configuration image (chapter 12) and the scaling of
raw conversion results (R24, R79, R96, R184). -/

namespace Sys2Proof.Machine

/-- A single-word parameter: its word, its range and its default (section 12.3). -/
structure ParamSpec where
  word : Nat
  lo   : Nat
  hi   : Nat
  dflt : Nat
deriving DecidableEq, Repr

/-! ## The parameter table (section 12.3) -/

def Param.joinTime : ParamSpec := ⟨1, 1, 10, 2⟩
def Param.silenceLimit : ParamSpec := ⟨2, 300, 5000, 1000⟩
def Param.demandTimeout : ParamSpec := ⟨3, 500, 5000, 1000⟩
def Param.holdTime : ParamSpec := ⟨4, 0, 10, 4⟩
/-- The minimum interval of a capture channel; its range reaches 65535, so its default is never read (R190). -/
def Param.minInterval (ch : Fin 4) : ParamSpec :=
  ⟨5 + ch.val, 0, 65535, if ch.val = 0 then 500 else if ch.val = 3 then 0 else 1000⟩

def Param.primaryHelm : ParamSpec := ⟨9, 0, 1, 0⟩
def Param.conTimeout : ParamSpec := ⟨10, 1, 10, 2⟩
def Param.demandInterval : ParamSpec := ⟨11, 100, 1000, 200⟩
def Param.accountInterval : ParamSpec := ⟨12, 1, 60, 10⟩
/-- The economy cap of level 1 to 3, given as 0 to 2. -/
def Param.economyCap (level : Nat) : ParamSpec := ⟨13 + level, 0, 65535, 0⟩
def Param.tankAllowance (tank : Fin 4) : ParamSpec := ⟨16 + tank.val, 0, 65535, 0⟩
def Param.tankReserve (tank : Fin 4) : ParamSpec := ⟨20 + tank.val, 0, 65535, 0⟩

def Param.ratedThrust : ParamSpec := ⟨9, 1, 4000, 1000⟩
def Param.side : ParamSpec := ⟨10, 0, 2, 0⟩
def Param.rudderType : ParamSpec := ⟨11, 0, 1, 0⟩
def Param.turnAuthority : ParamSpec := ⟨12, 0, 500, 250⟩
def Param.rampRate : ParamSpec := ⟨13, 10, 2000, 200⟩
def Param.asternRatio : ParamSpec := ⟨14, 300, 1000, 650⟩
def Param.idleSpeed : ParamSpec := ⟨15, 300, 1500, 600⟩
def Param.maxSpeed : ParamSpec := ⟨16, 600, 3000, 1800⟩
def Param.shiftSpeed : ParamSpec := ⟨17, 100, 1500, 700⟩
def Param.neutralDwell : ParamSpec := ⟨18, 500, 5000, 2000⟩
def Param.pulsesPerRev : ParamSpec := ⟨19, 1, 120, 4⟩
def Param.followTolerance : ParamSpec := ⟨20, 10, 300, 60⟩
def Param.stateInterval : ParamSpec := ⟨21, 100, 1000, 200⟩
def Param.maxAngle : ParamSpec := ⟨22, 100, 450, 350⟩
def Param.angleSpan : ParamSpec := ⟨23, 300, 600, 450⟩
def Param.deadband : ParamSpec := ⟨24, 2, 100, 10⟩
def Param.valveGain : ParamSpec := ⟨25, 1, 1000, 100⟩
def Param.followTime : ParamSpec := ⟨26, 2, 30, 10⟩
def Param.spreadLimit : ParamSpec := ⟨27, 20, 200, 50⟩
def Param.fuelInterval : ParamSpec := ⟨32, 1, 60, 5⟩

def Param.joint : ParamSpec := ⟨9, 0, 255, 0⟩
def Param.partedLevel : ParamSpec := ⟨10, 15, 200, 20⟩
def Param.tautLevel : ParamSpec := ⟨11, 30, 400, 50⟩
def Param.highLevel : ParamSpec := ⟨12, 100, 1500, 400⟩
def Param.overLevel : ParamSpec := ⟨13, 200, 1900, 700⟩
def Param.hysteresis : ParamSpec := ⟨14, 5, 100, 20⟩
def Param.strainInterval : ParamSpec := ⟨15, 200, 2000, 500⟩
def Param.slackDwell : ParamSpec := ⟨16, 2, 60, 10⟩
def Param.maxRunTime : ParamSpec := ⟨17, 5, 120, 30⟩
def Param.maxDrumCount : ParamSpec := ⟨18, 1, 200, 50⟩
def Param.winchTurnLimit : ParamSpec := ⟨19, 0, 1000, 200⟩
def Param.heavePushLimit : ParamSpec := ⟨20, 0, 20000, 1000⟩

/-- A word of an image; of the empty image a free value (Config.unloadedWord). -/
def imageWord (image : List Word) (i : Nat) : Word :=
  match image[i]? with
  | some w => w
  | none => Config.unloadedWord i

/-- A single-word parameter from its word (R190). -/
def paramOfWord (p : ParamSpec) (w : Word) : Nat :=
  if w = 0xFFFF#16 then (if p.hi < 65535 then p.dflt else 65535) else clampNat p.lo p.hi w.toNat

/-- A single-word parameter of an image (R190). -/
def readParam (image : List Word) (p : ParamSpec) : Nat := paramOfWord p (imageWord image p.word)

/-- A meter factor from its two words, high then low: 1 to 1,000,000, default 1000 (R190). -/
def meterFactor (hi lo : Word) : Nat :=
  if hi = 0xFFFF#16 ∧ lo = 0xFFFF#16 then 1000 else clampNat 1 1000000 (hi.toNat * 65536 + lo.toNat)

/-- A parameter as the station reads it at a use (R190). -/
def State.param (s : State) (p : ParamSpec) : Nat := readParam s.start.image p

/-- The supply meter factor M_s (words 28, 29). -/
def State.supplyFactor (s : State) : Nat :=
  meterFactor (imageWord s.start.image 28) (imageWord s.start.image 29)

/-- The return meter factor M_r (words 30, 31). -/
def State.returnFactor (s : State) : Nat :=
  meterFactor (imageWord s.start.image 30) (imageWord s.start.image 31)

/-- The common single-word parameters. -/
def commonParams : List ParamSpec :=
  [Param.joinTime, Param.silenceLimit, Param.demandTimeout, Param.holdTime, Param.minInterval 0,
   Param.minInterval 1, Param.minInterval 2, Param.minInterval 3]

/-- The single-word parameters of a role. -/
def roleParams : Role → List ParamSpec
  | .helm =>
    [Param.primaryHelm, Param.conTimeout, Param.demandInterval, Param.accountInterval, Param.economyCap 0,
     Param.economyCap 1, Param.economyCap 2, Param.tankAllowance 0, Param.tankAllowance 1,
     Param.tankAllowance 2, Param.tankAllowance 3, Param.tankReserve 0, Param.tankReserve 1,
     Param.tankReserve 2, Param.tankReserve 3]
  | .propulsion =>
    [Param.ratedThrust, Param.side, Param.rudderType, Param.turnAuthority, Param.rampRate, Param.asternRatio,
     Param.idleSpeed, Param.maxSpeed, Param.shiftSpeed, Param.neutralDwell, Param.pulsesPerRev,
     Param.followTolerance, Param.stateInterval, Param.maxAngle, Param.angleSpan, Param.deadband,
     Param.valveGain, Param.followTime, Param.spreadLimit, Param.fuelInterval]
  | .coupling =>
    [Param.joint, Param.partedLevel, Param.tautLevel, Param.highLevel, Param.overLevel, Param.hysteresis,
     Param.strainInterval, Param.slackDwell, Param.maxRunTime, Param.maxDrumCount, Param.winchTurnLimit,
     Param.heavePushLimit]

/-- A single-word parameter needs the clamp of R190's step 2. -/
def needsClamp (image : List Word) (p : ParamSpec) : Bool :=
  imageWord image p.word != 0xFFFF#16 && readParam image p != (imageWord image p.word).toNat

/-- A meter factor needs the clamp of R190's step 2. -/
def meterNeedsClamp (hi lo : Word) : Bool :=
  !(hi == 0xFFFF#16 && lo == 0xFFFF#16) && meterFactor hi lo != hi.toNat * 65536 + lo.toNat

/-- Whether the load of an image raises CONFIG_CLAMPED at a station of the role (R190). -/
def imageNeedsClamp (role : Role) (image : List Word) : Bool :=
  (commonParams ++ roleParams role).any (needsClamp image) ||
    (role == .propulsion &&
      (meterNeedsClamp (imageWord image 28) (imageWord image 29) ||
        meterNeedsClamp (imageWord image 30) (imageWord image 31)))

/-- The side from its word: 0 CENTRE, 1 PORT, 2 STARBOARD (section 12.3). -/
def State.side (s : State) : Side :=
  match s.param Param.side with
  | 0 => .centre
  | 1 => .port
  | _ => .starboard

/-- The side as a sign: PORT +1, CENTRE 0, STARBOARD −1 (Conventions). -/
def sideSign : Side → Int
  | .port => 1
  | .centre => 0
  | .starboard => -1

/-- The rudder type from its word (section 12.3). -/
def State.rudderType (s : State) : RudderType :=
  if s.param Param.rudderType = 0 then .steering else .flanking

/-! ## Raw conversion results -/

/-- A raw result of 20 or less, or of 4075 or more, is a fault (R184). -/
def rawFault (raw : Raw) : Bool := decide (raw.toNat ≤ 20) || decide (4075 ≤ raw.toNat)

/-- The reference passes within 2008 to 2088 (R183, R186). -/
def referencePasses (raw : Raw) : Bool := decide (2008 ≤ raw.toNat) && decide (raw.toNat ≤ 2088)

/-- A lever value before the dead band, −1000 to 1000 (R24). -/
def leverScale (raw : Raw) : Int :=
  clampInt (-1000) 1000 (Int.tdiv (((raw.toNat : Int) - 2048) * 1000) 2047)

/-- A lever value: a magnitude of 20 or less is read as 0 (R24). -/
def leverValue (raw : Raw) : Int := if (leverScale raw).natAbs ≤ 20 then 0 else leverScale raw

/-- The measured rudder angle of an in-range result under a feedback span (R79). -/
def rudderAngle (span : Nat) (raw : Raw) : Int := Int.tdiv (((raw.toNat : Int) - 2048) * span) 2047

/-- The conversion tension of an in-range result (R96). -/
def conversionTension (raw : Raw) : Nat := raw.toNat * 2000 / 4095

end Sys2Proof.Machine
end

