-- ==== Sys2Proof/Machine/Queue.lean ====
section
/-! DEFINITION. The transmit queue (section 9.6), the alert list (chapter 8) and how a change of one reaches the
other: offering a frame, raising and clearing a condition. -/

namespace Sys2Proof.Machine

/-! ## Frame kinds (R151, R163) -/

/-- The kinds assembled at send, which coalesce (R163). -/
def coalescing : FrameKind → Bool
  | .demand | .propState | .strain | .fuel | .account | .alert | .ack => true
  | .con | .roster | .standby | .wake => false

/-- A payload's kind. -/
def payloadKind : Payload → FrameKind
  | .demand _ => .demand
  | .con _ _ => .con
  | .propState _ => .propState
  | .strain _ => .strain
  | .fuel _ => .fuel
  | .account _ => .account
  | .alert _ => .alert
  | .ack _ => .ack
  | .roster _ => .roster
  | .standby _ => .standby
  | .wake _ => .wake

/-! ## The queue's order (R162) -/

/-- The least class among waiting frames, starting from a class. -/
def leastClass (c : Fin 4) : List Waiting → Fin 4
  | [] => c
  | w :: ws => leastClass (if w.cls < c then w.cls else c) ws

/-- The greatest class among waiting frames, starting from a class. -/
def greatestClass (c : Fin 4) : List Waiting → Fin 4
  | [] => c
  | w :: ws => greatestClass (if c < w.cls then w.cls else c) ws

/-- The head of the queue: the oldest frame of the least class (R162). -/
def queueHead (q : List Waiting) : Option Waiting := q.find? (fun w => w.cls == leastClass 3 q)

/-- The queue without the first frame that the test picks. -/
def dropFirst (p : Waiting → Bool) : List Waiting → List Waiting
  | [] => []
  | w :: ws => if p w then ws else w :: dropFirst p ws

/-- The queue without its head. -/
def queueTail (q : List Waiting) : List Waiting := dropFirst (fun w => w.cls == leastClass 3 q) q

/-- The queue without the most recently entered frame of a class (R165). -/
def dropLastOf (c : Fin 4) (q : List Waiting) : List Waiting :=
  (dropFirst (fun w => w.cls == c) q.reverse).reverse

/-! ## Offering a frame (R162, R163, R165) -/

/-- A frame of a coalescing kind is offered while one of its kind waits (R163). -/
def coalesced (w : Waiting) (q : List Waiting) : Bool := coalescing w.kind && q.any (fun v => v.kind == w.kind)

/-- The queue after a frame is offered while the queue takes frames. -/
def offerQueue (w : Waiting) (q : List Waiting) : List Waiting :=
  if coalesced w q then q
  else if q.length < 8 then q ++ [w]
  else if w.cls < greatestClass 0 q then dropLastOf (greatestClass 0 q) q ++ [w]
  else q

/-- Whether that offer discards a frame, which is a loss (R165, R167). -/
def offerLoses (w : Waiting) (q : List Waiting) : Bool := !coalesced w q && decide (8 ≤ q.length)

/-- IDLE becomes DEFERRING when a frame enters the queue (R157). -/
def wakeTx (q : List Waiting) : Transmitter → Transmitter
  | .idle => if q.isEmpty then .idle else .deferring
  | .deferring => .deferring
  | .sending h => .sending h
  | .jamming h => .jamming h
  | .backingOff h r => .backingOff h r

/-- The link unit after a frame is offered in a state in which the queue takes frames. -/
def LinkUnit.put (l : LinkUnit) (now : Clock) (w : Waiting) : LinkUnit :=
  { l with queue := offerQueue w l.queue, tx := wakeTx (offerQueue w l.queue) l.tx,
           lastLoss := if offerLoses w l.queue then some now else l.lastLoss }

/-! ## The alert list (R131 to R134) -/

/-- Unacknowledged: ACTIVE_UNACK or CLEARED_UNACK. -/
def isUnack : EntryState → Bool
  | .activeUnack | .clearedUnack => true
  | .activeAcked => false

/-- Active: ACTIVE_UNACK or ACTIVE_ACKED. -/
def isActive : EntryState → Bool
  | .activeUnack | .activeAcked => true
  | .clearedUnack => false

/-- The entry of a code. -/
def entryOf (c : AlertCode) (l : List AlertEntry) : Option AlertEntry := l.find? (fun e => e.code == c)

/-- The occurrence number after one, from 255 to 1 and never 0 (R132). -/
def nextOcc (n : Byte) : Byte := if n = 255#8 then 1 else n + 1

/-- The list without the first entry that the test picks. -/
def dropEntry (p : AlertEntry → Bool) : List AlertEntry → List AlertEntry
  | [] => []
  | e :: es => if p e then es else e :: dropEntry p es

/-- A warn-class entry in CLEARED_UNACK. -/
def clearedWarn (e : AlertEntry) : Bool := !tripClass e.code && e.state == .clearedUnack

/-- A warn-class entry. -/
def anyWarn (e : AlertEntry) : Bool := !tripClass e.code

/-- Room made in a full list: the oldest warn-class entry in CLEARED_UNACK leaves, or else the oldest
warn-class entry (R133). -/
def makeRoom (l : List AlertEntry) : List AlertEntry :=
  if l.any clearedWarn then dropEntry clearedWarn l else dropEntry anyWarn l

/-- The list after a new entry of a code is appended, with room made where it is full; a list of 16 trip-class
entries refuses it (R132, R133). DEDUCED, notes/assumptions/41.md: safe. -/
def appendEntry (c : AlertCode) (l : List AlertEntry) : List AlertEntry :=
  if l.length < 16 then l ++ [{ code := c, state := .activeUnack, occ := 1 }]
  else if (makeRoom l).length < 16 then makeRoom l ++ [{ code := c, state := .activeUnack, occ := 1 }]
  else l

/-- The list after a raise of a code (R132). -/
def raiseList (c : AlertCode) (l : List AlertEntry) : List AlertEntry :=
  if l.any (fun e => e.code == c) then
    l.map (fun e => if e.code == c then { e with state := .activeUnack, occ := nextOcc e.occ } else e)
  else appendEntry c l

/-- The list after a clear of a code (R134). -/
def clearList (c : AlertCode) (l : List AlertEntry) : List AlertEntry :=
  (l.filter (fun e => !(e.code == c && e.state == .activeAcked))).map
    (fun e => if e.code == c then { e with state := .clearedUnack } else e)

/-- The list without the entry of a code. -/
def removeEntry (c : AlertCode) (l : List AlertEntry) : List AlertEntry := l.filter (fun e => e.code != c)

/-- The list with the entry of a code in ACTIVE_ACKED. -/
def markAcked (c : AlertCode) (l : List AlertEntry) : List AlertEntry :=
  l.map (fun e => if e.code == c then { e with state := .activeAcked } else e)

/-- The list holds a trip-class entry in ACTIVE_UNACK (R141). -/
def tripUnack (l : List AlertEntry) : Bool := l.any (fun e => tripClass e.code && e.state == .activeUnack)

/-! ## A change of the list (R139 to R141, R164) -/

/-- The class at which an ALERT is queued (R141). -/
def alertClass (l : List AlertEntry) : Fin 4 := if tripUnack l then 2 else 3

/-- An ALERT as it enters the queue. -/
def alertFrame (now : Clock) (l : List AlertEntry) : Waiting :=
  { kind := .alert, cls := alertClass l, entered := now, content := none }

/-- An ALERT waiting at class 3 is raised to class 2 when a trip-class entry is in ACTIVE_UNACK (R141, R164). -/
def promoteAlert (l : List AlertEntry) (q : List Waiting) : List Waiting :=
  if tripUnack l then q.map (fun w => if w.kind == .alert && w.cls == 3 then { w with cls := 2 } else w) else q

/-- The repeat timer after a change of the list: it starts at 5 s when the first unacknowledged entry appears and
stops when none remains; it is counted in ACTIVE and STANDBY (R140). An eviction and the append that it makes room
for are one change, so that a running timer runs on where the only unacknowledged entry is evicted. DESIGN CHOICE,
notes/assumptions/58.md: unsafe. -/
def repeatAfter (st : StationState) (now : Clock) (l : List AlertEntry) (t : Option Timer) : Option Timer :=
  if st.acting && l.any (fun e => isUnack e.state) then
    match t with
    | some t => some t
    | none => startTimer now (sec 5)
  else none

/-- The repeat timer restarted at an entry to ACTIVE, from JOINING or from STANDBY (R140). -/
def AlertUnit.restartRepeat (a : AlertUnit) (st : StationState) (now : Clock) : AlertUnit :=
  { a with repeatTimer := repeatAfter st now a.list none }

/-- The alert unit after the list changes. -/
def AlertUnit.changedTo (a : AlertUnit) (st : StationState) (now : Clock) (l : List AlertEntry) : AlertUnit :=
  { a with list := l, changed := true, repeatTimer := repeatAfter st now l a.repeatTimer }

/-- The list at a new value: where it differs the change is a change of the list, which judges the waiting
ALERT's class and queues an ALERT in ACTIVE and STANDBY (R139, R140, R141). -/
def Comms.setList (m : Comms) (st : StationState) (now : Clock) (l : List AlertEntry) : Comms :=
  if l = m.alerts.list then m
  else
    let link := { m.link with queue := promoteAlert l m.link.queue }
    { m with alerts := m.alerts.changedTo st now l,
             link := if st.acting then link.put now (alertFrame now l) else link }

/-- Whether that change discards a frame from a full queue. -/
def Comms.setListLoses (m : Comms) (st : StationState) (now : Clock) (l : List AlertEntry) : Bool :=
  l != m.alerts.list && st.acting && offerLoses (alertFrame now l) (promoteAlert l m.link.queue)

/-- A condition becomes present and its raise is taken by the list (R132). -/
def Comms.raiseOnce (m : Comms) (st : StationState) (now : Clock) (c : AlertCode) : Comms :=
  { m.setList st now (raiseList c m.alerts.list) with present := m.present.set (alertIndex c) true }

/-- After an operation that may have lost a frame: TX_LOSS is raised at a loss if it is not present (R167). -/
def Comms.afterLoss (m : Comms) (lost : Bool) (st : StationState) (now : Clock) : Comms :=
  if lost && st.reporting && !m.has .txLoss then m.raiseOnce st now .txLoss else m

/-- The list at a new value, with the loss this may bring. -/
def Comms.relist (m : Comms) (st : StationState) (now : Clock) (l : List AlertEntry) : Comms :=
  (m.setList st now l).afterLoss (m.setListLoses st now l) st now

/-- A raise of a code (R132). -/
def Comms.raise (m : Comms) (st : StationState) (now : Clock) (c : AlertCode) : Comms :=
  (m.raiseOnce st now c).afterLoss (m.setListLoses st now (raiseList c m.alerts.list)) st now

/-- A clear of a code (R134). -/
def Comms.clear (m : Comms) (st : StationState) (now : Clock) (c : AlertCode) : Comms :=
  Comms.relist { m with present := m.present.set (alertIndex c) false } st now (clearList c m.alerts.list)

/-- A frame is offered to the queue: refused outside ACTIVE and STANDBY, which is no loss (R162). DESIGN CHOICE,
notes/assumptions/12.md: unsafe. -/
def Comms.offer (m : Comms) (st : StationState) (now : Clock) (w : Waiting) : Comms :=
  if st.acting then
    Comms.afterLoss { m with link := m.link.put now w } (offerLoses w m.link.queue) st now
  else m

/-! ## The same at the station -/

/-- A raise of a code. -/
def State.raise (s : State) (c : AlertCode) : State :=
  { s with comms := s.comms.raise s.station s.clock c }

/-- A raise of a code that is not present. -/
def State.raiseNew (s : State) (c : AlertCode) : State :=
  { s with comms := if s.has c then s.comms else s.comms.raise s.station s.clock c }

/-- A clear of a code that is present. -/
def State.clear (s : State) (c : AlertCode) : State :=
  { s with comms := if s.has c then s.comms.clear s.station s.clock c else s.comms }

/-- A condition made to follow a test: raised when it comes to hold, cleared when it ends. -/
def State.follow (s : State) (c : AlertCode) (holds : Bool) : State :=
  if holds then s.raiseNew c else s.clear c

/-- A condition of an owner that acts at the changes of a test alone: raised as the test comes to hold, cleared as
it ends, and left as it stands while the test does not change. -/
def State.followChange (s : State) (c : AlertCode) (was holds : Bool) : State :=
  if was = holds then s else s.follow c holds

/-- The alert list changed by an acknowledgement. -/
def State.relist (s : State) (l : List AlertEntry) : State :=
  { s with comms := s.comms.relist s.station s.clock l }

/-- A frame kind assembled at send is offered at a class. -/
def State.offer (s : State) (k : FrameKind) (cls : Fin 4) : State :=
  { s with comms := s.comms.offer s.station s.clock ⟨k, cls, s.clock, none⟩ }

/-- A frame whose content is taken at enqueue is offered at a class (R163). -/
def State.offerWith (s : State) (cls : Fin 4) (p : Payload) : State :=
  { s with comms := s.comms.offer s.station s.clock ⟨payloadKind p, cls, s.clock, some p⟩ }

/-- An ALERT is offered at the class the list gives (R140, R141). -/
def State.offerAlert (s : State) : State := s.offer .alert (alertClass s.comms.alerts.list)

end Sys2Proof.Machine
end

