-- ==== Sys2Proof/Machine/Flags.lean ====
section
/-! DEFINITION. The lines that follow from the state: TRIP and WARN (R139), the discrete outputs (R179, R180),
the safe state's hold on the PWM outputs (R178) and the level of an output within its period (R176). -/

namespace Sys2Proof.Machine

/-- TRIP is asserted while a trip-class entry is active, and in FAILED (R139). -/
def State.trip (s : State) : Bool :=
  s.station == .failed || s.comms.alerts.list.any (fun e => tripClass e.code && isActive e.state)

/-- WARN is asserted while an entry is unacknowledged, and released in FAILED (R131, R139). -/
def State.warn (s : State) : Bool :=
  s.station != .failed && s.comms.alerts.list.any (fun e => isUnack e.state)

/-! ## Discrete outputs -/

/-- Whether a gear state drives the ahead solenoid (R60). -/
def aheadSolenoid : GearState → Bool
  | .engagingAhead | .ahead => true
  | .neutral | .engagingAstern | .astern | .disengaging | .dwell | .gearFault => false

/-- Whether a gear state drives the astern solenoid (R60). -/
def asternSolenoid : GearState → Bool
  | .engagingAstern | .astern => true
  | .neutral | .engagingAhead | .ahead | .disengaging | .dwell | .gearFault => false

/-- The owner's setting of a discrete output (R179); DO2 to DO7 have no owner. -/
def State.ownerSetting (s : State) (i : Fin 8) : Bool :=
  match s.role with
  | some .helm =>
    if i = 0 then s.helm.con == .holding else if i = 1 then s.helm.con == .requesting else false
  | some .propulsion =>
    if i = 0 then aheadSolenoid s.gear.state else if i = 1 then asternSolenoid s.gear.state else false
  | some .coupling =>
    if i = 0 then s.coup.winch == .heaving else if i = 1 then s.coup.winch == .heaving else false
  | none => false

/-- The level of a discrete output line: off while the safe state stands, else its owner's setting (R180). -/
def State.discrete (s : State) (i : Fin 8) : Bool := !s.station.safe && s.ownerSetting i

/-- The changes of DO0 and DO1 that a step makes, in the order in which their owner makes them: a COUPLING station
releases the brake (DO1) before it heaves (DO0) and stops the heave before it applies the brake (R105), and a
PROPULSION station turns one solenoid off before it turns the other on (R60). No rule orders the lamps of a HELM
station that goes from REQUESTING to HOLDING: the requesting lamp (DO1) goes off before the con lamp (DO0) comes on.
DESIGN CHOICE, notes/assumptions/23.md: unsafe. -/
def outputChanges (old new : State) : List (Fin 8 × Bool) :=
  let change := fun i => if old.discrete i == new.discrete i then [] else [(i, new.discrete i)]
  if new.discrete 0 then change 1 ++ change 0 else change 0 ++ change 1

/-! ## PWM outputs -/

/-- A unit's write: the inactive bank takes the duty and the mark is set (R177). -/
def Pwm.write (p : Pwm) (duty : Nat) : Pwm :=
  match p.inControl with
  | .a => { p with bankB := duty, pending := true }
  | .b => { p with bankA := duty, pending := true }

/-- The immediate write: both banks 0, the mark clear, the output low at once (R178). -/
def Pwm.immediate (p : Pwm) : Pwm := { p with bankA := 0, bankB := 0, pending := false, driving := 0 }

/-- The other bank. -/
def Bank.other : Bank → Bank
  | .a => .b
  | .b => .a

/-- The duty of a bank. -/
def Pwm.duty (p : Pwm) : Bank → Nat
  | .a => p.bankA
  | .b => p.bankB

/-- A period start: a pending bank takes control, and the period is driven at the duty in control (R176, R177). -/
def Pwm.periodStart (p : Pwm) : Pwm :=
  let control := if p.pending then p.inControl.other else p.inControl
  { p with inControl := control, pending := false, driving := p.duty control }

/-- A unit's write to an output, not taken while the safe state stands (R178, R180). -/
def State.writeDuty (s : State) (i : Fin 3) (duty : Nat) : State :=
  { s with outputs :=
      if s.station.safe then s.outputs
      else { s.outputs with outs := s.outputs.outs.set i ((s.outputs.outs.get i).write duty) } }

/-- The immediate write to the two valve outputs (R178). -/
def State.closeValves (s : State) : State :=
  { s with outputs := { s.outputs with
      outs := (s.outputs.outs.set 1 (s.outputs.outs.get 1).immediate).set 2 (s.outputs.outs.get 2).immediate } }

/-- The safe state's immediate write to every output (R178, R180). -/
def State.applySafe (s : State) : State :=
  { s with outputs := { s.outputs with outs := s.outputs.outs.map Pwm.immediate } }

/-- The level of a PWM output now: high for the first d × 2 µs of its period, and at duty 1000 high throughout, so
with no falling edge at the moment of a period start that has not been taken yet (R176). -/
def State.pwmLevel (s : State) (i : Fin 3) : Bool :=
  decide (1000 ≤ (s.outputs.outs.get i).driving)
    || decide (elapsed s.clock s.outputs.periods.since < (s.outputs.outs.get i).driving * 2)

end Sys2Proof.Machine
end

