-- ==== Sys2Proof/Machine/Wire.lean ====
section
/-! DEFINITION. Link frames as bytes: the layouts of R152 to R155, the check of R149 and the receive checks of R156. -/

namespace Sys2Proof.Machine

/-! ## Codes -/

/-- A kind's code, 1 to 11 (R151). -/
def kindCode : FrameKind → Nat
  | .demand => 1 | .con => 2 | .propState => 3 | .strain => 4 | .fuel => 5 | .account => 6
  | .alert => 7 | .ack => 8 | .roster => 9 | .standby => 10 | .wake => 11

/-- The kind of a code. -/
def kindOfCode : Nat → Option FrameKind
  | 1 => some .demand | 2 => some .con | 3 => some .propState | 4 => some .strain | 5 => some .fuel
  | 6 => some .account | 7 => some .alert | 8 => some .ack | 9 => some .roster | 10 => some .standby
  | 11 => some .wake | _ => none

/-- A role's code, 1 to 3 (chapter Roles). -/
def roleCode : Role → Nat
  | .helm => 1 | .propulsion => 2 | .coupling => 3

/-- The role of a code. -/
def roleOfCode : Nat → Option Role
  | 1 => some .helm | 2 => some .propulsion | 3 => some .coupling | _ => none

/-- Whether stations of a role may send a kind (R151). -/
def mayRoleSend : Role → FrameKind → Bool
  | _, .alert => true
  | .propulsion, .propState | .propulsion, .fuel => true
  | .coupling, .strain => true
  | .helm, .demand | .helm, .con | .helm, .account | .helm, .ack => true
  | .helm, .roster | .helm, .standby | .helm, .wake => true
  | .helm, .propState | .helm, .strain | .helm, .fuel => false
  | .propulsion, .demand | .propulsion, .con | .propulsion, .strain | .propulsion, .account => false
  | .propulsion, .ack | .propulsion, .roster | .propulsion, .standby | .propulsion, .wake => false
  | .coupling, .demand | .coupling, .con | .coupling, .propState | .coupling, .fuel => false
  | .coupling, .account | .coupling, .ack | .coupling, .roster | .coupling, .standby => false
  | .coupling, .wake => false

/-- Whether a kind is queued at a class (R151). -/
def classAllowed : FrameKind → Nat → Bool
  | .demand, c | .con, c | .standby, c | .wake, c => c == 1
  | .propState, c | .ack, c | .roster, c => c == 2
  | .strain, c => c == 0 || c == 2
  | .fuel, c | .account, c => c == 3
  | .alert, c => c == 2 || c == 3

def modeCode : SteeringMode → Nat
  | .normal => 0 | .flanking => 1 | .midship => 2
def modeOfCode : Nat → Option SteeringMode
  | 0 => some .normal | 1 => some .flanking | 2 => some .midship | _ => none
def gearCode : GearState → Nat
  | .neutral => 0 | .engagingAhead => 1 | .ahead => 2 | .engagingAstern => 3 | .astern => 4
  | .disengaging => 5 | .dwell => 6 | .gearFault => 7
def gearOfCode : Nat → Option GearState
  | 0 => some .neutral | 1 => some .engagingAhead | 2 => some .ahead | 3 => some .engagingAstern
  | 4 => some .astern | 5 => some .disengaging | 6 => some .dwell | 7 => some .gearFault | _ => none
/-- The side as a signed byte (R154). -/
def sideCode : Side → Nat
  | .port => 1 | .centre => 0 | .starboard => 255
def sideOfCode : Nat → Option Side
  | 1 => some .port | 0 => some .centre | 255 => some .starboard | _ => none
def rudderCode : RudderType → Nat
  | .steering => 0 | .flanking => 1
def rudderOfCode : Nat → Option RudderType
  | 0 => some .steering | 1 => some .flanking | _ => none
def classCode : StrainClass → Nat
  | .slack => 0 | .taut => 1 | .high => 2 | .overload => 3 | .parted => 4
def classOfCode : Nat → Option StrainClass
  | 0 => some .slack | 1 => some .taut | 2 => some .high | 3 => some .overload | 4 => some .parted
  | _ => none
def winchCode : WinchState → Nat
  | .idle => 0 | .heaving => 1 | .holding => 2 | .lockedOut => 3
def winchOfCode : Nat → Option WinchState
  | 0 => some .idle | 1 => some .heaving | 2 => some .holding | 3 => some .lockedOut | _ => none
def actionCode : ConAction → Nat
  | .request => 1 | .grant => 2 | .decline => 3 | .take => 4
def actionOfCode : Nat → Option ConAction
  | 1 => some .request | 2 => some .grant | 3 => some .decline | 4 => some .take | _ => none
def entryStateCode : EntryState → Nat
  | .activeUnack => 0 | .activeAcked => 1 | .clearedUnack => 2
def entryStateOfCode : Nat → Option EntryState
  | 0 => some .activeUnack | 1 => some .activeAcked | 2 => some .clearedUnack | _ => none

/-! ## Fields of several bytes, most significant byte first (R152) -/

def byteOf (n : Nat) : Byte := BitVec.ofNat 8 n
def be16 (w : BitVec 16) : List Byte := [w.extractLsb' 8 8, w.extractLsb' 0 8]
def be32 (w : BitVec 32) : List Byte :=
  [w.extractLsb' 24 8, w.extractLsb' 16 8, w.extractLsb' 8 8, w.extractLsb' 0 8]
def be40 (w : BitVec 40) : List Byte :=
  [w.extractLsb' 32 8, w.extractLsb' 24 8, w.extractLsb' 16 8, w.extractLsb' 8 8, w.extractLsb' 0 8]
def of16 (a b : Byte) : BitVec 16 := a ++ b
def of32 (a b c d : Byte) : BitVec 32 := a ++ b ++ c ++ d
def of40 (a b c d e : Byte) : BitVec 40 := a ++ b ++ c ++ d ++ e
/-- A byte of flags: bit 0, 1, 2 and 3. -/
def flagsByte (b0 b1 b2 b3 : Bool) : Byte :=
  byteOf (b0.toNat + 2 * b1.toNat + 4 * b2.toNat + 8 * b3.toNat)

/-! ## Sending (R152 to R155) -/

/-- An ALERT's items. -/
def alertItemBytes : List AlertItem → List Byte
  | [] => []
  | it :: its => byteOf (alertNumber it.code) :: byteOf (entryStateCode it.state) :: it.occ :: alertItemBytes its

/-- An ACK's items. -/
def ackItemBytes : List AckItem → List Byte
  | [] => []
  | it :: its => it.station :: byteOf (alertNumber it.code) :: it.occ :: ackItemBytes its

/-- A payload's bytes (R153 to R155). -/
def payloadBytes : Payload → List Byte
  | .demand p =>
    [p.number, p.epoch] ++ be16 p.thrust ++ be16 p.turn ++ [byteOf (modeCode p.mode)] ++ be16 p.cap
      ++ [flagsByte p.stopAll false false false]
  | .con action p =>
    [byteOf (actionCode action), byteOf p.target.val, p.epoch] ++ be16 p.thrust ++ be16 p.turn
  | .propState p =>
    be16 p.rated ++ be16 p.ahead ++ be16 p.astern ++ be16 p.setpoint
      ++ [byteOf (gearCode p.gear), byteOf (sideCode p.side), byteOf (rudderCode p.rudder)] ++ be16 p.angle
      ++ be16 p.rpm ++ be16 p.fuelRate ++ be16 p.trim ++ [p.followed, flagsByte p.standby p.trip p.warn false]
  | .strain p =>
    [p.joint, byteOf (classCode p.cls)] ++ be16 p.tension ++ be16 p.peak
      ++ [byteOf (winchCode p.winch), flagsByte p.standby false false false]
  | .fuel p =>
    be32 (p.totals.get 0) ++ be32 (p.totals.get 1) ++ be32 (p.totals.get 2) ++ be32 (p.totals.get 3)
      ++ [p.tank] ++ be16 p.rate
  | .account p =>
    be40 (p.totals.get 0) ++ be40 (p.totals.get 1) ++ be40 (p.totals.get 2) ++ be40 (p.totals.get 3)
      ++ [flagsByte (p.low.get 0) (p.low.get 1) (p.low.get 2) (p.low.get 3)]
  | .alert p => [flagsByte p.part1 p.last false false, byteOf p.items.length] ++ alertItemBytes p.items
  | .ack items => byteOf items.length :: ackItemBytes items
  | .roster e => [e]
  | .standby e => [e]
  | .wake e => [e]

/-- A frame's header (R152). -/
def headerBytes (f : Frame) : List Byte :=
  [byteOf (kindCode (payloadKind f.payload) + 16 * f.cls.val + 64 * f.start.toNat),
   byteOf (f.source.val + 32 * roleCode f.role), byteOf (payloadBytes f.payload).length]

/-- A frame's header and payload: what the transmit residue steps over (R149). -/
def frameBytes (f : Frame) : List Byte := headerBytes f ++ payloadBytes f.payload

/-- The check of a frame: the transmit residue after its header and payload (R149). -/
def frameCheck (f : Frame) : Word := crcBits crcSeed (bytesBits (frameBytes f))

/-- The bits of a frame between its preamble and its end marker, in the order sent (R147). -/
def frameBits (f : Frame) : List Bool := bytesBits (frameBytes f) ++ wordBits (frameCheck f)

/-- The levels of a bit's two halves: a 1 is low and then high, a 0 high and then low (R147). -/
def bitLevels (b : Bool) : List Bool := [!b, b]

/-- The half-bit levels of bits in the order sent. -/
def codeLevels (bits : List Bool) : List Bool := bits.flatMap bitLevels

/-- The preamble: 16 bits 1, 0, 1, 0 and so on, ending with 0 (R147). -/
def preambleBits : List Bool := (List.replicate 8 [true, false]).flatten

/-- The end marker: one bit time high, then one low, with no change at mid-bit (R147). -/
def endLevels : List Bool := [true, true, false, false]

/-- The half-bit levels of a frame as it is sent: preamble, header, payload, check and end marker (R147). -/
def frameLevels (f : Frame) : List Bool := codeLevels (preambleBits ++ frameBits f) ++ endLevels

/-- The half-bit levels of a jam: 16 bit times of 1 bits (R158). -/
def jamLevels : List Bool := codeLevels (List.replicate 16 true)

/-- The level a time after the start of half-bit levels of 4 µs each, none once all are sent (R147): at a boundary,
that of the half that begins there. DESIGN CHOICE, notes/assumptions/59.md: unsafe. -/
def levelAt (levels : List Bool) (t : Micros) : Option Bool := levels[t / 4]?

/-- A frame with a payload of L bytes lasts 58 + 8 × L bit times (R147). -/
def frameBitTimes (f : Frame) : Nat := 58 + 8 * (payloadBytes f.payload).length

/-- The transmit residue `n` bit times into a transmission: it steps over each header and payload bit as it is sent,
after the 16 preamble bits (R147, R149). DESIGN CHOICE, notes/assumptions/8.md: unsafe. -/
def residueAt (f : Frame) (n : Nat) : Word := crcBits crcSeed ((bytesBits (frameBytes f)).take (n - 16))

/-- The bit time of a transmission in which a moment lies, from 1. DEDUCED, notes/assumptions/42.md: safe. -/
def bitTimeOf (now since : Clock) : Nat := (elapsed now since + 7) / 8

/-! ## Receiving (R156) -/

/-- The receive checks. -/
inductive RxCheck where
  | residue | size | length | reserved | role | kind | kindAgainstRole | cls | codes
deriving DecidableEq, Repr

/-- Eight bits as a byte, most significant first. -/
def byteOfBits (b7 b6 b5 b4 b3 b2 b1 b0 : Bool) : Byte :=
  byteOf (128 * b7.toNat + 64 * b6.toNat + 32 * b5.toNat + 16 * b4.toNat + 8 * b3.toNat + 4 * b2.toNat
    + 2 * b1.toNat + b0.toNat)

/-- Bits gathered into bytes; none if they are not a whole number of bytes. -/
def gatherBytes : List Bool → Option (List Byte)
  | [] => some []
  | b7 :: b6 :: b5 :: b4 :: b3 :: b2 :: b1 :: b0 :: rest =>
    (gatherBytes rest).map (fun bs => byteOfBits b7 b6 b5 b4 b3 b2 b1 b0 :: bs)
  | _ => none

/-- An ALERT's items; none where a code, state or occurrence is out of range. -/
def parseAlertItems : List Byte → Option (List AlertItem)
  | [] => some []
  | c :: st :: occ :: rest =>
    match alertOfNumber c.toNat, entryStateOfCode st.toNat, occOk occ, parseAlertItems rest with
    | some code, some state, true, some its => some ({ code := code, state := state, occ := occ } :: its)
    | _, _, _, _ => none
  | _ => none

/-- An ACK's items; none where a code or occurrence is out of range. -/
def parseAckItems : List Byte → Option (List AckItem)
  | [] => some []
  | st :: c :: occ :: rest =>
    match alertOfNumber c.toNat, occOk occ, parseAckItems rest with
    | some code, true, some its => some ({ station := st, code := code, occ := occ } :: its)
    | _, _, _ => none
  | _ => none

/-- A coded field's value, or the codes check failed. -/
def coded {α : Type} : Option α → Except RxCheck α
  | some a => .ok a
  | none => .error .codes

/-- A payload read by its kind's layout, with the length and codes checks (R151, R153 to R156). Flag bits that
are sent 0 and named by no check are not read. -/
def parsePayload : FrameKind → List Byte → Except RxCheck Payload
  | .demand, [n, e, d1, d0, t1, t0, m, c1, c0, f] => do
    let mode ← coded (modeOfCode m.toNat)
    return .demand { number := n, epoch := e, thrust := of16 d1 d0, turn := of16 t1 t0, mode := mode,
                     cap := of16 c1 c0, stopAll := f.getLsbD 0 }
  | .con, [a, t, e, d1, d0, t1, t0] => do
    let action ← coded (actionOfCode a.toNat)
    let target ← coded (if h : t.toNat < 32 then some (⟨t.toNat, h⟩ : Addr) else none)
    return .con action { target := target, epoch := e, thrust := of16 d1 d0, turn := of16 t1 t0 }
  | .propState, [r1, r0, a1, a0, b1, b0, x1, x0, g, sd, ru, an1, an0, s1, s0, f1, f0, e1, e0, n, fl] => do
    let gear ← coded (gearOfCode g.toNat)
    let side ← coded (sideOfCode sd.toNat)
    let rudder ← coded (rudderOfCode ru.toNat)
    return .propState
      { rated := of16 r1 r0, ahead := of16 a1 a0, astern := of16 b1 b0, setpoint := of16 x1 x0, gear := gear,
        side := side, rudder := rudder, angle := of16 an1 an0, rpm := of16 s1 s0, fuelRate := of16 f1 f0,
        trim := of16 e1 e0, followed := n, standby := fl.getLsbD 0, trip := fl.getLsbD 1,
        warn := fl.getLsbD 2 }
  | .strain, [j, c, t1, t0, p1, p0, w, fl] => do
    let cls ← coded (classOfCode c.toNat)
    let winch ← coded (winchOfCode w.toNat)
    return .strain { joint := j, cls := cls, tension := of16 t1 t0, peak := of16 p1 p0, winch := winch,
                     standby := fl.getLsbD 0 }
  | .fuel, [a3, a2, a1, a0, b3, b2, b1, b0, c3, c2, c1, c0, d3, d2, d1, d0, tk, r1, r0] =>
    .ok (.fuel { totals := Tab.of4 (of32 a3 a2 a1 a0) (of32 b3 b2 b1 b0) (of32 c3 c2 c1 c0) (of32 d3 d2 d1 d0),
                 tank := tk, rate := of16 r1 r0 })
  | .account, [a4, a3, a2, a1, a0, b4, b3, b2, b1, b0, c4, c3, c2, c1, c0, d4, d3, d2, d1, d0, fl] =>
    .ok (.account { totals := Tab.of4 (of40 a4 a3 a2 a1 a0) (of40 b4 b3 b2 b1 b0) (of40 c4 c3 c2 c1 c0)
                                (of40 d4 d3 d2 d1 d0),
                    low := Tab.of4 (fl.getLsbD 0) (fl.getLsbD 1) (fl.getLsbD 2) (fl.getLsbD 3) })
  | .alert, part :: n :: rest =>
    if 4 ≤ part.toNat ∨ 8 < n.toNat then .error .codes
    else if rest.length ≠ 3 * n.toNat then .error .length
    else do
      let items ← coded (parseAlertItems rest)
      return .alert { part1 := part.getLsbD 0, last := part.getLsbD 1, items := items }
  | .ack, n :: rest =>
    if n.toNat = 0 ∨ 8 < n.toNat then .error .codes
    else if rest.length ≠ 3 * n.toNat then .error .length
    else do
      let items ← coded (parseAckItems rest)
      return .ack items
  | .roster, [e] => .ok (.roster e)
  | .standby, [e] => .ok (.standby e)
  | .wake, [e] => .ok (.wake e)
  | _, _ => .error .length

/-- The checks of the header, and the payload's own, on the bytes before the check. -/
def parseFrame (b0 b1 b2 : Byte) (payload : List Byte) : Except RxCheck Frame :=
  if 28 < b2.toNat then .error .length
  else if b0.getLsbD 7 then .error .reserved
  else
    match roleOfCode (b1.toNat / 32) with
    | none => .error .role
    | some role =>
      match kindOfCode (b0.toNat % 16) with
      | none => .error .kind
      | some kind =>
        if !mayRoleSend role kind then .error .kindAgainstRole
        else if !classAllowed kind (b0.toNat / 16 % 4) then .error .cls
        else do
          let p ← parsePayload kind payload
          return { start := b0.getLsbD 6, source := Fin.ofNat 32 (b1.toNat % 32), role := role,
                   cls := Fin.ofNat 4 (b0.toNat / 16 % 4), payload := p }

/-- The receive checks on the bits gathered between the preamble and the end marker (R156): the residue first. -/
def receiveChecks (bits : List Bool) : Except RxCheck Frame :=
  if crcBits crcSeed bits ≠ 0#16 then .error .residue
  else
    match gatherBytes bits with
    | some (b0 :: b1 :: b2 :: rest) =>
      if rest.length < 2 ∨ rest.length ≠ b2.toNat + 2 then .error .size
      else parseFrame b0 b1 b2 (rest.take b2.toNat)
    | _ => .error .size

/-- A payload that a frame on the link can carry: its item count and occurrence numbers pass the codes check (R156).
-/
def payloadOk : Payload → Bool
  | .alert p => p.ok
  | .ack items => ackItemsOk items
  | .demand _ => true
  | .con _ _ => true
  | .propState _ => true
  | .strain _ => true
  | .fuel _ => true
  | .account _ => true
  | .roster _ => true
  | .standby _ => true
  | .wake _ => true

/-- A frame as a station sends one: its kind is one its role may send, at a class the kind is queued at. -/
def frameOk (f : Frame) : Bool :=
  payloadOk f.payload && mayRoleSend f.role (payloadKind f.payload)
    && classAllowed (payloadKind f.payload) f.cls.val

end Sys2Proof.Machine
end

