-- ==== Sys2Proof/Machine/Peers.lean ====
section
/-! DEFINITION. The peer table (chapter 1): the own entry, the readings made of the table, and its updates. -/

namespace Sys2Proof.Machine

/-! ## The own entry and the table as readers see it (R10, section 1.8) -/

/-- The propulsion record of the own entry: what a PROP_STATE assembled now carries (R10). -/
def State.ownPropRecord (s : State) : PropRecord :=
  { ahead := s.thrust.ahead, astern := s.thrust.astern, setpoint := s.thrust.x, gear := s.gear.state,
    angle := s.steer.angle, rpm := s.gov.rpm, fuelRate := s.meter.rate, trim := s.thrust.trim,
    followed := s.demand.record.number, trip := s.trip, warn := s.warn }

/-- The strain record of the own entry: what a STRAIN assembled now carries (R10, R103). -/
def State.ownStrainRecord (s : State) : StrainRecord :=
  { cls := s.coup.cls, tension := s.coup.filtered, peak := s.coup.peak.getD s.coup.filtered,
    winch := s.coup.winch }

/-- The own entry's role, roster part and record (R10). -/
def State.ownBody (s : State) : Role → EntryBody
  | .helm => .helm
  | .propulsion =>
    .propulsion { rated := s.param Param.ratedThrust, side := s.side, rudder := s.rudderType } false
      s.ownPropRecord
  | .coupling => .coupling (s.param Param.joint) false s.ownStrainRecord

/-- The own entry: LIVE and heard now, from JOINING entry until the next reset (R10). -/
def State.ownEntry (s : State) : Option Entry :=
  if s.station.joined then s.role.map (fun r => { body := s.ownBody r, liveness := .live, heard := s.clock })
  else none

/-- The table as its readers see it: the stored entries with the own entry at the own address. -/
def State.table (s : State) : Tab 32 (Option Entry) := s.peers.entries.set s.address s.ownEntry

/-- An entry's role. -/
def bodyRole : EntryBody → Role
  | .helm => .helm
  | .propulsion _ _ _ => .propulsion
  | .coupling _ _ _ => .coupling

/-- The rated thrust of a PROPULSION entry, 0 of any other (R40). -/
def entryRated : Option Entry → Nat
  | some { body := .propulsion roster _ _, .. } => roster.rated
  | _ => 0

/-- The record of a LIVE PROPULSION entry. -/
def livePropRecord : Option Entry → Option PropRecord
  | some { body := .propulsion _ _ r, liveness := .live, .. } => some r
  | _ => none

/-- The records of the LIVE PROPULSION entries, own included. -/
def State.liveProps (s : State) : List PropRecord := s.table.cells.filterMap livePropRecord

/-- ΣR: the sum of the rated thrust over the PROPULSION entries that are not EMPTY (R40). -/
def State.rating (s : State) : Nat := sumNat (s.table.cells.map entryRated)

/-- S: the sum of the available ahead over the LIVE PROPULSION entries (R41). -/
def State.sumAhead (s : State) : Nat := sumNat (s.liveProps.map PropRecord.ahead)

/-- S_B: the sum of the available astern over the LIVE PROPULSION entries (R42). -/
def State.sumAstern (s : State) : Nat := sumNat (s.liveProps.map PropRecord.astern)

/-- The factor of a class for an entry that is LIVE or STANDBY (R53). -/
def classFactor : StrainClass → Nat
  | .slack => 1000 | .taut => 1000 | .high => 750 | .overload => 400 | .parted => 250

/-- A COUPLING entry's factor, none for any other: SILENT counts at 750 or its class's, whichever is less (R53). -/
def entryFactor : Option Entry → Option Nat
  | some { body := .coupling _ _ r, liveness := .silent, .. } => some (min 750 (classFactor r.cls))
  | some { body := .coupling _ _ r, .. } => some (classFactor r.cls)
  | _ => none

/-- The least of the values that a list of optional values holds, starting from a value. -/
def leastOf (d : Nat) : List (Option Nat) → Nat
  | [] => d
  | none :: as => leastOf d as
  | some a :: as => leastOf (min d a) as

/-- F: the least factor over the COUPLING entries that are not EMPTY, 1000 where there is none (R53). -/
def State.strainFactorNow (s : State) : Nat := leastOf 1000 (s.table.cells.map entryFactor)

/-- The rudder angle of a LIVE PROPULSION entry of a rudder type (R89). -/
def peerAngle (t : RudderType) : Option Entry → Option Int
  | some { body := .propulsion roster _ r, liveness := .live, .. } =>
    if roster.rudder = t then some r.angle else none
  | _ => none

/-- The angles of the spread monitor's peer set: stored entries only, the own one excluded (R89). -/
def State.peerAngles (s : State) : List Int :=
  (s.peers.entries.set s.address none).cells.filterMap (peerAngle s.rudderType)

/-- A COUPLING entry whose class is OVERLOAD or PARTED, whatever its liveness (R106). -/
def entryLoaded : Option Entry → Bool
  | some { body := .coupling _ _ r, .. } => r.cls == .overload || r.cls == .parted
  | _ => false

/-- A SILENT entry whose role is PROPULSION or COUPLING (R15). -/
def entrySilentWorker : Option Entry → Bool
  | some { body := .propulsion _ _ _, liveness := .silent, .. } => true
  | some { body := .coupling _ _ _, liveness := .silent, .. } => true
  | _ => false

/-- The con timeout test of R28: the viewed holder is none, EMPTY or SILENT, or not heard for the con timeout. -/
def State.holderSilent (s : State) : Bool :=
  match s.demand.view.holder with
  | none => true
  | some h =>
    match s.table.get h with
    | none => true
    | some e =>
      e.liveness == .silent || decide (sec (s.param Param.conTimeout) ≤ elapsed s.clock e.heard)

/-! ## Updating an entry (R6 to R9) -/

/-- The propulsion record a PROP_STATE carries (R8). -/
def propRecordOf (p : PropStateFields) : PropRecord :=
  { ahead := p.ahead.toNat, astern := p.astern.toNat, setpoint := signed16 p.setpoint, gear := p.gear,
    angle := signed16 p.angle, rpm := p.rpm.toNat, fuelRate := p.fuelRate.toNat, trim := p.trim.toNat,
    followed := p.followed, trip := p.trip, warn := p.warn }

/-- The roster fields a PROP_STATE carries (R6). -/
def propRosterOf (p : PropStateFields) : PropRoster :=
  { rated := p.rated.toNat, side := p.side, rudder := p.rudder }

/-- The strain record a STRAIN carries (R8). -/
def strainRecordOf (p : StrainFields) : StrainRecord :=
  { cls := p.cls, tension := p.tension.toNat, peak := p.peak.toNat, winch := p.winch }

/-- A frame's STANDBY flag, none for a kind that carries none (R7). -/
def standbyFlag : Payload → Option Bool
  | .propState p => some p.standby
  | .strain p => some p.standby
  | _ => none

/-- The liveness after a frame (R7). -/
def livenessAfter (before : Liveness) (flag : Option Bool) : Liveness :=
  match flag, before with
  | some true, _ => .standby
  | some false, _ => .live
  | none, .standby => .standby
  | none, .live => .live
  | none, .silent => .live

/-- What fills an EMPTY entry, none where the frame leaves it EMPTY (R6). -/
def fillBody (role : Role) (p : Payload) : Option EntryBody :=
  match role, p with
  | .helm, _ => some .helm
  | .propulsion, .propState p => some (.propulsion (propRosterOf p) false (propRecordOf p))
  | .coupling, .strain p => some (.coupling p.joint.toNat false (strainRecordOf p))
  | .propulsion, _ => none
  | .coupling, _ => none

/-- The role's fields after a frame of that role: the record replaced by the state frame, the roster written
from it when it carries START or a refresh is pending, and a refresh made pending by START on another kind
(R8, R9). -/
def updateBody (start : Bool) (p : Payload) : EntryBody → EntryBody
  | .helm => .helm
  | .propulsion roster refresh record =>
    match p with
    | .propState p => .propulsion (if start || refresh then propRosterOf p else roster) false (propRecordOf p)
    | _ => .propulsion roster (start || refresh) record
  | .coupling joint refresh record =>
    match p with
    | .strain p => .coupling (if start || refresh then p.joint.toNat else joint) false (strainRecordOf p)
    | _ => .coupling joint (start || refresh) record

/-- An entry after a good frame from its address whose role it does not contradict (R6 to R9). -/
def entryAfter (now : Clock) (f : Frame) : Option Entry → Option Entry
  | none =>
    (fillBody f.role f.payload).map
      (fun b => { body := b, liveness := livenessAfter .live (standbyFlag f.payload), heard := now })
  | some e =>
    some { body := updateBody f.start f.payload e.body,
           liveness := livenessAfter e.liveness (standbyFlag f.payload), heard := now }

/-- A frame whose role differs from that of the entry at its source (R5). -/
def State.conflicts (s : State) (f : Frame) : Bool :=
  match s.peers.entries.get f.source with
  | none => false
  | some e => bodyRole e.body != f.role

/-- Whether the conflict list holds any item. -/
def State.anyConflict (s : State) : Bool := s.peers.conflicts.cells.any Option.isSome

/-- ADDRESS_CONFLICT, in ACTIVE, STANDBY and LISTEN_ONLY: raised as the conflict list goes from empty to an item and
cleared as it becomes empty, `was` being whether it held any item before the event (R5, R16). -/
def State.judgeConflict (s : State) (was : Bool) : State :=
  { s with comms :=
      (if s.station.reporting then s.followChange .addressConflict was s.anyConflict else s).comms }

/-- The count of R15 is not zero. -/
def State.anySilentWorker (s : State) : Bool := s.peers.entries.cells.any entrySilentWorker

/-- PEER_SILENT, at a PROPULSION or HELM station in ACTIVE, STANDBY and LISTEN_ONLY: raised as the count of SILENT
PROPULSION and COUPLING entries leaves zero and cleared as it returns to it, `was` being whether it was not zero
before the event (R15, R16). -/
def State.judgeSilent (s : State) (was : Bool) : State :=
  { s with comms :=
      (if s.station.reporting && (s.isHelm || s.isProp) then s.followChange .peerSilent was s.anySilentWorker
       else s).comms }

/-- A conflicting frame is recorded (R5). -/
def State.recordConflict (s : State) (a : Addr) : State :=
  State.judgeConflict
    { s with peers := { s.peers with conflicts := s.peers.conflicts.set a (some s.clock) } } s.anyConflict

/-- The stored entry at a frame's source after the frame (R6 to R9). -/
def State.updateEntry (s : State) (f : Frame) : State :=
  { s with peers := { s.peers with
      entries := s.peers.entries.set f.source (entryAfter s.clock f (s.peers.entries.get f.source)) } }

/-- An entry at a sweep: a LIVE one heard the silence limit or more ago becomes SILENT (R11). -/
def sweepEntry (now : Clock) (limit : Micros) : Option Entry → Option Entry
  | some { body := b, liveness := .live, heard := h } =>
    some { body := b, liveness := if limit ≤ elapsed now h then .silent else .live, heard := h }
  | e => e

/-- A conflict item at a sweep: removed at 30,000 ms (R5). -/
def sweepConflict (now : Clock) (c : Option Clock) : Option Clock := if aged c now (ms 30000) then none else c

/-- The table after a sweep (R11). -/
def State.sweepTable (s : State) : State :=
  { s with peers := { s.peers with
      entries := s.peers.entries.map (sweepEntry s.clock (ms (s.param Param.silenceLimit))),
      conflicts := s.peers.conflicts.map (sweepConflict s.clock) } }

/-- Whether an entry is SILENT. -/
def entrySilent : Option Entry → Bool
  | some e => e.liveness == .silent
  | none => false

/-- The addresses at which a test of the stored entry holds, counted from `k`. -/
def addressesFrom (p : Option Entry → Bool) : Nat → List (Option Entry) → List Nat
  | _, [] => []
  | k, e :: es => if p e then k :: addressesFrom p (k + 1) es else addressesFrom p (k + 1) es

/-- The addresses whose entries a forget makes EMPTY (R13). -/
def State.silentAddresses (s : State) : List Nat := addressesFrom entrySilent 0 s.peers.entries.cells

/-- The table after a forget: every SILENT entry EMPTY and its conflict item removed (R13). -/
def State.forgetEntries (s : State) : State :=
  { s with peers := { s.peers with
      entries := s.peers.entries.map (fun e => if entrySilent e then none else e),
      conflicts := s.peers.conflicts.mapIdx
        (fun i c => if s.silentAddresses.contains i then none else c) } }

end Sys2Proof.Machine
end

