-- ==== Sys2Proof/Machine/Thrust.lean ====
section
/-! DEFINITION. The thrust unit (chapter 3): evaluation, ramp, duty, availability, strain factor, economy trim. -/

namespace Sys2Proof.Machine

/-! ## The six stages (R39 to R45) -/

/-- The thrust demand D of the record, 0 while STOP_ALL is set (R39). -/
def State.demandD (s : State) : Int :=
  if s.demand.record.demand.stopAll then 0 else s.demand.record.demand.thrust

/-- Q: the convoy request (R40). -/
def convoyRequest (d : Int) (rating : Nat) : Int := Int.tdiv (d * rating) 1000

/-- Q′: the request scaled for strain (R40). -/
def strainScaled (q : Int) (f : Nat) : Int := Int.tdiv (q * f) 1000

/-- This line's share of an ahead request (R41). -/
def aheadShare (q : Int) (a sum : Nat) : Int :=
  if sum = 0 then 0 else min (a : Int) ((q.natAbs * a / sum : Nat) : Int)

/-- This line's share of an astern request, negative (R42). -/
def asternShare (q : Int) (b sum : Nat) : Int :=
  if sum = 0 then 0 else -(min (b : Int) ((q.natAbs * b / sum : Nat) : Int))

/-- The share (R41, R42). -/
def shareOf (q : Int) (a b sumA sumB : Nat) : Int := if 0 ≤ q then aheadShare q a sumA else asternShare q b sumB

/-- The economic share (R43). -/
def economicShare (share : Int) (trim : Nat) : Int := Int.tdiv (share * trim) 1000

/-- Δ: the turn differential (R44). -/
def turnDifferential (turn : Int) (k rated : Nat) (side : Side) : Int :=
  Int.sign turn * ((turn.natAbs * k * rated / 1000000 : Nat) : Int) * sideSign side

/-- The target of an evaluation with the strain factor given and every other input as it stands (R39 to R45). -/
def State.targetWith (s : State) (f : Nat) : Int :=
  let q := strainScaled (convoyRequest s.demandD s.rating) f
  let share := shareOf q s.thrust.ahead s.thrust.astern s.sumAhead s.sumAstern
  let delta := turnDifferential s.demand.record.demand.turn (s.param Param.turnAuthority)
    (s.param Param.ratedThrust) s.side
  clampInt (-(s.thrust.astern : Int)) s.thrust.ahead (economicShare share s.thrust.trim + delta)

/-- The target of an evaluation (R45). -/
def State.target (s : State) : Int := s.targetWith s.thrust.strain

/-! ## The ramp (R46, R47) -/

/-- The desired value (R46). -/
def desiredValue (gear : GearState) (stopAll : Bool) (target : Int) : Int :=
  match gear, stopAll with
  | .ahead, false => if 0 < target then target else 0
  | .astern, false => if target < 0 then target else 0
  | _, _ => 0

/-- The step (R47). -/
def rampStep (rate f : Nat) (stopAll : Bool) : Nat :=
  let base := max 1 (rate / 10)
  let halved := if f < 1000 then max 1 (base / 2) else base
  if stopAll then halved * 4 else halved

/-- X moved toward the desired value by at most one step (R46). -/
def rampToward (x want : Int) (step : Nat) : Int :=
  if (want - x).natAbs ≤ step then want else if x < want then x + step else x - step

/-! ## Duty and expected speed (R48, R49) -/

/-- Whether a gear state is AHEAD or ASTERN. -/
def engaged : GearState → Bool
  | .ahead | .astern => true
  | .neutral | .engagingAhead | .engagingAstern | .disengaging | .dwell | .gearFault => false

/-- The governor duty: the law of R48 within its bound of 1000, which the owner keeps before it writes (R177). The
law alone passes the bound only where a damaged image gives a rated thrust below |X| (R193). -/
def dutyOf (gear : GearState) (x : Int) (rated : Nat) : Nat :=
  if engaged gear && x != 0 then min 1000 (isqrt (x.natAbs * 1000000 / rated)) else 0

/-- The expected shaft speed (R49). -/
def expectedSpeed (idle maxi duty : Nat) : Nat := ((idle : Int) + Int.tdiv (((maxi : Int) - idle) * duty) 1000).toNat

/-- The expected shaft speed of this line at a duty. -/
def State.expectedAt (s : State) (duty : Nat) : Nat :=
  expectedSpeed (s.param Param.idleSpeed) (s.param Param.maxSpeed) duty

/-- The governor supervisor after a change of the duty: the settle timer restarts while the follow monitor runs,
and the no-pulse watch starts when the duty rises above 0 and stops at 0 (R73, R75). -/
def State.govAfterDuty (s : State) (duty : Nat) : GovernorUnit :=
  let running := s.station.acting && s.line 2
  { s.gov with
    settle := if running then startTimer s.clock (sec 5) else s.gov.settle,
    settled := if running then false else s.gov.settled,
    deviation := if running then none else s.gov.deviation,
    agreement := if running then none else s.gov.agreement,
    watch := if duty = 0 || !running then none
      else if s.thrust.duty = 0 then startTimer s.clock (sec 2) else s.gov.watch }

/-- X and the gear state set, with the duty and the expected speed found again; a changed duty is written to the
inactive bank of OUT0 and told to the governor supervisor (R48, R49). DEDUCED, notes/assumptions/30.md: safe. -/
def State.setDrive (s : State) (x : Int) (gear : GearState) : State :=
  let duty := if x = s.thrust.x ∧ gear = s.gear.state then s.thrust.duty
    else dutyOf gear x (s.param Param.ratedThrust)
  let same := duty == s.thrust.duty
  { s with
    thrust := { s.thrust with x := x, duty := duty,
                              expected := if same then s.thrust.expected else s.expectedAt duty },
    gear := { s.gear with state := gear },
    outputs := if same then s.outputs else (s.writeDuty 0 duty).outputs,
    gov := if same then s.gov else s.govAfterDuty duty }

/-- X set, with what follows from it. -/
def State.setX (s : State) (x : Int) : State := s.setDrive x s.gear.state

/-- The thrust unit's part of the control tick in ACTIVE: evaluation and ramp (R38 to R47). -/
def State.thrustTick (s : State) : State :=
  let t := s.target
  let stop := s.demand.record.demand.stopAll
  let x := rampToward s.thrust.x (desiredValue s.gear.state stop t)
    (rampStep (s.param Param.rampRate) s.thrust.strain stop)
  State.setX { s with thrust := { s.thrust with lastTarget := t } } x

/-! ## Availability (R50, R51) -/

/-- The availability factor from its terms (R50). -/
def availabilityFactor (gearFault overspeed ready governorFollow shaftSignal : Bool) : Nat :=
  if gearFault || overspeed || !ready then 0 else if governorFollow || shaftSignal then 500 else 1000

/-- f as it stands (R50). -/
def State.factorNow (s : State) : Nat :=
  availabilityFactor (s.gear.state == .gearFault) (s.has .overspeed) (s.line 2) (s.has .governorFollow)
    (s.has .shaftSignal)

/-- X held within an availability (R51). -/
def withinAvailability (x : Int) (a b : Nat) : Int :=
  if (a : Int) < x then a else if x < -(b : Int) then -(b : Int) else x

/-- Availability found again, with the cut of R51; frozen in HALTED and not kept in START and FAILED (R38). -/
def State.refreshAvailability (s : State) : State :=
  if s.isProp && s.station.taking then
    let f := s.factorNow
    let a := s.param Param.ratedThrust * f / 1000
    let b := a * s.param Param.asternRatio / 1000
    State.setX { s with thrust := { s.thrust with factor := f, ahead := a, astern := b } }
      (withinAvailability s.thrust.x a b)
  else s

/-- The gear state set; a change away from AHEAD or ASTERN sets X to 0, and a change to or from GEAR_FAULT finds
availability again (R50, R51, R61). -/
def State.setGear (s : State) (g : GearState) : State :=
  let moved := s.setDrive (if engaged s.gear.state && !engaged g then 0 else s.thrust.x) g
  if (s.gear.state == .gearFault) == (g == .gearFault) then moved else moved.refreshAvailability

/-! ## The strain factor (R53, R54) -/

/-- X held within the range from 0 to a target (R54). -/
def withinTarget (x target : Int) : Int :=
  if 0 < x then (if target ≤ 0 then 0 else min x target)
  else if x < 0 then (if 0 ≤ target then 0 else max x target)
  else x

/-- F found again after a change of the table; a fall of it in ACTIVE makes the strain cut (R53, R54). -/
def State.refreshStrain (s : State) : State :=
  if s.isProp && s.station.taking then
    let f := s.strainFactorNow
    if s.station == .active && decide (f < s.thrust.strain) then
      let t := s.targetWith f
      State.setX { s with thrust := { s.thrust with strain := f, lastTarget := t } }
        (withinTarget s.thrust.x t)
    else { s with thrust := { s.thrust with strain := f } }
  else s

/-! ## Economy trim (R55) -/

/-- The line's fuel allowance (R55). -/
def fuelAllowance (cap a sum : Nat) : Nat := cap * a / sum

/-- E after an evaluation (R55). -/
def trimAfter (cap : Option Nat) (trim a sum rate : Nat) : Nat :=
  match cap with
  | none => if trim < 1000 then min 1000 (trim + 10) else trim
  | some c =>
    if sum = 0 then trim
    else if fuelAllowance c a sum < rate then max 200 (trim - 20)
    else if rate < fuelAllowance c a sum - fuelAllowance c a sum / 20 then min 1000 (trim + 10)
    else trim

/-- The evaluation of E (R55). -/
def State.evaluateTrim (s : State) : State :=
  { s with thrust := { s.thrust with
      trim := trimAfter s.demand.record.demand.cap s.thrust.trim s.thrust.ahead s.sumAhead s.meter.rate } }

/-! ## Engine ready (R52) -/

/-- ENGINE_NOT_READY judged at an entry to ACTIVE (R52). -/
def State.judgeEngine (s : State) : State :=
  { s with comms := (if s.isProp && !s.line 2 then s.raiseNew .engineNotReady else s).comms }

end Sys2Proof.Machine
end

