-- ==== Sys2Proof/Machine/Gear.lean ====
section
/-! DEFINITION. The gear sequencer (sections 4.1 to 4.5). -/

namespace Sys2Proof.Machine

/-- A unit's step taken only where its test holds; elsewhere the event finds nothing to do. DEDUCED,
notes/assumptions/3.md: safe. -/
def State.whenever (s : State) (p : Bool) (f : State → State) : State := if p then f s else s

/-- The shift threshold: the greater of the shift speed and N_idle (R59). -/
def State.shiftThreshold (s : State) : Nat := max (s.param Param.shiftSpeed) (s.param Param.idleSpeed)

/-! ## Entry to a gear state -/

/-- Whether the feedback timer runs in a gear state (R59). -/
def timesFeedback : GearState → Bool
  | .engagingAhead | .engagingAstern | .disengaging => true
  | .neutral | .ahead | .astern | .dwell | .gearFault => false

/-- The sequencer's release and timers at the entry to a gear state: no release, the 3 s feedback timer in the
three states that wait for a feedback, the dwell timer in DWELL (R62 to R69). -/
def GearUnit.entry (u : GearUnit) (now : Clock) (dwell : Micros) (g : GearState) : GearUnit :=
  { u with release := .none, releaseTimer := none,
           feedbackTimer := if timesFeedback g then startTimer now (sec 3) else none,
           dwellTimer := if g = .dwell then startTimer now dwell else none }

/-- A change of the gear state with its timers, X and availability. -/
def State.enterGear (s : State) (g : GearState) : State :=
  State.setGear { s with gear := s.gear.entry s.clock (ms (s.param Param.neutralDwell)) g } g

/-- Entry to DISENGAGING; with both feedbacks already off DWELL follows at once (R65, R66). -/
def State.disengage (s : State) : State :=
  let t := s.enterGear .disengaging
  if !s.line 0 && !s.line 1 then t.enterGear .dwell else t

/-- A gear condition raised with the entry to GEAR_FAULT (R68, R69). -/
def State.faultGear (s : State) (c : AlertCode) : State := (s.raise c).enterGear .gearFault

/-! ## The tick (R62, R64, R65) -/

/-- The last target has the sign of the direction that a gear state does not drive (R64). -/
def targetOpposes (g : GearState) (target : Int) : Bool :=
  match g with
  | .ahead => decide (target < 0)
  | .astern => decide (0 < target)
  | .neutral | .engagingAhead | .engagingAstern | .disengaging | .dwell | .gearFault => false

/-- A release cause stands (R64). -/
def State.releaseCause (s : State) : Bool :=
  s.thrust.x == 0 &&
    ((s.station == .active && targetOpposes s.gear.state s.thrust.lastTarget)
      || s.demand.record.demand.stopAll || s.station == .standby)

/-- The measured speed passes the shift threshold (R65). -/
def State.speedPasses (s : State) : Bool := decide (s.gov.rpm ≤ s.shiftThreshold)

/-- A release begins: timed while SHAFT_SIGNAL is present, otherwise by speed (R64). -/
def State.beginRelease (s : State) : State :=
  if s.has .shaftSignal then
    { s with gear := { s.gear with release := .timedWait, releaseTimer := startTimer s.clock (sec 5) } }
  else if s.speedPasses then s.disengage
  else { s with gear := { s.gear with release := .speedWait } }

/-- A release abandoned (R64). -/
def State.abandonRelease (s : State) : State :=
  { s with gear := { s.gear with release := .none, releaseTimer := none } }

/-- The direction a target engages. -/
def engagingFor (target : Int) : GearState := if 0 < target then .engagingAhead else .engagingAstern

/-- The sequencer's action at a control tick (R62, R64, R65). It reads the last target as it stands (R45): taken
before the thrust unit, a target that turns back at this very tick does not count until the next. DESIGN CHOICE,
notes/assumptions/66.md: unsafe. -/
def State.gearAction (s : State) : State :=
  match s.gear.state with
  | .neutral =>
    if s.station == .active && s.thrust.lastTarget != 0 && !s.demand.record.demand.stopAll then
      s.enterGear (engagingFor s.thrust.lastTarget)
    else s
  | .ahead | .astern =>
    match s.gear.release with
    | .none => if s.releaseCause then s.beginRelease else s
    | .speedWait =>
      if !s.releaseCause then s.abandonRelease else if s.speedPasses then s.disengage else s
    | .timedWait => if s.releaseCause then s else s.abandonRelease
  | .engagingAhead | .engagingAstern | .disengaging | .dwell | .gearFault => s

/-- The sequencer's part of the control tick (R61, R62, R64, R65). -/
def State.gearTick (s : State) : State := s.whenever (s.station.acting && s.gear.supervised) State.gearAction

/-! ## Feedbacks (R63, R66, R68) -/

/-- What a reading of the feedbacks means in a gear state. -/
inductive GearVerdict where
  | interlock | timeout | enter (g : GearState) | unchanged
deriving DecidableEq, Repr

/-- The table of R68: the gear state and the two feedbacks after a change. -/
def gearVerdict : GearState → Bool → Bool → GearVerdict
  | _, true, true => .interlock
  | .neutral, true, false | .neutral, false, true => .interlock
  | .dwell, true, false | .dwell, false, true => .interlock
  | .engagingAhead, false, true | .ahead, false, true => .interlock
  | .engagingAstern, true, false | .astern, true, false => .interlock
  | .ahead, false, false | .astern, false, false => .timeout
  | .engagingAhead, true, false => .enter .ahead
  | .engagingAstern, false, true => .enter .astern
  | .disengaging, false, false => .enter .dwell
  | .neutral, false, false | .dwell, false, false => .unchanged
  | .engagingAhead, false, false | .engagingAstern, false, false => .unchanged
  | .ahead, true, false | .astern, false, true => .unchanged
  | .disengaging, true, false | .disengaging, false, true => .unchanged
  | .gearFault, _, _ => .unchanged

/-- The sequencer's judgement of the feedbacks as they stand (R68). -/
def State.judgeFeedback (s : State) : State :=
  match gearVerdict s.gear.state (s.line 0) (s.line 1) with
  | .interlock => s.faultGear .gearInterlock
  | .timeout => s.faultGear .gearTimeout
  | .enter g => s.enterGear g
  | .unchanged => s

/-- A change of IN0 or IN1 at a PROPULSION station (R68). Where both change at one moment they are judged once, by
the reading after both. DESIGN CHOICE, notes/assumptions/55.md: unsafe. -/
def State.gearFeedback (s : State) (ahead astern : Bool) : State :=
  let changed := s.line 0 != ahead || s.line 1 != astern
  ((s.setLine 0 ahead).setLine 1 astern).whenever (changed && s.gear.supervised && s.station.acting)
    State.judgeFeedback

/-- The feedback timer's expiry (R63, R66). -/
def State.gearFeedbackExpiry (s : State) : State :=
  s.whenever (s.isProp && s.gear.supervised && s.station.acting && due s.gear.feedbackTimer s.clock)
    (fun s => s.faultGear .gearTimeout)

/-- The end of a timed wait (R65). -/
def State.releaseExpiry (s : State) : State :=
  s.whenever (s.isProp && s.gear.supervised && s.station.acting && s.gear.release == .timedWait
      && due s.gear.releaseTimer s.clock)
    State.disengage

/-- The state chosen at the end of the dwell (R67). -/
def afterDwell (standby stopAll : Bool) (target : Int) : GearState :=
  if standby || stopAll || target == 0 then .neutral else engagingFor target

/-- The dwell timer's expiry (R67). -/
def State.dwellEnd (s : State) : State :=
  s.whenever (s.isProp && s.gear.supervised && s.station.acting && s.gear.state == .dwell
      && due s.gear.dwellTimer s.clock)
    (fun s => s.enterGear
      (afterDwell (s.station == .standby) s.demand.record.demand.stopAll s.thrust.lastTarget))

/-! ## Supervision, and the end of a latched condition (R61, R70) -/

/-- The first entry to ACTIVE: supervision begins with a judgement of the feedbacks (R61). -/
def State.superviseGear (s : State) : State :=
  let t := { s with gear := { s.gear with supervised := true } }
  match s.line 0, s.line 1 with
  | false, false => t.enterGear .neutral
  | true, true => t.faultGear .gearInterlock
  | true, false => t.enterGear .disengaging
  | false, true => t.enterGear .disengaging

/-- The answer at the end of a latched gear condition: while the other is present nothing; otherwise the
feedbacks as they stand (R70). The end stands already in the conditions present. -/
def State.gearAnswer (s : State) : State :=
  if s.gear.supervised && s.gear.state == .gearFault && !s.has .gearInterlock && !s.has .gearTimeout then
    match s.line 0, s.line 1 with
    | false, false => s.enterGear .neutral
    | true, true => s.raise .gearInterlock
    | true, false => s.raise .gearTimeout
    | false, true => s.raise .gearTimeout
  else s

/-- The sequencer at entry to LISTEN_ONLY or HALTED: timers stopped, no release, NEUTRAL unless GEAR_FAULT
(R61). -/
def GearUnit.leave (g : GearUnit) : GearUnit :=
  { state := if g.state = .gearFault then .gearFault else .neutral, supervised := false, release := .none,
    releaseTimer := none, feedbackTimer := none, dwellTimer := none }

end Sys2Proof.Machine
end

