-- ==== Sys2Proof/Machine/Governor.lean ====
section
/-! DEFINITION. The governor supervisor (section 4.7) and the engine-ready input (R52, R76). -/

namespace Sys2Proof.Machine

/-! ## Conditions that feed the availability (R50, R76) -/

/-- A condition made to follow a test, with availability found again where it is raised or ends. -/
def State.followAvail (s : State) (c : AlertCode) (holds : Bool) : State :=
  if s.has c == holds then s else (s.follow c holds).refreshAvailability

/-- A condition raised, as a new occurrence where it is present, with availability found again. -/
def State.raiseAvail (s : State) (c : AlertCode) : State := (s.raise c).refreshAvailability

/-- SHAFT_SIGNAL follows its two terms, in ACTIVE and STANDBY (R73). -/
def State.judgeShaft (s : State) : State :=
  s.whenever (s.isProp && s.station.acting)
    (fun s => s.followAvail .shaftSignal (s.gov.noPulse || (s.caps.get 0).noise))

/-! ## The follow monitor (R75) -/

/-- The measured speed is out of tolerance. -/
def State.outOfTolerance (s : State) : Bool :=
  decide (s.param Param.followTolerance < ((s.gov.rpm : Int) - s.thrust.expected).natAbs)

/-- The start of a run of like judgements: set if none is set, removed where the judgement is not of the run. -/
def runStart (now : Clock) (start : Option Clock) (inRun : Bool) : Option Clock :=
  if inRun then (match start with | some c => some c | none => some now) else none

/-- One judgement of the follow monitor (R75). -/
def State.followJudgement (s : State) : State :=
  { s with gov :=
      if s.has .governorFollow then
        { s.gov with agreement := runStart s.clock s.gov.agreement (!s.outOfTolerance) }
      else { s.gov with deviation := runStart s.clock s.gov.deviation s.outOfTolerance } }

/-- The follow monitor runs: ACTIVE or STANDBY with IN2 on (R75). -/
def State.followRuns (s : State) : Bool := s.isProp && s.station.acting && s.line 2

/-- The settle timer's expiry (R75). -/
def State.settleExpiry (s : State) : State :=
  s.whenever (s.followRuns && due s.gov.settle s.clock)
    (fun s => State.followJudgement { s with gov := { s.gov with settle := none, settled := true } })

/-- The deviation start becomes 3 s old: GOVERNOR_FOLLOW is raised (R75). -/
def State.deviationExpiry (s : State) : State :=
  s.whenever (s.followRuns && !s.has .governorFollow && aged s.gov.deviation s.clock (sec 3))
    (fun s => State.followAvail { s with gov := { s.gov with deviation := none } } .governorFollow true)

/-- The agreement start becomes 3 s old: GOVERNOR_FOLLOW is cleared (R75). -/
def State.agreementExpiry (s : State) : State :=
  s.whenever (s.followRuns && s.has .governorFollow && aged s.gov.agreement s.clock (sec 3))
    (fun s => State.followAvail { s with gov := { s.gov with agreement := none } } .governorFollow false)

/-! ## The measured speed (R72, R74) -/

/-- The overspeed limit (R74). -/
def overspeedLimit (maxi : Nat) : Nat := maxi * 11 / 10

/-- The measured speed is above the overspeed limit. -/
def State.overLimit (s : State) : Bool := decide (overspeedLimit (s.param Param.maxSpeed) < s.gov.rpm)

/-- OVERSPEED judged, in ACTIVE and STANDBY: raised above the limit where it is not present (R74). -/
def State.judgeOverspeed (s : State) : State :=
  s.whenever (s.isProp && s.station.acting && s.overLimit && !s.has .overspeed) (fun s => s.raiseAvail .overspeed)

/-- The speed of a period (R72). A period of 0 gives a free value (notes/assumptions/6.md). A period of exactly
2,000,000 µs, neither less nor longer, gives 0, because 2 s have then passed without an accepted edge. DEDUCED,
notes/assumptions/53.md: unsafe. -/
def speedOfPeriod (ppr period : Nat) : Nat :=
  if period = 0 then Config.zeroPeriodSpeed ppr
  else if period < 2000000 then 60000000 / (period * ppr) else 0

/-- The flow watch after the measured speed changes: it starts when the speed rises above N_idle and stops at or
below it (R120); outside ACTIVE and STANDBY it is held stopped. DESIGN CHOICE, notes/assumptions/50.md: safe. -/
def State.flowWatchAfter (s : State) (rpm : Nat) : Option Timer :=
  let idle := s.param Param.idleSpeed
  if !s.station.acting || rpm ≤ idle then none
  else if s.gov.rpm ≤ idle then startTimer s.clock (sec 30) else s.meter.flowWatch

/-- The measured speed at a value. A change of it is an update, judged for OVERSPEED and by the follow monitor while
its duty is settled (R72, R74, R75). DEDUCED, notes/assumptions/30.md: safe. -/
def State.setSpeed (s : State) (rpm : Nat) : State :=
  if rpm = s.gov.rpm then s
  else
    let t := State.judgeOverspeed
      { s with gov := { s.gov with rpm := rpm },
               meter := { s.meter with flowWatch := s.flowWatchAfter rpm } }
    t.whenever (t.followRuns && t.gov.settled) State.followJudgement

/-- 2 s without an accepted edge: the measured speed becomes 0 (R72). -/
def State.pulseTimeout (s : State) : State :=
  s.whenever (s.isProp && s.station.joined && due s.gov.pulseTimer s.clock)
    (fun s => State.setSpeed { s with gov := { s.gov with pulseTimer := none } } 0)

/-- The no-pulse watch as it starts at an accepted edge or an entry to ACTIVE (R73). -/
def State.watchStart (s : State) : Option Timer :=
  if s.station.acting && s.line 2 && s.thrust.duty != 0 then startTimer s.clock (sec 2) else none

/-- An accepted CAP0 edge at a PROPULSION station, with the period it completes if it does (R72, R73; DEDUCED,
notes/assumptions/35.md: unsafe). SHAFT_SIGNAL is judged before OVERSPEED. DESIGN CHOICE, notes/assumptions/49.md:
unsafe. -/
def State.shaftEdge (s : State) (period : Option Nat) : State :=
  let t := State.judgeShaft
    { s with gov := { s.gov with lastPulse := some s.clock, pulseTimer := startTimer s.clock (sec 2),
                                 watch := s.watchStart, noPulse := false } }
  match period with
  | none => t
  | some p => t.setSpeed (speedOfPeriod (s.param Param.pulsesPerRev) p)

/-- The no-pulse watch's expiry (R73). -/
def State.watchExpiry (s : State) : State :=
  s.whenever (s.isProp && s.station.acting && due s.gov.watch s.clock)
    (fun s => State.judgeShaft { s with gov := { s.gov with watch := none, noPulse := true } })

/-! ## The engine-ready input (R50, R52, R73, R76) -/

/-- The follow monitor and the no-pulse watch as IN2 leaves them. -/
def State.govAfterReady (s : State) (on : Bool) : GovernorUnit :=
  { s.gov with settle := if on && s.station.acting then startTimer s.clock (sec 5) else none,
               settled := false, deviation := none, agreement := none,
               watch := if on then s.watchStart else none }

/-- ENGINE_NOT_READY at a change of IN2: raised at off in ACTIVE, cleared at on in ACTIVE and STANDBY (R52). -/
def State.judgeReady (s : State) (on : Bool) : State :=
  if on then s.whenever s.station.acting (fun s => s.clear .engineNotReady)
  else s.whenever (s.station == .active) (fun s => s.raiseNew .engineNotReady)

/-- A change of IN2 at a PROPULSION station. -/
def State.readyChange (s : State) (on : Bool) : State :=
  if s.line 2 == on then s
  else
    let t := s.setLine 2 on
    (State.judgeReady { t with gov := t.govAfterReady on } on).refreshAvailability

/-! ## Entry, exit, and the end of OVERSPEED (R73 to R76) -/

/-- The first entry to ACTIVE: the watch starts afresh, SHAFT_SIGNAL by its terms, OVERSPEED once, and the settle
timer if IN2 is on. SHAFT_SIGNAL is judged before OVERSPEED. DESIGN CHOICE, notes/assumptions/11.md: unsafe. -/
def State.superviseGovernor (s : State) : State :=
  (State.judgeShaft
    { s with gov := { s.gov with watch := s.watchStart,
                                 settle := if s.line 2 then startTimer s.clock (sec 5) else none } }).judgeOverspeed

/-- The answer at the end of OVERSPEED: raised again if the speed is still above the limit (R74). -/
def State.overspeedAnswer (s : State) : State :=
  if s.overLimit then s.raiseAvail .overspeed else s.refreshAvailability

/-- The supervisor at entry to LISTEN_ONLY or HALTED: its timers stop; the speed still follows CAP0 (R76). That
the starts and the settled mark go with them: DESIGN CHOICE, notes/assumptions/63.md: unsafe. -/
def GovernorUnit.leave (g : GovernorUnit) : GovernorUnit :=
  { g with watch := none, settle := none, settled := false, deviation := none, agreement := none }

end Sys2Proof.Machine
end

