-- ==== Sys2Proof/Machine/Steering.lean ====
section
/-! DEFINITION. The steering unit (chapter 5). -/

namespace Sys2Proof.Machine

/-! ## Rudder demand and drive (R80 to R83) -/

/-- The rudder demand of a turn demand under a mode, a rudder type and a gear state (R80). In the release wait
out of ASTERN the gear state reads ASTERN (R64) and a flanking rudder keeps −P. DESIGN CHOICE,
notes/assumptions/64.md: unsafe. -/
def rudderDemand (turn : Int) (mode : SteeringMode) (rudder : RudderType) (gear : GearState) (maxAngle : Nat) :
    Int :=
  let p := Int.tdiv (turn * maxAngle) 1000
  match mode, rudder with
  | .normal, .steering => p
  | .normal, .flanking => 0
  | .flanking, .steering => 0
  | .flanking, .flanking => if gear = .astern then -p else 0
  | .midship, _ => 0

/-- The valve duty of an error under a gain (R83). -/
def valveDutyOf (error : Int) (gain : Nat) : Nat := clampNat 300 1000 (error.natAbs * gain / 10)

/-- The error e = θ_d − θ_meas. -/
def State.rudderError (s : State) : Int := s.steer.demand - s.steer.angle

/-- θ_meas stands at or beyond the overtravel limit on a side: starboard for a positive sign (R81, R82). -/
def State.overtravel (s : State) (starboard : Bool) : Bool :=
  let limit : Int := s.param Param.maxAngle + 30
  if starboard then decide (limit ≤ s.steer.angle) else decide (s.steer.angle ≤ -limit)

/-- The output of a valve: OUT2 for starboard, OUT1 for port. -/
def valveOutput (starboard : Bool) : Fin 3 := if starboard then 2 else 1

/-- A drive started toward a side at a duty: the duty written, the follow timer started unless RUDDER_FOLLOW is
present (R81, R84). -/
def State.startDrive (s : State) (starboard : Bool) (duty : Nat) : State :=
  { s with
    outputs := (s.writeDuty (valveOutput starboard) duty).outputs,
    steer := { s.steer with
      drive := if starboard then .drivingStbd else .drivingPort, valveDuty := duty,
      followTimer := if s.has .rudderFollow then none
        else startTimer s.clock (sec (s.param Param.followTime)) } }

/-- A drive stopped: 0 written to the output it drove (R82). -/
def State.stopDrive (s : State) (starboard : Bool) : State :=
  { s with
    outputs := (s.writeDuty (valveOutput starboard) 0).outputs,
    steer := { s.steer with drive := .stopped, valveDuty := 0, followTimer := none } }

/-- The step of a STOPPED drive (R81). -/
def State.driveStopped (s : State) : State :=
  let starboard := decide (0 < s.rudderError)
  if s.rudderError.natAbs ≤ s.param Param.deadband then s
  else if s.overtravel starboard then s
  else s.startDrive starboard (valveDutyOf s.rudderError (s.param Param.valveGain))

/-- The step of a running drive: the first case of R82 that holds. -/
def State.driveRunning (s : State) (starboard : Bool) : State :=
  let e := s.rudderError
  let duty := valveDutyOf e (s.param Param.valveGain)
  if e.natAbs ≤ s.param Param.deadband / 2 then (s.stopDrive starboard).clear .rudderFollow
  else if decide (0 < e) != starboard then s.stopDrive starboard
  else if s.overtravel starboard then s.stopDrive starboard
  else if duty = s.steer.valveDuty then s
  else
    { s with outputs := (s.writeDuty (valveOutput starboard) duty).outputs,
             steer := { s.steer with valveDuty := duty } }

/-- The drive step of a delivery (R81, R82); an INHIBITED drive takes none. -/
def State.driveStep (s : State) : State :=
  match s.steer.drive with
  | .stopped => s.driveStopped
  | .drivingPort => s.driveRunning false
  | .drivingStbd => s.driveRunning true
  | .inhibited => s

/-! ## Inhibit (R85 to R88) -/

/-- The drive INHIBITED, if it is not already: every bank of both valve outputs 0 at once, the follow timer
stopped (R85, R87). -/
def State.inhibitDrive (s : State) : State :=
  if s.steer.drive = .inhibited then s
  else
    { s with outputs := s.closeValves.outputs,
             steer := { s.steer with drive := .inhibited, valveDuty := 0, followTimer := none } }

/-- A feedback fault (R85). -/
def State.feedbackFault (s : State) : State :=
  if s.steer.feedback then s
  else
    let t := s.raiseNew .rudderFeedback
    State.inhibitDrive { t with steer := { t.steer with feedback := true, deviation := none } }

/-- A valve interlock (R87). -/
def State.valveInterlock (s : State) : State :=
  let t := s.raise .rudderInterlock
  State.inhibitDrive { t with steer := { t.steer with interlock := true } }

/-- The drive STOPPED once no inhibit cause is left (R86, R88). -/
def SteeringUnit.released (u : SteeringUnit) : SteeringUnit :=
  { u with drive := if u.drive = .inhibited ∧ !u.interlock ∧ !u.feedback then .stopped else u.drive }

/-- The end of a feedback fault at the first in-range result (R86). -/
def State.feedbackEnd (s : State) : State :=
  if s.steer.feedback then
    let t := s.clear .rudderFeedback
    { t with steer := SteeringUnit.released { t.steer with feedback := false } }
  else s

/-- The answer at the end of RUDDER_INTERLOCK: raised again while both senses are on (R88). -/
def State.interlockAnswer (s : State) : State :=
  if s.line 5 && s.line 6 then s.raise .rudderInterlock
  else { s with steer := SteeringUnit.released { s.steer with interlock := false } }

/-- A change of IN5 or IN6 at a PROPULSION station (R87). Where both change at one moment they are judged once, by
the reading after both. DESIGN CHOICE, notes/assumptions/60.md: unsafe. -/
def State.valveSense (s : State) (port starboard : Bool) : State :=
  let changed := s.line 5 != port || s.line 6 != starboard
  ((s.setLine 5 port).setLine 6 starboard).whenever
    (changed && port && starboard && s.steer.supervised && s.station.acting) State.valveInterlock

/-! ## Spread (R89, R90) -/

/-- The mean of the peers' angles, rounded toward zero (R89). -/
def meanOf (l : List Int) : Int := Int.tdiv (sumInt l) l.length

/-- The spread is beyond the limit; none where there is no peer to compare with (R89, R90). -/
def State.spreadBeyond (s : State) : Option Bool :=
  match s.peerAngles with
  | [] => none
  | a :: as => some (decide (s.param Param.spreadLimit < (s.steer.angle - meanOf (a :: as)).natAbs))

/-- The spread monitor at a delivery with no FEEDBACK cause (R89, R90). -/
def State.spreadStep (s : State) : State :=
  match s.spreadBeyond with
  | some true =>
    { s with steer := { s.steer with deviation := runStart s.clock s.steer.deviation true } }
  | some false => State.clear { s with steer := { s.steer with deviation := none } } .rudderSpread
  | none => State.clear { s with steer := { s.steer with deviation := none } } .rudderSpread

/-- The deviation start becomes 5 s old (R90). -/
def State.spreadExpiry (s : State) : State :=
  s.whenever (s.isProp && s.steer.supervised && s.station.acting && aged s.steer.deviation s.clock (sec 5))
    (fun s => s.raiseNew .rudderSpread)

/-- The follow timer's expiry (R84). -/
def State.followExpiry (s : State) : State :=
  s.whenever (s.isProp && s.steer.supervised && s.station.acting && due s.steer.followTimer s.clock)
    (fun s => State.raiseNew { s with steer := { s.steer with followTimer := none } } .rudderFollow)

/-! ## Deliveries (R78 to R90) -/

/-- The rudder demand found at a delivery (R80). -/
def State.findRudderDemand (s : State) : State :=
  { s with steer := { s.steer with
      demand := rudderDemand s.demand.record.demand.turn s.demand.record.demand.mode s.rudderType s.gear.state
        (s.param Param.maxAngle) } }

/-- A supervised delivery that is in range, once the angle is taken (R80 to R82, R86, R89, R90). -/
def State.rudderStep (s : State) : State := s.feedbackEnd.findRudderDemand.driveStep.spreadStep

/-- A supervised delivery that is a signal fault: the first takes the feedback fault and finds the rudder demand,
and a further one while FEEDBACK is a cause changes nothing (R80, R85). DEDUCED, notes/assumptions/37.md: safe. -/
def State.rudderFault (s : State) : State :=
  if s.steer.feedback then s else s.feedbackFault.findRudderDemand

/-- An A0 delivery to the steering unit: the raw result, and whether it is in range (R78, R79). -/
def State.rudderDelivery (s : State) (raw : Raw) (inRange : Bool) : State :=
  if inRange then
    let t := { s with steer := { s.steer with angle := rudderAngle (s.param Param.angleSpan) raw } }
    t.whenever (s.steer.supervised && s.station.acting) State.rudderStep
  else s.whenever (s.steer.supervised && s.station.acting) State.rudderFault

/-! ## Supervision (R91, R92) -/

/-- The latest A0 result delivered was a signal fault. -/
def State.a0Faulted (s : State) : Bool := s.conv.range.get 0 == some .fault

/-- The first entry to ACTIVE (R91). -/
def State.superviseSteering (s : State) : State :=
  let t := { s with steer := { s.steer with supervised := true, drive := .stopped, followTimer := none,
                                            deviation := none } }
  let u := if t.line 5 && t.line 6 then t.valveInterlock else t
  if u.a0Faulted then u.feedbackFault else u

/-- The steering unit at entry to LISTEN_ONLY or HALTED (R92). -/
def SteeringUnit.leave (u : SteeringUnit) : SteeringUnit :=
  { u with supervised := false, followTimer := none, deviation := none, valveDuty := 0,
           drive := if u.drive = .inhibited then .inhibited else .stopped }

end Sys2Proof.Machine
end

