-- ==== Sys2Proof/Machine/Winch.lean ====
section
/-! DEFINITION. The winch of a COUPLING station (section 6.6). -/

namespace Sys2Proof.Machine

/-! ## The permit (R106) -/

/-- The winch permit, from the demand record and the peer table as they stand. -/
def State.permit (s : State) : Bool :=
  (s.demand.record.state == .fresh || s.demand.record.state == .held)
    && decide (s.demand.record.demand.turn.natAbs ≤ s.param Param.winchTurnLimit)
    && s.liveProps.all (fun r => decide (r.angle.natAbs ≤ 150))
    && decide (sumInt (s.liveProps.map PropRecord.setpoint) ≤ s.param Param.heavePushLimit)
    && !s.table.cells.any entryLoaded
    && decide (0 ≤ s.demand.record.demand.thrust)

/-- The three things that hold together while the slack dwell runs (R107). -/
def State.dwellHolds (s : State) : Bool := s.coup.cls == .slack && s.permit && !s.has .tensionSignal

/-- A class above TAUT (R108). -/
def aboveTaut : StrainClass → Bool
  | .slack | .taut => false
  | .high | .overload | .parted => true

/-! ## Changes of the winch state (R105 to R112) -/

/-- The winch at rest in a state with every timer of it stopped. -/
def CouplingUnit.rest (c : CouplingUnit) (w : WinchState) : CouplingUnit :=
  { c with winch := w, dwellTimer := none, runTimer := none, settleTimer := none }

/-- The winch judged in ACTIVE: a heave ends in IDLE at a false permit, a class above TAUT or a tension fault
(R108), and in IDLE the slack dwell starts or stops with its three conditions (R107). -/
def State.winchStep (s : State) : State :=
  let c := if s.coup.winch = .heaving && (!s.permit || aboveTaut s.coup.cls || s.has .tensionSignal)
    then s.coup.rest .idle else s.coup
  { s with coup := { c with
      dwellTimer :=
        if c.winch = .idle && s.dwellHolds then
          (match c.dwellTimer with
            | some t => some t
            | none => startTimer s.clock (sec (s.param Param.slackDwell)))
        else none } }

/-- The winch judged where it runs: at a supervised COUPLING station in ACTIVE (R95, R112). -/
def State.judgeWinch (s : State) : State :=
  s.whenever (s.isCoup && s.station == .active && s.coup.supervised) State.winchStep

/-- The causes of LOCKED_OUT judged, at an entry to ACTIVE (R112). -/
def State.winchCauses (s : State) : State :=
  if s.line 1 || s.has .winchRun then { s with coup := s.coup.rest .lockedOut }
  else State.judgeWinch { s with coup := s.coup.rest .idle }

/-- The slack dwell's expiry: the winch enters HEAVING (R107, R109). -/
def State.dwellExpiry (s : State) : State :=
  s.whenever (s.isCoup && s.station == .active && s.coup.winch == .idle && due s.coup.dwellTimer s.clock)
    (fun s =>
      { s with coup := { s.coup with
          winch := .heaving, dwellTimer := none,
          runTimer := startTimer s.clock (sec (s.param Param.maxRunTime)),
          drumSnap := (s.caps.get 0).count, drumCount := 0 } })

/-- A heave that has run too long: LOCKED_OUT with WINCH_RUN (R109). -/
def State.winchRun (s : State) : State := State.raise { s with coup := s.coup.rest .lockedOut } .winchRun

/-- The run timer's expiry (R109). -/
def State.runExpiry (s : State) : State :=
  s.whenever (s.isCoup && s.station == .active && s.coup.winch == .heaving && due s.coup.runTimer s.clock)
    State.winchRun

/-- An accepted CAP0 edge at a COUPLING station: during a heave the drum count is found again (R109). -/
def State.drumEdge (s : State) : State :=
  s.whenever (s.isCoup && s.station == .active && s.coup.winch == .heaving)
    (fun s =>
      let n := ((s.caps.get 0).count - s.coup.drumSnap).toNat
      let t := { s with coup := { s.coup with drumCount := n } }
      t.whenever (decide (s.param Param.maxDrumCount < n)) State.winchRun)

/-- The settle timer's expiry: HOLDING ends in IDLE (R110). -/
def State.settleEnd (s : State) : State :=
  s.whenever (s.isCoup && s.station == .active && s.coup.winch == .holding && due s.coup.settleTimer s.clock)
    (fun s => State.judgeWinch { s with coup := s.coup.rest .idle })

/-- LOCKED_OUT ends in IDLE when neither of its causes holds (R111). -/
def State.unlockWinch (s : State) : State :=
  s.whenever (s.isCoup && s.station == .active && s.coup.winch == .lockedOut && !s.line 1 && !s.has .winchRun)
    (fun s => State.judgeWinch { s with coup := s.coup.rest .idle })

/-- A change of IN1 at a COUPLING station (R111). -/
def State.lockoutChange (s : State) (on : Bool) : State :=
  let t := s.setLine 1 on
  if s.line 1 == on then s
  else if on then t.whenever (s.station == .active) (fun s => { s with coup := s.coup.rest .lockedOut })
  else t.unlockWinch

/-- An in-range delivery hauls the wire taut: HEAVING ends in HOLDING (R108). -/
def State.hauledTaut (s : State) : State :=
  s.whenever (s.isCoup && s.station == .active && s.coup.winch == .heaving && !aboveTaut s.coup.cls
      && decide (s.param Param.tautLevel + s.param Param.hysteresis ≤ s.coup.filtered))
    (fun s => { s with coup := { s.coup.rest .holding with settleTimer := startTimer s.clock (sec 5) } })

end Sys2Proof.Machine
end

