-- ==== Sys2Proof/Machine/Standby.lean ====
section
/-! DEFINITION. Standing by (section 12.5): the entries to STANDBY and the returns from it. -/

namespace Sys2Proof.Machine

/-! ## The demand timers over STANDBY (R23) -/

/-- The demand timers stopped. -/
def DemandUnit.pause (d : DemandUnit) : DemandUnit := { d with timeout := none, hold := none }

/-- The demand timers restarted in full at a return to ACTIVE: a FRESH record's timeout and a HELD record's hold
time. -/
def State.resumeDemand (s : State) : DemandUnit :=
  { s.demand with
    timeout := if s.demand.record.state = .fresh
      then startTimer s.clock (ms (s.param Param.demandTimeout)) else none,
    hold := if s.demand.record.state = .held
      then startTimer s.clock (sec (s.param Param.holdTime)) else none }

/-- The repeat timer restarted at an entry to ACTIVE (R140). -/
def State.restartRepeat (s : State) : State :=
  { s with comms := { s.comms with alerts := s.comms.alerts.restartRepeat s.station s.clock } }

/-! ## PROPULSION (R195) -/

/-- Entry of a PROPULSION station to STANDBY. -/
def State.propStandby (s : State) : State :=
  let t := s.clear .engineNotReady
  let u := { t with
    station := .standby,
    demand := t.demand.pause,
    thrust := { t.thrust with lastTarget := 0, economy := none, stateSeries := none },
    meter := { t.meter with interval := none } }
  (u.offer .propState 2).offer .fuel 3

/-- The series that a PROPULSION station counts from each entry to ACTIVE: economy trim, state interval and fuel
interval (R55, R121, R166). -/
def State.startPropSeries (s : State) : State :=
  { s with
    thrust := { s.thrust with economy := startTimer s.clock (sec 1),
                              stateSeries := startTimer s.clock (ms (s.param Param.stateInterval)) },
    meter := { s.meter with interval := startTimer s.clock (sec (s.param Param.fuelInterval)) } }

/-- Return of a PROPULSION station to ACTIVE: its series, demand timers and repeat timer restart, a PROP_STATE is
queued and ENGINE_NOT_READY judged (R140, R195). -/
def State.propReturn (s : State) : State :=
  let t := State.startPropSeries (State.restartRepeat { s with station := .active, demand := s.resumeDemand })
  (t.offer .propState 2).judgeEngine

/-- The standby entry test of the control tick: the request stands, the station is ACTIVE and X is 0 (R195). -/
def State.standbyTest (s : State) : State :=
  s.whenever (s.isProp && s.station == .active && s.start.request && s.thrust.x == 0) State.propStandby

/-! ## COUPLING (R196) -/

/-- The class at which a STRAIN is queued: 0 while an onset is pending, else 2 (R104). -/
def State.strainClass (s : State) : Fin 4 := if s.coup.onset.isSome then 0 else 2

/-- A STRAIN offered (R104). -/
def State.offerStrain (s : State) : State := s.offer .strain s.strainClass

/-- The converter's series started afresh at an interval, its first start at this moment (R182). -/
def Converter.restart (c : Converter) (now : Clock) (interval : Micros) : Converter :=
  { c with interval := interval, series := some (now - BitVec.ofNat 32 interval) }

/-- Entry of a COUPLING station to STANDBY. -/
def State.coupStandby (s : State) : State :=
  State.offerStrain
    { s with station := .standby, demand := s.demand.pause,
             coup := { s.coup.rest .idle with interval := none },
             conv := s.conv.restart s.clock (ms 1000) }

/-- Return of a COUPLING station to ACTIVE: the repeat timer, the strain interval and the conversions restart, a
STRAIN is queued and the winch judges its causes (R140, R196). -/
def State.coupReturn (s : State) : State :=
  let t := State.offerStrain (State.restartRepeat
    { s with station := .active, demand := s.resumeDemand,
             coup := { s.coup with interval := startTimer s.clock (ms (s.param Param.strainInterval)) },
             conv := s.conv.restart s.clock (ms 50) })
  t.winchCauses

/-- The entry judged: ACTIVE, the request standing and the class SLACK or TAUT (R196). -/
def State.judgeCoupStandby (s : State) : State :=
  s.whenever (s.isCoup && s.station == .active && s.start.request && !aboveTaut s.coup.cls) State.coupStandby

/-- The start unit's use of a class change: a return at HIGH or above, or an entry (R196). -/
def State.standbyByClass (s : State) : State :=
  if s.isCoup && s.station == .standby && aboveTaut s.coup.cls then s.coupReturn else s.judgeCoupStandby

/-! ## The standing request (R194) -/

/-- The request set by an accepted STANDBY; a HELM keeps none. -/
def State.setRequest (s : State) : State :=
  if s.isHelm then s else State.judgeCoupStandby { s with start := { s.start with request := true } }

/-- The request cleared: a station standing by returns to ACTIVE. -/
def State.clearRequest (s : State) : State :=
  let t := { s with start := { s.start with request := false } }
  if s.start.request && s.station == .standby then
    (if s.isProp then t.propReturn else if s.isCoup then t.coupReturn else t)
  else t

/-- The wake input turning on, in ACTIVE or STANDBY (R194). -/
def State.wakeChange (s : State) (i : Fin 16) (on : Bool) : State :=
  (s.setLine i on).whenever (!s.line i && on && s.station.acting) State.clearRequest

end Sys2Proof.Machine
end

