-- ==== Sys2Proof/Machine/Coupling.lean ====
section
/-! DEFINITION. The coupling unit (sections 6.2 to 6.5): tension, strain class, the parted wire, reports. -/

namespace Sys2Proof.Machine

/-! ## The class steps (R98) -/

/-- The class above, with the rising level of the boundary between; none above OVERLOAD. -/
def State.boundaryAbove (s : State) : StrainClass → Option (StrainClass × Nat)
  | .slack => some (.taut, s.param Param.tautLevel)
  | .taut => some (.high, s.param Param.highLevel)
  | .high => some (.overload, s.param Param.overLevel)
  | .overload => none
  | .parted => none

/-- The class beneath, with the rising level of the boundary between; none beneath SLACK. -/
def State.boundaryBeneath (s : State) : StrainClass → Option (StrainClass × Nat)
  | .slack => none
  | .taut => some (.slack, s.param Param.tautLevel)
  | .high => some (.taut, s.param Param.highLevel)
  | .overload => some (.high, s.param Param.overLevel)
  | .parted => none

/-- At most `n` rising steps from a class. -/
def State.climb (s : State) : Nat → StrainClass → Nat → StrainClass
  | 0, c, _ => c
  | n + 1, c, filtered =>
    match s.boundaryAbove c with
    | none => c
    | some (up, level) => if level ≤ filtered then s.climb n up filtered else c

/-- At most `n` falling steps from a class: below a level less the hysteresis. -/
def State.descend (s : State) : Nat → StrainClass → Nat → StrainClass
  | 0, c, _ => c
  | n + 1, c, filtered =>
    match s.boundaryBeneath c with
    | none => c
    | some (down, level) =>
      if filtered + s.param Param.hysteresis < level then s.descend n down filtered else c

/-- The class judged afresh by rising steps from SLACK alone (R98, R102). -/
def State.classAfresh (s : State) (filtered : Nat) : StrainClass := s.climb 3 .slack filtered

/-- The class judged from its present value: no falling step applies after a rising one, because a filtered
tension at or above a rising level is not below the falling level beneath it (R98). -/
def State.classNext (s : State) (filtered : Nat) : StrainClass :=
  s.descend 3 (s.climb 3 s.coup.cls filtered) filtered

/-! ## Onsets and class changes (R99, R100, R104) -/

/-- A STRAIN waiting at class 2 is raised to class 0 (R104, R164). -/
def promoteStrain (q : List Waiting) : List Waiting :=
  q.map (fun w => if w.kind == .strain && w.cls == 2 then { w with cls := 0 } else w)

/-- An onset: the mark is set with its time and a waiting STRAIN moves to class 0 (R104). -/
def State.markOnset (s : State) : State :=
  { s with
    coup := { s.coup with onset := some s.clock },
    comms := { s.comms with link := { s.comms.link with queue := promoteStrain s.comms.link.queue } } }

/-- The condition of a class (R99). -/
def classCondition : StrainClass → Option AlertCode
  | .high => some .strainHigh
  | .overload => some .overload
  | .slack => none
  | .taut => none
  | .parted => none

/-- A class's condition cleared. -/
def State.clearClass (s : State) (c : StrainClass) : State :=
  match classCondition c with
  | some code => s.clear code
  | none => s

/-- A class's condition raised. -/
def State.raiseClass (s : State) (c : StrainClass) : State :=
  match classCondition c with
  | some code => s.raiseNew code
  | none => s

/-- What a class change or an onset brings at a supervised station: a STRAIN queued, the winch judged and the
change handed to the start unit (R104, R107, R108, R196). -/
def State.reportClass (s : State) : State := s.offerStrain.judgeWinch.standbyByClass

/-- A change of the class at a supervised station: the old class's condition cleared and the new one's raised, and
a change into OVERLOAD an onset (R99, R104). -/
def State.changeClass (s : State) (c : StrainClass) : State :=
  if c = s.coup.cls then s
  else
    let t := s.clearClass s.coup.cls
    let u := State.raiseClass { t with coup := { t.coup with cls := c } } c
    State.reportClass (if c = .overload then u.markOnset else u)

/-- A PARTED onset: the latch set, the class PARTED, PARTED raised (R100, R101). -/
def State.partedOnset (s : State) : State :=
  let t := if s.coup.cls = .parted then s else s.clearClass s.coup.cls
  let u := State.raise { t with coup := { t.coup with cls := .parted, partedLatch := true } } .parted
  u.markOnset.reportClass

/-- The answer at the end of PARTED: with IN0 on a new occurrence and a new onset, with IN0 off the latch cleared
and the class judged afresh (R102). -/
def State.partedAnswer (s : State) : State :=
  if s.line 0 then (s.raise .parted).markOnset.offerStrain
  else
    State.changeClass { s with coup := { s.coup with partedLatch := false } } (s.classAfresh s.coup.filtered)

/-- A change of IN0 at a COUPLING station (R100). -/
def State.wireChange (s : State) (on : Bool) : State :=
  (s.setLine 0 on).whenever (!s.line 0 && on && s.coup.supervised && s.station.acting) State.partedOnset

/-! ## Deliveries (R95 to R101) -/

/-- A peak raised to a conversion tension (R96). -/
def raisePeak (p : Option Nat) (t : Nat) : Option Nat :=
  match p with
  | none => some t
  | some q => some (max q t)

/-- The window after a conversion tension: at most the four newest values (R97). -/
def pushTension (w : List Nat) (t : Nat) : List Nat :=
  if w.length < 4 then w ++ [t] else w.drop (w.length - 3) ++ [t]

/-- The filtered tension of a window (R97). -/
def filteredOf (w : List Nat) : Nat := sumNat w / w.length

/-- A conversion tension taken into the peaks and the window. -/
def CouplingUnit.take (c : CouplingUnit) (t : Nat) : CouplingUnit :=
  { c with peak := raisePeak c.peak t, peakSince := raisePeak c.peakSince t, window := pushTension c.window t,
           filtered := filteredOf (pushTension c.window t) }

/-- Class taken becomes yes when the window first holds four values, with the latch set too (R94, R98). -/
def State.noteWindow (s : State) : State :=
  { s with coup := { s.coup with classTaken := s.coup.classTaken || s.coup.window.length == 4 } }

/-- The class judged from the window at a delivery that carries no onset, with the latch clear: afresh until class
taken is yes, also where an acknowledgement has ended the latch before that (R98, R102). DEDUCED,
notes/assumptions/46.md: safe. -/
def State.judgeClass (s : State) : State :=
  let c := if s.coup.classTaken then s.classNext s.coup.filtered else s.classAfresh s.coup.filtered
  let t := s.noteWindow
  if s.coup.supervised then t.changeClass c else { t with coup := { t.coup with cls := c } }

/-- A PARTED onset by tension: judged before the tension enters the window (R100). -/
def State.tensionParts (s : State) (t : Nat) : Bool :=
  s.coup.supervised && s.coup.classTaken && decide (t < s.param Param.partedLevel)
    && decide (s.param Param.highLevel ≤ s.coup.filtered)

/-- An in-range A0 delivery (R96 to R101, R108). -/
def State.tensionInRange (s : State) (t : Nat) : State :=
  let u := s.whenever s.coup.supervised (fun s => s.clear .tensionSignal)
  let v := { u with coup := u.coup.take t }
  let w := if s.tensionParts t then v.partedOnset
    else if s.coup.partedLatch then v.noteWindow
    else v.judgeClass
  w.judgeWinch.hauledTaut

/-- A faulted A0 delivery (R96). -/
def State.tensionFault (s : State) : State :=
  s.whenever s.coup.supervised (fun s => (s.raiseNew .tensionSignal).judgeWinch)

/-- An A0 delivery to the coupling unit: in JOINING, ACTIVE, STANDBY and LISTEN_ONLY (R95). -/
def State.tensionDelivery (s : State) (raw : Raw) (inRange : Bool) : State :=
  s.whenever s.station.taking
    (fun s => if inRange then s.tensionInRange (conversionTension raw) else s.tensionFault)

/-- The class conditions judged once at the first entry to ACTIVE (R99). -/
def State.superviseClass (s : State) : State :=
  let t := s.raiseClass s.coup.cls
  if s.coup.cls = .overload then t.markOnset.offerStrain else t

/-- The first entry to ACTIVE (R95, R96, R99, R100, R112). DESIGN CHOICE, notes/assumptions/24.md: unsafe. -/
def State.superviseCoupling (s : State) : State :=
  let t := { s with coup := { s.coup with
    supervised := true, interval := startTimer s.clock (ms (s.param Param.strainInterval)) } }
  let u := if t.a0Faulted then t.raiseNew .tensionSignal else t
  let v := u.superviseClass
  (if v.line 0 then v.partedOnset else v).winchCauses

/-- The STRAIN assembled: peak since assembly becomes none (R103). -/
def CouplingUnit.assembled (c : CouplingUnit) : CouplingUnit := { c with peakSince := none }

/-- A moment lies after another, seen from now: less time has passed since it (R169). -/
def after (now a b : Clock) : Bool := decide (elapsed now a < elapsed now b)

/-- A STRAIN sent: the peak becomes the peak since its assembly, and the onset mark is cleared by a frame assembled
after the mark's time, however old the mark is; one assembled in the mark's own microsecond does not clear it (R103,
R104, R169). DEDUCED, notes/assumptions/31.md: safe. -/
def CouplingUnit.sent (c : CouplingUnit) (now assembledAt : Clock) : CouplingUnit :=
  { c with peak := c.peakSince,
           onset := match c.onset with
             | none => none
             | some t => if after now assembledAt t then none else some t }

/-- The strain interval's expiry (R104). -/
def State.strainExpiry (s : State) : State :=
  s.whenever (s.isCoup && s.station == .active && due s.coup.interval s.clock)
    (fun s => State.offerStrain { s with coup := { s.coup with interval := nextInterval s.coup.interval } })

/-- The coupling unit at entry to LISTEN_ONLY or HALTED (R95, R112). -/
def CouplingUnit.leave (c : CouplingUnit) : CouplingUnit :=
  { c.rest .idle with supervised := false, interval := none }

end Sys2Proof.Machine
end

