-- ==== Sys2Proof/Machine/Fuel.lean ====
section
/-! DEFINITION. The fuel unit (chapter 7): the meter of a PROPULSION station and the account of a HELM station. -/

namespace Sys2Proof.Machine

/-! ## Metering (R116 to R118) -/

/-- The net volume of a tick in µL (R116). -/
def netVolume (supplyEdges returnEdges supplyFactor returnFactor : Nat) : Int :=
  (supplyEdges * supplyFactor : Nat) - (returnEdges * returnFactor : Nat)

/-- The residue after the clamp (R117). -/
def clampResidue (r : Int) : Int := if r < -1000000 then -1000000 else r

/-- The whole millilitres of a residue (R118). -/
def carriedMl (r : Int) : Nat := if 1000 ≤ r then r.toNat / 1000 else 0

/-- The return-excess mark after a tick: set by a clamp, cleared where the residue stands at 0 or more (R117). -/
def excessAfter (mark : Bool) (added : Int) : Bool :=
  if added < -1000000 then true else if 0 ≤ clampResidue added then false else mark

/-- The meter after a metering tick that takes the running counts of CAP1 and CAP2. -/
def MeterUnit.tick (m : MeterUnit) (supply ret : BitVec 32) (supplyFactor returnFactor : Nat) (tank : Fin 4) :
    MeterUnit :=
  let net := netVolume (supply - m.supplySnap).toNat (ret - m.returnSnap).toNat supplyFactor returnFactor
  let r := clampResidue (m.residue + net)
  { m with
    supplySnap := supply, returnSnap := ret, secondNet := m.secondNet + net,
    residue := r - 1000 * carriedMl r,
    totals := m.totals.set tank (m.totals.get tank + BitVec.ofNat 32 (carriedMl r)),
    returnMark := excessAfter m.returnMark (m.residue + net) }

/-- The metering tick (R115 to R118); RETURN_EXCEEDS follows the mark in ACTIVE and STANDBY (R117). -/
def State.meterTick (s : State) : State :=
  s.whenever (s.isProp && s.station.taking)
    (fun s =>
      let t := { s with meter := s.meter.tick (s.caps.get 1).count (s.caps.get 2).count s.supplyFactor
                          s.returnFactor s.tank }
      t.whenever t.station.acting (fun t => t.follow .returnExceeds t.meter.returnMark))

/-! ## Rate of burn (R119) -/

/-- The fuel rate of a window sum (R119). -/
def rateOf (n : Int) : Nat := min 65535 (n.toNat * 36 / 100000)

/-- The meter after a rate event. -/
def MeterUnit.second (m : MeterUnit) : MeterUnit :=
  let w := m.window.drop 1 ++ [m.secondNet]
  { m with window := w, secondNet := 0, rate := rateOf (sumInt w) }

/-- The one-second rate event (R119). -/
def State.rateEvent (s : State) : State :=
  s.whenever (s.isProp && s.station.taking && due s.meter.rateSeries s.clock)
    (fun s => { s with meter := { s.meter.second with rateSeries := nextInterval s.meter.rateSeries } })

/-! ## The flow signal (R120) -/

/-- FLOW_SIGNAL follows its two terms in ACTIVE and STANDBY. -/
def State.judgeFlow (s : State) : State :=
  s.whenever (s.isProp && s.station.acting)
    (fun s => s.follow .flowSignal (s.meter.noSupply || (s.caps.get 1).noise || (s.caps.get 2).noise))

/-- The flow watch as it starts at an accepted edge or the entry to ACTIVE; outside ACTIVE and STANDBY it is held
stopped. DESIGN CHOICE, notes/assumptions/50.md: safe. -/
def State.flowStart (s : State) : Option Timer :=
  if s.station.acting && decide (s.param Param.idleSpeed < s.gov.rpm) then startTimer s.clock (sec 30) else none

/-- An accepted CAP1 edge at a PROPULSION station. -/
def State.supplyEdge (s : State) : State :=
  State.judgeFlow { s with meter := { s.meter with noSupply := false, flowWatch := s.flowStart } }

/-- The flow watch's expiry. -/
def State.flowExpiry (s : State) : State :=
  s.whenever (s.isProp && s.station.acting && due s.meter.flowWatch s.clock)
    (fun s => State.judgeFlow { s with meter := { s.meter with noSupply := true, flowWatch := none } })

/-- The fuel interval's expiry (R121). -/
def State.fuelExpiry (s : State) : State :=
  s.whenever (s.isProp && s.station == .active && due s.meter.interval s.clock)
    (fun s => State.offer { s with meter := { s.meter with interval := nextInterval s.meter.interval } } .fuel 3)

/-- The first entry to ACTIVE: RETURN_EXCEEDS by the mark, the flow watch afresh, FLOW_SIGNAL by its terms
(R117, R120), in this order. DESIGN CHOICE, notes/assumptions/11.md: unsafe. -/
def State.superviseFuel (s : State) : State :=
  let t := s.whenever s.meter.returnMark (fun s => s.raiseNew .returnExceeds)
  State.judgeFlow { t with meter := { t.meter with flowWatch := t.flowStart } }

/-- The meter at entry to LISTEN_ONLY or HALTED: no report and no watch; the rate series stops in HALTED
(R115, R119). That the watch is stopped is a DESIGN CHOICE, notes/assumptions/50.md: safe. -/
def MeterUnit.leave (m : MeterUnit) (halted : Bool) : MeterUnit :=
  { m with flowWatch := none, interval := none, rateSeries := if halted then none else m.rateSeries }

/-! ## The convoy account (R123 to R130) -/

/-- The cases of R125 for one tank. -/
inductive FuelCase where
  | advance | restart | wrap | discontinuity
deriving DecidableEq, Repr

/-- The first case that holds (R125). -/
def fuelCase (new last : BitVec 32) (mark : Bool) : FuelCase :=
  if last.toNat ≤ new.toNat then .advance
  else if mark then .restart
  else if 3221225472 ≤ last.toNat ∧ new.toNat < 1073741824 then .wrap
  else .discontinuity

/-- The carried value after a case (R125). -/
def carriedAfter (c : FuelCase) (carried : Nat) (last : BitVec 32) : Nat :=
  match c with
  | .advance => carried
  | .restart => carried + last.toNat
  | .wrap => carried + 4294967296
  | .discontinuity => carried + last.toNat

/-- The case of a tank in a FUEL applied to a record. -/
def AccountRecord.caseOf (r : AccountRecord) (totals : Tab 4 (BitVec 32)) (k : Fin 4) : FuelCase :=
  fuelCase (totals.get k) (r.last.get k) r.restart

/-- The carried value of a tank after a FUEL. -/
def AccountRecord.carriedOf (r : AccountRecord) (totals : Tab 4 (BitVec 32)) (k : Fin 4) : Nat :=
  carriedAfter (r.caseOf totals k) (r.carried.get k) (r.last.get k)

/-- A record after a FUEL (R125). -/
def AccountRecord.apply (r : AccountRecord) (totals : Tab 4 (BitVec 32)) : AccountRecord :=
  { carried := Tab.of4 (r.carriedOf totals 0) (r.carriedOf totals 1) (r.carriedOf totals 2) (r.carriedOf totals 3),
    last := totals, restart := false }

/-- A FUEL brings a discontinuity in one or more tanks. -/
def AccountRecord.breaks (r : AccountRecord) (totals : Tab 4 (BitVec 32)) : Bool :=
  r.caseOf totals 0 == .discontinuity || r.caseOf totals 1 == .discontinuity
    || r.caseOf totals 2 == .discontinuity || r.caseOf totals 3 == .discontinuity

/-- A record's volume for a tank. -/
def AccountRecord.volume (k : Fin 4) (r : AccountRecord) : Nat := r.carried.get k + (r.last.get k).toNat

/-- The convoy total of a tank (R126). DESIGN CHOICE, notes/assumptions/27.md: unsafe. -/
def convoyTotal (records : Tab 32 AccountRecord) (k : Fin 4) : Nat :=
  sumNat (records.cells.map (AccountRecord.volume k))

/-- The tank-low flag of a tank (R128). -/
def tankLow (allowance reserve total baseline : Nat) : Bool :=
  allowance != 0 &&
    decide ((allowance : Int) * 100000 - (reserve : Int) * 100000 ≤ (total : Int) - (baseline : Int))

/-- The flag of a tank as its total and baseline stand. -/
def State.lowNow (s : State) (a : AccountUnit) (k : Fin 4) : Bool :=
  tankLow (s.param (Param.tankAllowance k)) (s.param (Param.tankReserve k)) (a.totals.get k) (a.baselines.get k)

/-- Whether any tank-low flag or holder flag is set (R128). -/
def AccountUnit.anyLow (a : AccountUnit) : Bool :=
  a.low.cells.any id || (match a.holderLow with | none => false | some h => h.cells.any id)

/-- TANK_LOW follows the flags in ACTIVE and LISTEN_ONLY (R128). It is judged at each fill, FUEL and ACCOUNT taken,
also one that changes no flag, so that a flag carried from JOINING into LISTEN_ONLY raises it at the first of these.
DESIGN CHOICE, notes/assumptions/48.md: unsafe. -/
def State.judgeTankLow (s : State) : State :=
  s.whenever (s.isHelm && s.station.helmReporting) (fun s => s.follow .tankLow s.account.anyLow)

/-- The holder flags at a value (R130). -/
def State.setHolderLow (s : State) (h : Option (Tab 4 Bool)) : State :=
  State.judgeTankLow { s with account := { s.account with holderLow := h } }

/-- The account with a record replaced and the convoy totals found again, and the flags of the tanks whose total
changed judged again (R126, R128). The flag of a tank whose reserve is at or above its allowance is set at the first
such judgement. DESIGN CHOICE, notes/assumptions/57.md: unsafe. -/
def State.accountWith (s : State) (a : Addr) (r : AccountRecord) : AccountUnit :=
  let records := s.account.records.set a r
  let t := { s.account with
    records := records,
    totals := Tab.of4 (convoyTotal records 0) (convoyTotal records 1) (convoyTotal records 2)
      (convoyTotal records 3) }
  let flag := fun k => if t.totals.get k = s.account.totals.get k then s.account.low.get k else s.lowNow t k
  { t with low := Tab.of4 (flag 0) (flag 1) (flag 2) (flag 3) }

/-- The role test of the account: the sender's entry is a PROPULSION entry or EMPTY (R125). -/
def State.accountTakes (s : State) (a : Addr) : Bool :=
  match s.peers.entries.get a with
  | none => true
  | some e => bodyRole e.body == .propulsion

/-- A discontinuity's time set, with FUEL_DISCONTINUITY raised if it is not present (R125, R126). In LISTEN_ONLY it
is raised here alone, and not at the entry from JOINING. DESIGN CHOICE, notes/assumptions/56.md: unsafe. -/
def State.discontinuity (s : State) : State :=
  let t := { s with account := { s.account with lastDisc := some s.clock } }
  t.whenever t.station.helmReporting (fun t => t.raiseNew .fuelDiscontinuity)

/-- A FUEL taken at a HELM station (R123, R125). FUEL_DISCONTINUITY is raised before TANK_LOW is judged. DESIGN
CHOICE, notes/assumptions/49.md: unsafe. -/
def State.takeFuel (s : State) (a : Addr) (p : FuelFields) : State :=
  s.whenever (s.isHelm && s.station.timing && s.accountTakes a)
    (fun s =>
      let r := s.account.records.get a
      let t := { s with account := s.accountWith a (r.apply p.totals) }
      State.judgeTankLow (if r.breaks p.totals then t.discontinuity else t))

/-- The restart mark of a START-flagged frame's source (R124). -/
def State.markRestart (s : State) (a : Addr) : State :=
  s.whenever (s.isHelm && s.station.timing)
    (fun s => { s with account := { s.account with
        records := s.account.records.set a { s.account.records.get a with restart := true } } })

/-- An ACCOUNT taken at a HELM station (R130). -/
def State.takeAccount (s : State) (a : Addr) (p : AccountFields) : State :=
  s.whenever (s.isHelm && s.station.timing && s.demand.view.holder == some a && s.helm.con != .holding)
    (fun s => s.setHolderLow (some p.low))

/-- A fill recorded (R127, R128). -/
def State.recordFill (s : State) (k : Fin 4) : State :=
  let a := { s.account with baselines := s.account.baselines.set k (s.account.totals.get k) }
  State.judgeTankLow { s with account := { a with low := a.low.set k (s.lowNow a k) } }

/-- A tank-filled input, IN8 for tank 0 to IN11 for tank 3, at a HELM station (R127). -/
def State.fillChange (s : State) (k : Fin 4) (on : Bool) : State :=
  let i : Fin 16 := Fin.ofNat 16 (8 + k.val)
  (s.setLine i on).whenever (!s.line i && on && s.station == .active) (fun s => s.recordFill k)

/-- The last discontinuity time becomes 60 s old (R126). -/
def State.discontinuityExpiry (s : State) : State :=
  s.whenever (s.isHelm && s.station.helmReporting && aged s.account.lastDisc s.clock (sec 60))
    (fun s => s.clear .fuelDiscontinuity)

/-- The account interval's expiry (R129). -/
def State.accountExpiry (s : State) : State :=
  s.whenever (s.isHelm && s.station == .active && due s.account.interval s.clock)
    (fun s =>
      State.offer { s with account := { s.account with interval := nextInterval s.account.interval } } .account 3)

/-- The entry to ACTIVE from JOINING: FUEL_DISCONTINUITY while its time is less than 60 s old, TANK_LOW by the
flags, and the account interval (R126, R128, R129). The two conditions are judged in this order. DESIGN CHOICE,
notes/assumptions/11.md: unsafe. -/
def State.superviseAccount (s : State) : State :=
  let t := s.whenever (s.account.lastDisc.isSome && !aged s.account.lastDisc s.clock (sec 60))
    (fun s => s.raiseNew .fuelDiscontinuity)
  let u := t.judgeTankLow
  { u with account := { u.account with interval := startTimer u.clock (sec (u.param Param.accountInterval)) } }

end Sys2Proof.Machine
end

