-- ==== Sys2Proof/Machine/View.lean ====
section
/-! DEFINITION. The convoy alert view of a HELM station (section 8.6). -/

namespace Sys2Proof.Machine

/-! ## Items (R143) -/

/-- An item stands for a station and a code. -/
def itemFor (a : Addr) (c : AlertCode) (i : ViewItem) : Bool := i.station == a && i.code == c

/-- An existing item after a report of it: its flags cleared where its occurrence has changed or its state has
become ACTIVE_UNACK from another (R143), and requested again by a holding helm where an ACK already sent has not
taken effect (R146). -/
def reportItem (holding : Bool) (r : AlertItem) (i : ViewItem) : ViewItem :=
  let afresh := r.occ != i.occ || (r.state == .activeUnack && i.state != .activeUnack)
  let again := holding && !afresh && i.sent && isUnack r.state
  { i with state := r.state, occ := r.occ, requested := if afresh then false else i.requested || again,
           sent := if afresh then false else i.sent }

/-- A report of an item asks a holding helm to acknowledge it again (R146). -/
def asksAgain (holding : Bool) (r : AlertItem) (i : ViewItem) : Bool :=
  holding && r.occ == i.occ && !(r.state == .activeUnack && i.state != .activeUnack) && i.sent && isUnack r.state

/-- An item as it is added. -/
def newItem (a : Addr) (r : AlertItem) : ViewItem :=
  { station := a, code := r.code, state := r.state, occ := r.occ, requested := false, sent := false }

/-- The view after one reported item (R143). -/
def takeItem (holding : Bool) (a : Addr) (l : List ViewItem) (r : AlertItem) : List ViewItem :=
  if l.any (itemFor a r.code) then l.map (fun i => if itemFor a r.code i then reportItem holding r i else i)
  else if l.length < 48 then l ++ [newItem a r]
  else l

/-- A reported item is refused (R143). -/
def refusesItem (a : Addr) (l : List ViewItem) (r : AlertItem) : Bool :=
  !l.any (itemFor a r.code) && decide (48 ≤ l.length)

/-- The view after a frame's items, in frame order. -/
def takeItems (holding : Bool) (a : Addr) : List ViewItem → List AlertItem → List ViewItem
  | l, [] => l
  | l, r :: rs => takeItems holding a (takeItem holding a l r) rs

/-- Whether any of a frame's items is refused. -/
def refusesAny (holding : Bool) (a : Addr) : List ViewItem → List AlertItem → Bool
  | _, [] => false
  | l, r :: rs => refusesItem a l r || refusesAny holding a (takeItem holding a l r) rs

/-- Whether any of a frame's items asks for its acknowledgement again. -/
def asksAny (holding : Bool) (a : Addr) : List ViewItem → List AlertItem → Bool
  | _, [] => false
  | l, r :: rs =>
    l.any (fun i => itemFor a r.code i && asksAgain holding r i) || asksAny holding a (takeItem holding a l r) rs

/-! ## Reports (R144) -/

/-- The codes a completed report carried, none where the frame completes none: a part 0 with LAST carries the whole
list, a part 1 completes the part 0 that set the mark (R144). DEDUCED, notes/assumptions/34.md: safe. -/
def reportCodes (p : AlertFields) (mark : Option (List AlertCode)) : Option (List AlertCode) :=
  if !p.last then none
  else if !p.part1 then some (p.items.map AlertItem.code)
  else mark.map (fun codes => codes ++ p.items.map AlertItem.code)

/-- The station's part-0-seen mark after a frame (R144). -/
def markAfter (p : AlertFields) (mark : Option (List AlertCode)) : Option (List AlertCode) :=
  if p.last then none else if p.part1 then mark else some (p.items.map AlertItem.code)

/-- The view without the items of a station that a completed report did not carry. -/
def dropUnreported (a : Addr) (codes : Option (List AlertCode)) (l : List ViewItem) : List ViewItem :=
  match codes with
  | none => l
  | some cs => l.filter (fun i => !(i.station == a && !cs.contains i.code))

/-- VIEW_FULL cleared where the view stands below 48, in ACTIVE and LISTEN_ONLY (R143). -/
def State.judgeViewRoom (s : State) : State :=
  s.whenever (s.isHelm && s.station.helmReporting && decide (s.view.items.length < 48))
    (fun s => s.clear .viewFull)

/-- An ALERT taken at a HELM station (R143, R144, R146): its items are taken, then the items that a completed report
did not carry leave; VIEW_FULL is raised at a refusal and then cleared where the view has come below 48. That order
is a DESIGN CHOICE, notes/assumptions/62.md: unsafe. -/
def State.takeAlert (s : State) (a : Addr) (p : AlertFields) : State :=
  s.whenever (s.isHelm && s.station.timing)
    (fun s =>
      let holding := s.helm.con == .holding
      let items := takeItems holding a s.view.items p.items
      let full := refusesAny holding a s.view.items p.items
      let again := asksAny holding a s.view.items p.items
      let mark := s.view.part0.get a
      let t := { s with view := { items := dropUnreported a (reportCodes p mark) items,
                                  part0 := s.view.part0.set a (markAfter p mark) } }
      let u := t.whenever (full && t.station.helmReporting) (fun t => t.raiseNew .viewFull)
      let v := u.judgeViewRoom
      v.whenever again (fun v => v.offer .ack 2))

/-! ## Forget, restart, acknowledgement (R144 to R146) -/

/-- The items and marks of forgotten addresses removed (R144). -/
def State.forgetItems (s : State) (addrs : List Nat) : State :=
  s.whenever s.isHelm
    (fun s => State.judgeViewRoom
      { s with view := { items := s.view.items.filter (fun i => !addrs.contains i.station.val),
                         part0 := s.view.part0.mapIdx (fun k m => if addrs.contains k then none else m) } })

/-- The ack flags of a restarted station's items cleared (R144). -/
def State.restartItems (s : State) (a : Addr) : State :=
  s.whenever (s.isHelm && s.station.timing)
    (fun s => { s with view := { s.view with
        items := s.view.items.map (fun i =>
          if i.station == a then { i with requested := false, sent := false } else i) } })

/-- The view after the acknowledge input: every unacknowledged item requested (R145). -/
def requestItems (l : List ViewItem) : List ViewItem :=
  l.map (fun i => if isUnack i.state then { i with requested := true, sent := false } else i)

/-- The acknowledge input's action on the view of a holding helm (R145). -/
def State.requestView (s : State) : State :=
  s.whenever (s.isHelm && s.helm.con == .holding)
    (fun s =>
      let t := { s with view := { s.view with items := requestItems s.view.items } }
      t.whenever (s.view.items.any (fun i => isUnack i.state)) (fun t => t.offer .ack 2))

/-- Every ack-requested flag cleared, at an exit from HOLDING (R145). -/
def ViewUnit.unrequest (v : ViewUnit) : ViewUnit :=
  { v with items := v.items.map (fun i => { i with requested := false }) }

/-- The items an ACK assembled now carries: the first 8 requested ones in view order (R146). -/
def ackItems (l : List ViewItem) : List AckItem :=
  ((l.filter ViewItem.requested).take 8).map
    (fun i => { station := BitVec.ofNat 8 i.station.val, code := i.code, occ := i.occ })

/-- An item is among those a frame carried, under the occurrence it still has (R146). -/
def carriedBy (items : List AckItem) (i : ViewItem) : Bool :=
  items.any (fun r => r.station == BitVec.ofNat 8 i.station.val && r.code == i.code && r.occ == i.occ)

/-- The view after an ACK is sent: what it carried loses ack-requested and gains ack-sent (R146). -/
def ViewUnit.acked (v : ViewUnit) (items : List AckItem) : ViewUnit :=
  { v with items := v.items.map (fun i =>
      if carriedBy items i then { i with requested := false, sent := true } else i) }

/-- At any end of an ACK another is queued while items are requested and the station holds (R146). -/
def State.nextAck (s : State) : State :=
  s.whenever (s.isHelm && s.helm.con == .holding && s.view.items.any ViewItem.requested) (fun s => s.offer .ack 2)

end Sys2Proof.Machine
end

