-- ==== Sys2Proof/Machine/Helm.lean ====
section
/-! DEFINITION. The demand unit (chapter 2): the con view, the demand record, the helm's own demand, the con state
machine and the helm switches. -/

namespace Sys2Proof.Machine

/-! ## The demand record (R19 to R23) -/

/-- A signed demand field clamped to −1000..+1000 (R20). -/
def clampDemand (w : BitVec 16) : Int := clampInt (-1000) 1000 (signed16 w)

/-- The economy cap of a field or a parameter: 0 is none (R20, R25). -/
def capOf (n : Nat) : Option Nat := if n = 0 then none else some n

/-- The demand of a DEMAND's payload (R20). -/
def demandOf (p : DemandFields) : Demand :=
  { thrust := clampDemand p.thrust, turn := clampDemand p.turn, mode := p.mode, cap := capOf p.cap.toNat,
    stopAll := p.stopAll }

/-- The demand unit with a FRESH record of this moment, its timeout running where the demand timers run
(R20, R23, R26). -/
def State.freshRecord (s : State) (d : Demand) (number : Byte) (timed : Bool) : DemandUnit :=
  { s.demand with
    record := { demand := d, number := number, accepted := some s.clock, state := .fresh },
    timeout := if timed && s.station.timing then startTimer s.clock (ms (s.param Param.demandTimeout)) else none,
    hold := none }

/-- DEMAND_LOST cleared in the states that clear it (R23). -/
def State.foundDemand (s : State) : State := s.whenever s.station.reporting (fun s => s.clear .demandLost)

/-- A DEMAND accepted: the record replaced, DEMAND_LOST cleared, and a demand other than zero clears the standing
request (R20, R194). -/
def State.acceptDemand (s : State) (p : DemandFields) : State :=
  let d := demandOf p
  let t := State.foundDemand { s with demand := s.freshRecord d p.number true }
  t.whenever (d.thrust != 0 || d.turn != 0) State.clearRequest

/-- A HELD record becomes DECAYING (R21). -/
def DemandUnit.decaying (d : DemandUnit) : DemandUnit :=
  { d with record := { d.record with state := .decaying }, timeout := none, hold := none }

/-- A FRESH record becomes HELD, and with a hold time of 0 DECAYING at the same moment (R21). -/
def State.heldRecord (s : State) : DemandUnit :=
  let hold := s.param Param.holdTime
  if hold = 0 then s.demand.decaying
  else
    { s.demand with record := { s.demand.record with state := .held }, timeout := none,
                    hold := startTimer s.clock (sec hold) }

/-- The demand timeout's expiry (R21, R23). -/
def State.timeoutExpiry (s : State) : State :=
  s.whenever (s.station.timing && s.demand.record.state == .fresh && due s.demand.timeout s.clock)
    (fun s =>
      let t := { s with demand := s.heldRecord }
      (t.whenever t.station.reporting (fun t => t.raiseNew .demandLost)).judgeWinch)

/-- The hold time's expiry (R21, R23). -/
def State.holdExpiry (s : State) : State :=
  s.whenever (s.station.timing && s.demand.record.state == .held && due s.demand.hold s.clock)
    (fun s => State.judgeWinch { s with demand := s.demand.decaying })

/-- A value 10 nearer zero (R22). -/
def decayStep (v : Int) : Int := if v.natAbs ≤ 10 then 0 else if 0 < v then v - 10 else v + 10

/-- The decay step of the control tick (R22, R23). -/
def State.decayTick (s : State) : State :=
  s.whenever (s.station.timing && s.demand.record.state == .decaying)
    (fun s =>
      let d := s.demand.record.demand
      State.judgeWinch { s with demand := { s.demand with record := { s.demand.record with
        demand := { d with thrust := decayStep d.thrust, turn := decayStep d.turn } } } })

/-! ## Station lag (R34) -/

/-- The followed number of a LIVE PROPULSION entry. -/
def followedOf (e : Option Entry) : Option Byte := (livePropRecord e).map PropRecord.followed

/-- A lag start judged from an entry: kept or set while the followed number differs (R34). -/
def lagOf (now : Clock) (number : Byte) (e : Option Entry) (start : Option Clock) : Option Clock :=
  match followedOf e with
  | none => none
  | some n => runStart now start (n != number)

/-- A lag start removed where the entry is no longer LIVE (R34). -/
def lagKept (e : Option Entry) (start : Option Clock) : Option Clock :=
  if (followedOf e).isSome then start else none

/-- Cells combined index by index. -/
def zipCells {α β γ : Type} (f : α → β → γ) : List α → List β → List γ
  | a :: as, b :: bs => f a b :: zipCells f as bs
  | [], _ => []
  | _ :: _, [] => []

/-- Combining keeps the length of equal lists. -/
theorem zipCells_length {α β γ : Type} (f : α → β → γ) :
    ∀ (as : List α) (bs : List β), as.length = bs.length → (zipCells f as bs).length = as.length
  | [], _, _ => rfl
  | _ :: _, [], h => by simp at h
  | _ :: as, _ :: bs, h => by simp [zipCells, zipCells_length f as bs (by simpa using h)]

/-- Two tables combined index by index. -/
def zipTab {n : Nat} {α β γ : Type} (f : α → β → γ) (a : Tab n α) (b : Tab n β) : Tab n γ :=
  ⟨zipCells f a.cells b.cells, by rw [zipCells_length f _ _ (by rw [a.size, b.size]), a.size]⟩

/-- STATION_LAG cleared where no lag start is 2 s old or more (R34). -/
def State.judgeLagEnd (s : State) : State :=
  s.whenever (s.isHelm && s.station.helmReporting && !s.helm.lag.cells.any (fun c => aged c s.clock (sec 2)))
    (fun s => s.clear .stationLag)

/-- The lag starts of every entry judged, at the entry to HOLDING (R34). -/
def State.lagAll (s : State) : State :=
  State.judgeLagEnd { s with helm := { s.helm with
      lag := zipTab (lagOf s.clock s.helm.number) s.peers.entries s.helm.lag } }

/-- A lag start at a renumbering: set where the difference appears with it, removed where it ends, and as it stands
where it persists; an entry that differed before and holds no start has returned to LIVE and waits for its next
PROP_STATE (R34). DESIGN CHOICE, notes/assumptions/36.md: unsafe. -/
def lagRenumbered (now : Clock) (old new : Byte) (e : Option Entry) (start : Option Clock) : Option Clock :=
  match followedOf e with
  | none => none
  | some n => if n = new then none else if n = old then runStart now start true else start

/-- The lag starts after a renumbering from a number (R34). -/
def State.lagRenumber (s : State) (old : Byte) : State :=
  State.judgeLagEnd { s with helm := { s.helm with
      lag := zipTab (lagRenumbered s.clock old s.helm.number) s.peers.entries s.helm.lag } }

/-- The lag start of a PROP_STATE's sender judged by a holding helm (R34). -/
def State.lagOne (s : State) (a : Addr) : State :=
  s.whenever (s.isHelm && s.helm.con == .holding)
    (fun s => State.judgeLagEnd { s with helm := { s.helm with
        lag := s.helm.lag.set a
          (lagOf s.clock s.helm.number (s.peers.entries.get a) (s.helm.lag.get a)) } })

/-- The lag starts of entries that are no longer LIVE removed (R34). -/
def State.pruneLag (s : State) : State :=
  s.whenever (s.isHelm && s.helm.con == .holding)
    (fun s => State.judgeLagEnd { s with helm := { s.helm with
        lag := zipTab lagKept s.peers.entries s.helm.lag } })

/-- A lag start becomes 2 s old: STATION_LAG (R34). -/
def State.lagExpiry (s : State) : State :=
  s.whenever (s.isHelm && s.helm.con == .holding && s.helm.lag.cells.any (fun c => aged c s.clock (sec 2)))
    (fun s => s.raiseNew .stationLag)

/-! ## The helm's own demand (R24 to R27, R35) -/

/-- A value as a signed field. -/
def field16 (v : Int) : BitVec 16 := BitVec.ofInt 16 v

/-- The live demand differs enough from the current one to be renumbered (R26). -/
def needsNumber (live current : Demand) : Bool :=
  decide (5 ≤ (live.thrust - current.thrust).natAbs) || decide (5 ≤ (live.turn - current.turn).natAbs)
    || live.mode != current.mode || live.cap != current.cap || live.stopAll != current.stopAll

/-- The current demand's D and T are both 0 (R35). -/
def State.currentZero (s : State) : Bool := s.helm.current.thrust == 0 && s.helm.current.turn == 0

/-- A STANDBY queued, and counted as queued since the switch turned on (R35). DESIGN CHOICE,
notes/assumptions/26.md: unsafe. -/
def State.queueStandby (s : State) : State :=
  State.offerWith { s with helm := { s.helm with switchPending := false, standbyQueued := true } } 1
    (.standby s.demand.view.epoch)

/-- The standby switch turning on while HOLDING (R35). -/
def State.switchOn (s : State) : State :=
  if s.currentZero then s.queueStandby
  else { s with helm := { s.helm with switchPending := true, standbyQueued := false } }

/-- The standby switch turning off while HOLDING (R35). -/
def State.switchOff (s : State) : State :=
  let t := { s with helm := { s.helm with switchPending := false, standbyQueued := false } }
  if s.helm.standbyQueued then t.offerWith 1 (.wake s.demand.view.epoch) else t

/-- The live demand taken as the current one under a number, and written into the record (R26). -/
def State.takeLive (s : State) (number : Byte) : State :=
  { s with helm := { s.helm with current := s.helm.live, number := number },
           demand := s.freshRecord s.helm.live number false }

/-- A renumbering of a holding helm (R26, R34, R35). -/
def State.renumber (s : State) : State :=
  let t := ((s.takeLive (s.helm.number + 1)).offer .demand 1).lagRenumber s.helm.number
  t.whenever (t.helm.switchPending && t.line 2 && t.currentZero) State.queueStandby

/-- The renumbering test, at a lever delivery and at a change of a helm switch (R26). -/
def State.testNumber (s : State) : State :=
  s.whenever (s.helm.con == .holding && needsNumber s.helm.live s.helm.current) State.renumber

/-- The demand interval's expiry (R27). -/
def State.demandIntervalEnd (s : State) : State :=
  s.whenever (s.isHelm && s.helm.con == .holding && due s.helm.interval s.clock)
    (fun s => State.offer { s with helm := { s.helm with interval := nextInterval s.helm.interval } } .demand 1)

/-- A lever value after a delivery: held on a fault (R24). -/
def leverAfter (held : Int) (raw : Raw) (inRange : Bool) : Int := if inRange then leverValue raw else held

/-- The levers' delivery to the demand unit, in JOINING, ACTIVE and LISTEN_ONLY (R24, R26). -/
def State.leverDelivery (s : State) (a0 a1 : Raw) (ok0 ok1 : Bool) : State :=
  s.whenever (s.isHelm && s.station.timing)
    (fun s =>
      let t := { s with helm := { s.helm with
        live := { s.helm.live with thrust := leverAfter s.helm.live.thrust a0 ok0,
                                   turn := leverAfter s.helm.live.turn a1 ok1 },
        thrustFault := !ok0, turnFault := !ok1 } }
      let u := t.whenever t.station.helmReporting (fun t => t.follow .leverSignal (!ok0 || !ok1))
      u.testNumber)

/-- The steering mode of its two lines (R25). -/
def modeOfLines : Nat → SteeringMode
  | 0 => .normal
  | 1 => .flanking
  | _ => .midship

/-- The economy cap of its two lines (R25). -/
def State.capOfLines (s : State) (level : Nat) : Option Nat :=
  if level = 0 then none else capOf (s.param (Param.economyCap (level - 1)))

/-- The live demand's mode, cap and STOP_ALL read from the lines (R25). -/
def State.readSwitches (s : State) : State :=
  { s with helm := { s.helm with live := { s.helm.live with
      mode := modeOfLines (twoLine (s.line 4) (s.line 5)),
      cap := s.capOfLines (twoLine (s.line 6) (s.line 7)),
      stopAll := s.line 3 } } }

/-- The lines of R25 at new levels. -/
def State.setSwitches (s : State) (mode economy : BitVec 2) (stopAll : Bool) : State :=
  ((((s.setLine 3 stopAll).setLine 4 (mode.getLsbD 0)).setLine 5 (mode.getLsbD 1)).setLine 6
    (economy.getLsbD 0)).setLine 7 (economy.getLsbD 1)

/-- A change of a helm switch (R25, R26). DEDUCED, notes/assumptions/28.md: safe. Where several lines change at one
moment they are read and tested once. DESIGN CHOICE, notes/assumptions/61.md: unsafe. -/
def State.switchChange (s : State) (mode economy : BitVec 2) (stopAll : Bool) : State :=
  let t := s.setSwitches mode economy stopAll
  t.whenever (t.lines != s.lines && t.station.joined) (fun t => t.readSwitches.testNumber)

/-! ## The con view and the con state machine (R17, R18, R26, R28 to R33) -/

/-- A candidate is preferred to a view (R17). -/
def preferred (v : ConView) (h : Addr) (e : Byte) : Bool :=
  newer e v.epoch ||
    (e == v.epoch && (match v.holder with | none => true | some k => decide (h < k)))

/-- Entry to HOLDING, made with the view naming this station (R26, R27, R28, R34, R35, R130). The order of its
conditions: DESIGN CHOICE, notes/assumptions/49.md: unsafe. -/
def State.enterHolding (s : State) : State :=
  let t := s.takeLive (s.demand.record.number + 1)
  let u := { t with helm := { t.helm with
    con := .holding, requestTimer := none, requestedOf := none,
    interval := startTimer t.clock (ms (t.param Param.demandInterval)),
    switchPending := false, standbyQueued := false } }
  let v := (((u.foundDemand.clear .conLost).setHolderLow none).offer .demand 1).lagAll
  v.whenever (v.line 2) State.switchOn

/-- The helm's part at an exit from HOLDING: no interval, no pending mark, no lag start (R32, R34, R35). -/
def HelmUnit.released (h : HelmUnit) : HelmUnit :=
  { h with con := .standingBy, interval := none, switchPending := false, lag := Tab.all 32 none }

/-- An exit from HOLDING: the record FRESH as of this moment and kept by section 2.2 from then on, STATION_LAG
cleared, the view's requests cleared (R26, R34, R145). -/
def State.leaveHolding (s : State) : State :=
  State.clear
    { s with helm := s.helm.released,
             demand := s.freshRecord s.demand.record.demand s.demand.record.number true,
             view := s.view.unrequest }
    .stationLag

/-- An exit from REQUESTING to STANDING_BY. -/
def HelmUnit.endRequest (h : HelmUnit) : HelmUnit :=
  { h with con := .standingBy, requestTimer := none, requestedOf := none }

/-- The con state machine at a change of the view (R31, R32). -/
def State.conAfterView (s : State) (h : Addr) : State :=
  match s.helm.con with
  | .holding =>
    if h = s.address then s
    else
      let t := s.leaveHolding
      t.whenever t.station.helmReporting (fun t => t.raiseNew .conLost)
  | .requesting =>
    if h = s.address ∨ s.helm.requestedOf = some h then s
    else { s with helm := s.helm.endRequest }
  | .standingBy => s

/-- A candidate offered to the con view (R17, R18); each change of it is handed to the con state machine of a HELM
station and makes its holder flags none (R130). The order of its conditions:
DESIGN CHOICE, notes/assumptions/49.md: unsafe. -/
def State.offerView (s : State) (h : Addr) (e : Byte) : State :=
  if preferred s.demand.view h e then
    let t := { s with demand := { s.demand with view := { holder := some h, epoch := e } } }
    t.whenever t.isHelm (fun t => (t.setHolderLow none).conAfterView h)
  else s

/-- A CON frame's fields. -/
def conFields (target : Addr) (epoch : Byte) (thrust turn : Int) : ConFields :=
  { target := target, epoch := epoch, thrust := field16 thrust, turn := field16 turn }

/-- A claim by TAKE (R29, R31, R33). -/
def State.takeCon (s : State) : State :=
  let e := s.demand.view.epoch + 1
  State.enterHolding
    ((s.offerWith 1 (.con .take (conFields s.address e s.helm.live.thrust s.helm.live.turn))).offerView
      s.address e)

/-- A claim by REQUEST to a holder (R29). -/
def State.requestCon (s : State) (holder : Addr) : State :=
  State.offerWith
    { s with helm := { s.helm with con := .requesting, requestTimer := startTimer s.clock (sec 3),
                                   requestedOf := some holder } } 1
    (.con .request (conFields holder s.demand.view.epoch s.helm.live.thrust s.helm.live.turn))

/-- The con request input turning on in STANDING_BY (R29). -/
def State.claimCon (s : State) : State :=
  match s.demand.view.holder with
  | none => s.takeCon
  | some h => if s.holderSilent then s.takeCon else s.requestCon h

/-- A change of the con request input at a HELM station (R28, R29). -/
def State.conRequestChange (s : State) (on : Bool) : State :=
  (s.setLine 0 on).whenever (!s.line 0 && on && s.station == .active && s.helm.con == .standingBy) State.claimCon

/-- The request timer's expiry (R31). -/
def State.requestExpiry (s : State) : State :=
  s.whenever (s.isHelm && s.helm.con == .requesting && due s.helm.requestTimer s.clock)
    (fun s =>
      let t := { s with helm := s.helm.endRequest }
      if s.holderSilent then t.takeCon else t)

/-- A REQUEST's lever values stand where the convoy is being driven (R30). -/
def State.leversMatch (s : State) (p : ConFields) : Bool :=
  decide ((signed16 p.thrust - s.helm.current.thrust).natAbs ≤ 50)
    && decide ((signed16 p.turn - s.helm.current.turn).natAbs ≤ 50)

/-- The con granted to a requester (R30). DEDUCED, notes/assumptions/18.md: unsafe. DESIGN CHOICE,
notes/assumptions/39.md: safe. -/
def State.grantCon (s : State) (requester : Addr) : State :=
  let e := s.demand.view.epoch + 1
  (s.offerWith 1 (.con .grant (conFields requester e s.helm.current.thrust s.helm.current.turn))).leaveHolding.offerView
    requester e

/-- The con declined to a requester (R30). -/
def State.declineCon (s : State) (requester : Addr) : State :=
  s.offerWith 1
    (.con .decline (conFields requester s.demand.view.epoch s.helm.current.thrust s.helm.current.turn))

/-- A REQUEST routed to the demand unit: answered by a holding helm that is its target (R30). -/
def State.routeRequest (s : State) (a : Addr) (p : ConFields) : State :=
  s.whenever (s.isHelm && s.helm.con == .holding && p.target == s.address)
    (fun s => if p.epoch == s.demand.view.epoch && s.leversMatch p then s.grantCon a else s.declineCon a)

/-- A GRANT routed to the demand unit (R18, R31, R32). -/
def State.routeGrant (s : State) (p : ConFields) : State :=
  (s.offerView p.target p.epoch).whenever
    (s.isHelm && p.target == s.address && preferred s.demand.view p.target p.epoch
      && s.helm.con != .holding && s.station == .active)
    State.enterHolding

/-- A DECLINE routed to the demand unit (R31). -/
def State.routeDecline (s : State) (a : Addr) (p : ConFields) : State :=
  s.whenever (s.isHelm && s.helm.con == .requesting && p.target == s.address && s.demand.view.holder == some a)
    (fun s => { s with helm := s.helm.endRequest })

/-- A DEMAND routed to the demand unit (R18, R20). -/
def State.routeDemand (s : State) (a : Addr) (p : DemandFields) : State :=
  let t := s.offerView a p.epoch
  t.whenever (t.demand.view.holder == some a) (fun t => t.acceptDemand p)

/-! ## Standby switch, roster clear, STANDBY and WAKE (R35, R36) -/

/-- A change of the standby switch at a HELM station (R28, R35). -/
def State.standbySwitchChange (s : State) (on : Bool) : State :=
  (s.setLine 2 on).whenever (s.line 2 != on && s.station == .active && s.helm.con == .holding)
    (fun s => if on then s.switchOn else s.switchOff)

/-- A change of the roster clear input at a HELM station (R28, R36). -/
def State.rosterClearChange (s : State) (on : Bool) : State :=
  (s.setLine 12 on).whenever (!s.line 12 && on && s.station == .active && s.helm.con == .holding)
    (fun s => s.offerWith 2 (.roster s.demand.view.epoch))

/-- The two tests of a STANDBY, WAKE or ROSTER: its source is the viewed holder, its epoch the view's (R13, R36). -/
def State.fromHolder (s : State) (a : Addr) (epoch : Byte) : Bool :=
  s.demand.view.holder == some a && s.demand.view.epoch == epoch

/-! ## Entries (R24, R32, R33) -/

/-- The entry to ACTIVE from JOINING: LEVER_SIGNAL by the latest results, HOLDING where the view names this station,
a TAKE by a primary helm whose view names no holder (R24, R32, R33). -/
def State.superviseHelm (s : State) : State :=
  let t := s.whenever (s.helm.thrustFault || s.helm.turnFault) (fun s => s.raiseNew .leverSignal)
  match t.demand.view.holder with
  | none => if t.param Param.primaryHelm = 1 then t.takeCon else t
  | some h => if h = t.address then t.enterHolding else t

/-- The helm's part at entry to LISTEN_ONLY or HALTED: STANDING_BY, and CON_LOST is not raised (R33). DESIGN CHOICE,
notes/assumptions/38.md: unsafe. -/
def State.leaveCon (s : State) : State :=
  let t := if s.helm.con = .holding then s.leaveHolding else s
  { t with helm := { t.helm.endRequest with interval := none } }

end Sys2Proof.Machine
end

