-- ==== Sys2Proof/Machine/Start.lean ====
section
/-! DEFINITION. The start unit (chapter 12): resets, the load of the image, and the entries to the station states. -/

namespace Sys2Proof.Machine

/-! ## Resets (R187) -/

/-- The role of the two role pins: code 0 is none. -/
def roleOfPins (pins : BitVec 2) : Option Role := roleOfCode pins.toNat

/-- Entry to FAILED: the read and the converter stand still, the alert list is not kept, the safe state is applied
(R131, R180, R189). DEDUCED, notes/assumptions/17.md: safe. -/
def State.enterFailed (s : State) : State :=
  State.applySafe
    { s with station := .failed, start := { s.start with reading := none },
             conv := { s.conv with state := .idle },
             comms := { s.comms with alerts := AlertUnit.reset } }

/-- A strapping of role code 0 goes to FAILED at once (R187). -/
def State.judgeStrapping (s : State) : State :=
  match s.role with
  | none => s.enterFailed
  | some _ => s

/-- A reset of either kind: a power-on reset zeroes the tank totals and the residue, a reset-line reset keeps them
(R114, R187). -/
def State.resetTo (s : State) (cause : ResetCause) (pins : BitVec 2) (address : Addr) (lines : BitVec 16) : State :=
  let totals := match cause with | .powerOn => Tab.all 4 0 | .resetLine => s.meter.totals
  let residue := match cause with | .powerOn => 0 | .resetLine => s.meter.residue
  (State.afterReset cause (roleOfPins pins) address (linesOfBits lines) totals residue s.pending).judgeStrapping

/-! ## The load (R188 to R190) -/

/-- What the start unit sends at the start of the read: the request byte 0x03 and the 16-bit address 0, most
significant bit first (R188). -/
def readRequest : BitVec 24 := 0x03#8 ++ 0#16

/-- The periods of the serial clock of one read: 24 of the request and the address, 8 for each of the 128 bytes. At
1 MHz each lasts 1 µs (R188). DESIGN CHOICE, notes/assumptions/65.md: unsafe. -/
def readPeriods : Nat := 24 + 8 * 128

/-- The periods of the serial clock that the read under way has given, 0 where none is (R188). DESIGN CHOICE,
notes/assumptions/65.md: unsafe. -/
def State.memoryPeriods (s : State) : Nat :=
  match s.start.reading with
  | none => 0
  | some since => min readPeriods (elapsed s.clock since)

/-- The station drives the memory's select active: from the beginning of the read to its end (R188). -/
def State.memorySelect (s : State) : Bool := s.start.reading.isSome

/-- The bit that the station sends to the memory now: those of the request and the address in their order, none
where it sends no bit (R188). DESIGN CHOICE, notes/assumptions/65.md: unsafe. -/
def State.memoryDataOut (s : State) : Option Bool :=
  if s.memorySelect && decide (s.memoryPeriods < 24) then some (readRequest.getMsbD s.memoryPeriods) else none

/-- The read under way has clocked all its bits (R188). DESIGN CHOICE, notes/assumptions/65.md: unsafe. -/
def State.readDue (s : State) : Bool := decide (s.memoryPeriods = readPeriods)

/-- The 128 bytes of the read: the data line with no memory driving it reads 0xFF. DESIGN CHOICE,
notes/assumptions/22.md: safe. -/
def readBytes (bytes : List Byte) : List Byte := (bytes ++ List.replicate 128 0xFF#8).take 128

/-- Bytes as words, each high byte first (R188). -/
def wordsOf : List Byte → List Word
  | hi :: lo :: rest => of16 hi lo :: wordsOf rest
  | _ => []

/-- The image check: the frame check over words 0 to 62 equals word 63 (R189, R193). -/
def imageChecks (image : List Word) : Bool :=
  crcBits crcSeed (wordsBits (image.take 63)) == imageWord image 63

/-- A read image passes the four judgements: answer, check, marker and role (R189). -/
def imagePasses (role : Role) (bytes : List Byte) : Bool :=
  let image := wordsOf (readBytes bytes)
  !(readBytes bytes).all (fun b => b == 0xFF#8) && imageChecks image
    && (imageWord image 0).toNat / 256 == 0xD6 && (imageWord image 0).toNat % 256 == roleCode role

/-- The end of the read, which releases select (R188, R189, R190). -/
def State.readComplete (s : State) (bytes : List Byte) : State :=
  match s.role with
  | none => s
  | some role =>
    let image := wordsOf (readBytes bytes)
    let t := { s with start := { s.start with image := image, reading := none } }
    if imagePasses role bytes then
      let u := t.whenever (imageNeedsClamp role image) (fun t => t.raise .configClamped)
      { u with conv := { u.conv with state := .reference u.clock } }
    else t.enterFailed

/-- The end of the read of the configuration memory, in START, once all its bits are clocked (R188). -/
def State.configRead (s : State) (bytes : List Byte) : State :=
  s.whenever (s.station == .start && s.readDue) (fun s => s.readComplete bytes)

/-! ## Entry to JOINING (R191) -/

/-- The series that begin at JOINING entry: join time, control tick, sweep, rate of burn, converter. -/
def State.startJoining (s : State) : State :=
  { s with
    station := .joining,
    start := { s.start with joinTimer := startTimer s.clock (sec (s.param Param.joinTime)) },
    demand := { s.demand with tick := startTimer s.clock (ms 100) },
    peers := { s.peers with sweep := startTimer s.clock (ms 100) },
    meter := { s.meter with rateSeries := if s.isProp then startTimer s.clock (sec 1) else none },
    conv := s.conv.restart s.clock (roleInterval s.role),
    thrust := { s.thrust with expected := if s.isProp then s.expectedAt s.thrust.duty else s.thrust.expected },
    comms := { s.comms with link := { s.comms.link with
      quietSince := none, lastChange := none, receiver := .hunting } } }

/-- Entry to JOINING: the series begin, the helm switches are read, the own entry shows the availability and the
strain factor as they stand (R10, R25, R37, R147, R191). -/
def State.enterJoining (s : State) : State :=
  let t := s.startJoining
  (t.whenever t.isHelm State.readSwitches).refreshAvailability.refreshStrain.applySafe

/-- The reference conversion of START ends 40 µs after it began (R186). -/
def State.referenceDue (s : State) : Bool :=
  match s.conv.state with
  | .reference since => decide (40 ≤ elapsed s.clock since)
  | .idle => false
  | .sequence _ _ _ _ => false

/-- The reference check's result (R186, R189). -/
def State.referenceDone (s : State) (result : Raw) : State :=
  s.whenever (s.station == .start && s.referenceDue)
    (fun s =>
      let t := { s with conv := { s.conv with state := .idle, latestRef := some result } }
      if referencePasses result then t.enterJoining else t.enterFailed)

/-! ## Entry to ACTIVE from JOINING (R191) -/

/-- DEMAND_LOST at the entry (R23). -/
def State.entryDemand (s : State) : State :=
  s.whenever (s.demand.record.state == .held || s.demand.record.state == .decaying)
    (fun s => s.raiseNew .demandLost)

/-- A HELM station's units at the entry; VIEW_FULL if the view holds 48 items (R143). -/
def State.entryHelm (s : State) : State :=
  let t := s.superviseHelm.superviseAccount
  t.whenever (decide (48 ≤ t.view.items.length)) (fun t => t.raiseNew .viewFull)

/-- A PROPULSION station's units at the entry. -/
def State.entryProp (s : State) : State :=
  s.judgeEngine.startPropSeries.superviseGear.superviseGovernor.superviseSteering.superviseFuel

/-- The role's units at the entry. -/
def State.entryUnits (s : State) : State :=
  match s.role with
  | some .helm => s.entryHelm
  | some .propulsion => s.entryProp
  | some .coupling => s.superviseCoupling
  | none => s

/-- RX_ERROR by the error mark, CONVERTER_OVERRUN while its time is less than 10 s old (R167, R185). -/
def State.entryCommon (s : State) : State :=
  let t := s.whenever s.comms.link.errorMark (fun s => s.raiseNew .rxError)
  t.whenever (t.conv.lastOverrun.isSome && !aged t.conv.lastOverrun t.clock (sec 10))
    (fun t => t.raiseNew .converterOverrun)

/-- The repeat timer restarted, and an ALERT queued if the list holds any entry (R140). -/
def State.entryAlert (s : State) : State :=
  let t := s.restartRepeat
  t.whenever (!t.comms.alerts.list.isEmpty) State.offerAlert

/-- Entry to ACTIVE from JOINING: the safe state ends and every unit makes its entry judgement, in the order of the
chapters; the table's two conditions are judged from the table as it stands (R16). DESIGN CHOICE,
notes/assumptions/11.md: unsafe. -/
def State.enterActive (s : State) : State :=
  let t := { s with station := .active,
                    start := { s.start with joinTimer := none, watch := startTimer s.clock (sec 1) } }
  ((t.judgeConflict false).judgeSilent false).entryDemand.entryUnits.entryCommon.entryAlert.judgeCoupStandby

/-- The join time's expiry (R191). -/
def State.joinExpiry (s : State) : State :=
  s.whenever (s.station == .joining && due s.start.joinTimer s.clock) State.enterActive

/-! ## Entry to LISTEN_ONLY and HALTED (R192) -/

/-- The thrust unit at the entry (R38). -/
def State.thrustLeave (s : State) : ThrustUnit :=
  { s.thrust with x := 0, lastTarget := 0, duty := 0,
                  expected := if s.thrust.duty = 0 then s.thrust.expected else s.expectedAt 0,
                  economy := none, stateSeries := none }

/-- The demand unit at the entry: its timers run on in LISTEN_ONLY, and from STANDBY they start again in full; in
HALTED nothing runs (R23, R192). DESIGN CHOICE, notes/assumptions/33.md: unsafe. -/
def State.demandLeave (s : State) (halted : Bool) : DemandUnit :=
  if halted then { s.demand with timeout := none, hold := none, tick := none }
  else if s.station = .standby then s.resumeDemand
  else s.demand

/-- The transmit residue at a moment at which what the transmitter sends is cut: a transmission has stepped it over
the bits sent so far (R149). DESIGN CHOICE, notes/assumptions/8.md: unsafe. -/
def LinkUnit.cutResidue (l : LinkUnit) (now : Clock) : Word :=
  match l.tx with
  | .sending h => residueAt h.frame (bitTimeOf now h.since)
  | .idle => l.txResidue
  | .deferring => l.txResidue
  | .jamming _ => l.txResidue
  | .backingOff _ _ => l.txResidue

/-- The queue emptied, the frame in hand dropped, a transmission stopped at once, the transmitter IDLE (R168). -/
def LinkUnit.silence (l : LinkUnit) (now : Clock) : LinkUnit :=
  { l with queue := [], tx := .idle, txResidue := l.cutResidue now }

/-- Every unit's change at entry to LISTEN_ONLY or HALTED, with the safe state applied (R33, R38, R61, R76, R92,
R95, R112, R115, R168, R192). At an entry to LISTEN_ONLY from JOINING neither TANK_LOW nor
FUEL_DISCONTINUITY is raised. DESIGN CHOICE, notes/assumptions/48.md and 56.md: unsafe. -/
def State.leaveService (s : State) (halted : Bool) : State :=
  let t := { s with
    station := if halted then .halted else .listenOnly,
    start := { s.start with joinTimer := none, watch := none },
    comms := { s.comms with
      link := s.comms.link.silence s.clock,
      alerts := { s.comms.alerts with repeatTimer := none } },
    demand := s.demandLeave halted,
    peers := { s.peers with sweep := if halted then none else s.peers.sweep },
    thrust := s.thrustLeave,
    gear := s.gear.leave,
    gov := s.gov.leave,
    steer := s.steer.leave,
    coup := s.coup.leave,
    meter := s.meter.leave halted,
    account := { s.account with interval := none } }
  t.leaveCon.applySafe

/-- DUPLICATE_ADDRESS: raised, and the station goes to LISTEN_ONLY (R4, R192). DESIGN CHOICE,
notes/assumptions/19.md: unsafe. -/
def State.duplicateAddress (s : State) : State := (s.raise .duplicateAddress).leaveService false

/-- The one ALERT of the entry to HALTED enters the empty queue (R142, R168). -/
def State.forceAlert (s : State) : State :=
  { s with comms := { s.comms with
      link := s.comms.link.put s.clock (alertFrame s.clock s.comms.alerts.list) } }

/-- CONFIG_CORRUPT: raised, and the station goes to HALTED (R192, R193). DESIGN CHOICE, notes/assumptions/19.md:
unsafe. -/
def State.configCorrupt (s : State) : State := ((s.raise .configCorrupt).leaveService true).forceAlert

/-! ## The config watch (R193) -/

/-- An image with one word damaged: the given bits inverted. -/
def damageWord (image : List Word) (d : Nat × Word) : List Word :=
  image.set d.1 (imageWord image d.1 ^^^ d.2)

/-- An image with its damage since the last run. -/
def damageImage : List Word → List (Nat × Word) → List Word
  | image, [] => image
  | image, d :: ds => damageImage (damageWord image d) ds

/-- A run of the config watch, where one is due, over the held image as the world has left it; damage shows at once
in every parameter read (R190, R193). DESIGN CHOICE, notes/assumptions/21.md: safe. -/
def State.watchRun (s : State) (damage : List (Nat × Word)) : State :=
  let t := { s with start := { s.start with image := damageImage s.start.image damage } }
  t.whenever (t.station.acting && due t.start.watch t.clock)
    (fun t =>
      let u := { t with start := { t.start with watch := nextInterval t.start.watch } }
      u.whenever (!imageChecks u.start.image) State.configCorrupt)

end Sys2Proof.Machine
end

