-- ==== Sys2Proof/Machine/Link.lean ====
section
/-! DEFINITION. Sending (sections 9.5 and 9.6): assembly, the transmitter, and the ends told to a frame's owner. -/

namespace Sys2Proof.Machine

/-! ## Assembly (R27, R103, R121, R129, R142, R146, R163, R166) -/

/-- A quantity that is not negative as a 16-bit field. -/
def nat16 (n : Nat) : BitVec 16 := BitVec.ofNat 16 n

/-- A DEMAND of the current demand, void unless the station is HOLDING (R27). -/
def State.assembleDemand (s : State) : Option Payload :=
  let d := s.helm.current
  if s.isHelm && s.helm.con == .holding then
    some (.demand { number := s.helm.number, epoch := s.demand.view.epoch, thrust := field16 d.thrust,
                    turn := field16 d.turn, mode := d.mode, cap := nat16 (d.cap.getD 0), stopAll := d.stopAll })
  else none

/-- The measured shaft speed as its two-byte field; above 65535 rpm a free value (R72, R154). DESIGN CHOICE,
notes/assumptions/45.md: safe. -/
def speedField (rpm : Nat) : BitVec 16 := if rpm ≤ 65535 then nat16 rpm else Config.wideSpeed rpm

/-- A PROP_STATE of the own entry's values (R166); a speed that does not fit its field is carried as `speedField`
says. DESIGN CHOICE, notes/assumptions/45.md: safe. -/
def State.assembleProp (s : State) : Payload :=
  let r := s.ownPropRecord
  .propState { rated := nat16 (s.param Param.ratedThrust), ahead := nat16 r.ahead, astern := nat16 r.astern,
               setpoint := field16 r.setpoint, gear := r.gear, side := s.side, rudder := s.rudderType,
               angle := field16 r.angle, rpm := speedField r.rpm, fuelRate := nat16 r.fuelRate, trim := nat16 r.trim,
               followed := r.followed, standby := s.station == .standby, trip := r.trip, warn := r.warn }

/-- A STRAIN of the own entry's values (R103). -/
def State.assembleStrain (s : State) : Payload :=
  let r := s.ownStrainRecord
  .strain { joint := BitVec.ofNat 8 (s.param Param.joint), cls := r.cls, tension := nat16 r.tension,
            peak := nat16 r.peak, winch := r.winch, standby := s.station == .standby }

/-- A FUEL of the tank totals (R121). -/
def State.assembleFuel (s : State) : Payload :=
  .fuel { totals := s.meter.totals, tank := BitVec.ofNat 8 s.tank.val, rate := nat16 s.meter.rate }

/-- An ACCOUNT of the convoy totals modulo 2^40 and the own flags (R129). -/
def State.assembleAccount (s : State) : Payload :=
  .account { totals := s.account.totals.map (BitVec.ofNat 40), low := s.account.low }

/-- An entry as an item. -/
def itemOf (e : AlertEntry) : AlertItem := { code := e.code, state := e.state, occ := e.occ }

/-- The items of the ALERT of the entry to HALTED: the whole list, or where it is longer than 8 the trip-class
entries first, up to 8 (R142). -/
def haltedItems (l : List AlertEntry) : List AlertItem :=
  if l.length ≤ 8 then l.map itemOf
  else ((l.filter (fun e => tripClass e.code) ++ l.filter (fun e => !tripClass e.code)).take 8).map itemOf

/-- An ALERT: part 0 or, with the part-1-due mark set, part 1; in HALTED the frame of its entry (R142). -/
def State.assembleAlert (s : State) : Payload :=
  let l := s.comms.alerts.list
  if s.station = .halted then
    .alert { part1 := false, last := decide (l.length ≤ 8), items := haltedItems l }
  else if s.comms.alerts.part1Due then .alert { part1 := true, last := true, items := (l.drop 8).map itemOf }
  else .alert { part1 := false, last := decide (l.length ≤ 8), items := (l.take 8).map itemOf }

/-- An ACK of the first requested items, void unless the station is HOLDING and an item is requested (R146, R163).
-/
def State.assembleAck (s : State) : Option Payload :=
  if s.isHelm && s.helm.con == .holding && s.view.items.any ViewItem.requested then
    some (.ack (ackItems s.view.items))
  else none

/-- A frame's payload at an assembly, none where it is void; a kind taken at enqueue keeps its content. -/
def State.assemble (s : State) (k : FrameKind) (content : Option Payload) : Option Payload :=
  match k with
  | .demand => s.assembleDemand
  | .propState => some s.assembleProp
  | .strain => some s.assembleStrain
  | .fuel => some s.assembleFuel
  | .account => some s.assembleAccount
  | .alert => some s.assembleAlert
  | .ack => s.assembleAck
  | .con => content
  | .roster => content
  | .standby => content
  | .wake => content

/-- What an assembly changes: a STRAIN's peak since assembly, and the change mark of a report's part 0
(R103, R142). -/
def State.noteAssembly (s : State) (p : Payload) : State :=
  match p with
  | .strain _ => { s with coup := s.coup.assembled }
  | .alert a =>
    if a.part1 then s
    else { s with comms := { s.comms with alerts := { s.comms.alerts with changed := false } } }
  | .demand _ => s
  | .con _ _ => s
  | .propState _ => s
  | .fuel _ => s
  | .account _ => s
  | .ack _ => s
  | .roster _ => s
  | .standby _ => s
  | .wake _ => s

/-! ## Attempts (R157 to R159) -/

/-- The contention gap of a class (R157). -/
def gapOf (c : Fin 4) : Micros := bitTimes (12 + 8 * c.val)

/-- The line has been quiet for a time. -/
def LinkUnit.quietFor (l : LinkUnit) (now : Clock) (t : Micros) : Bool := aged l.quietSince now t

/-- The transmitter after a frame in hand is gone: DEFERRING or IDLE by the queue (R160). -/
def restTx (q : List Waiting) : Transmitter := if q.isEmpty then .idle else .deferring

/-- The link unit at the start of an attempt: SENDING, the transmit residue seeded, the line active and the own
receiver taking the frame (R147 to R149, R158). DEDUCED, notes/assumptions/14.md: safe. While it drives the line no
level change is placed. DESIGN CHOICE, notes/assumptions/29.md: safe. -/
def LinkUnit.startWith (l : LinkUnit) (hand : InHand) : LinkUnit :=
  { l with tx := .sending hand, txResidue := crcSeed, quietSince := none, lastChange := none,
           receiver := .receiving }

/-- The level that the station itself puts on the link now: the frame being sent or the jam, none while the line is
released (R147, R158). -/
def State.linkLevel (s : State) : Option Bool :=
  match s.comms.link.tx with
  | .sending h => levelAt (frameLevels h.frame) (elapsed s.clock h.since)
  | .jamming h => levelAt jamLevels (elapsed s.clock h.since)
  | .idle => none
  | .deferring => none
  | .backingOff _ _ => none

/-- An attempt begun with a payload, a class and a collision count (R152, R158). -/
def State.attempt (s : State) (p : Payload) (cls : Fin 4) (collisions : Nat) : State :=
  match s.role with
  | none => s
  | some role =>
    let t := s.noteAssembly p
    let frame : Frame := { start := s.comms.link.startMark, source := s.address, role := role, cls := cls,
                           payload := p }
    let hand : InHand := ⟨frame, collisions, s.clock, s.clock, false⟩
    { t with comms := { t.comms with link := t.comms.link.startWith hand } }

/-- The head removed from the queue. -/
def State.dropHead (s : State) : State :=
  { s with comms := { s.comms with link := { s.comms.link with
      queue := queueTail s.comms.link.queue, tx := restTx (queueTail s.comms.link.queue) } } }

/-- The start of SENDING at the head of the queue, with at most `n` void heads removed before it (R157, R158,
R163). -/
def State.startHead : Nat → State → State
  | 0, s => s
  | n + 1, s =>
    match queueHead s.comms.link.queue with
    | none => s
    | some w =>
      if s.comms.link.quietFor s.clock (gapOf w.cls) then
        match s.assemble w.kind w.content with
        | none => State.startHead n s.dropHead
        | some p => s.dropHead.attempt p w.cls 0
      else s

/-- The transmitter runs: ACTIVE, STANDBY, and HALTED for its one ALERT (R168). -/
def State.transmits (s : State) : Bool := s.station.acting || s.station == .halted

/-- TRANSMIT_START: in DEFERRING, the quiet has lasted the head's gap (R157). -/
def State.transmitStart (s : State) : State :=
  s.whenever (s.transmits && s.comms.link.tx == .deferring)
    (fun s => s.startHead (s.comms.link.queue.length + 1))

/-- A collision in bit times 1 to 40 (R158). -/
def State.collide (s : State) : State :=
  match s.comms.link.tx with
  | .sending h =>
    let n := bitTimeOf s.clock h.since
    s.whenever (s.transmits && decide (1 ≤ n) && decide (n ≤ 40))
      (fun s => { s with comms := { s.comms with link := { s.comms.link with
          tx := .jamming { h with collisions := h.collisions + 1, since := s.clock },
          txResidue := residueAt h.frame n } } })
  | .idle => s
  | .deferring => s
  | .jamming _ => s
  | .backingOff _ _ => s

/-! ## Ends (R160, R161) -/

/-- A forget: every SILENT entry EMPTY, with all that follows from it (R13, R15, R34, R53, R106, R144). -/
def State.forget (s : State) : State :=
  let addrs := s.silentAddresses
  (((s.forgetEntries.judgeConflict s.anyConflict).judgeSilent s.anySilentWorker).forgetItems
    addrs).pruneLag.refreshStrain.judgeWinch

/-- The part marks at an end of an ALERT, and the queuing of the next part (R142). -/
def State.alertEnd (s : State) (a : AlertFields) (sent : Bool) : State :=
  if a.part1 then
    let t := { s with comms := { s.comms with alerts := { s.comms.alerts with part1Due := false } } }
    t.whenever (sent && s.comms.alerts.changed) State.offerAlert
  else if sent && !a.last then
    State.offerAlert { s with comms := { s.comms with alerts := { s.comms.alerts with part1Due := true } } }
  else s

/-- The owner's action at an end of the frame in hand (R161). -/
def State.tellOwner (s : State) (h : InHand) (sent : Bool) : State :=
  match h.frame.payload with
  | .strain _ => if sent then { s with coup := s.coup.sent s.clock h.assembled } else s
  | .alert a => s.alertEnd a sent
  | .ack items => State.nextAck (if sent then { s with view := s.view.acked items } else s)
  | .roster _ => if sent then s.forget else s
  | .demand _ => s
  | .con _ _ => s
  | .propState _ => s
  | .fuel _ => s
  | .account _ => s
  | .standby _ => s
  | .wake _ => s

/-- The owner told, but not of the one ALERT of HALTED (R168). -/
def State.endTold (s : State) (h : InHand) (sent : Bool) : State :=
  s.whenever s.station.acting (fun s => s.tellOwner h sent)

/-- The frame in hand gone. -/
def State.handOver (s : State) : State :=
  { s with comms := { s.comms with link := { s.comms.link with tx := restTx s.comms.link.queue } } }

/-- A loss of a frame in hand: its time, and TX_LOSS if it is not present (R167). -/
def State.lose (s : State) : State :=
  let t := { s with comms := { s.comms with link := { s.comms.link with lastLoss := some s.clock } } }
  t.whenever t.station.reporting (fun t => t.raiseNew .txLoss)

/-- The frame in hand discarded after its tenth collision (R160). -/
def State.discardHand (s : State) (h : InHand) : State := s.handOver.lose.endTold h false

/-- A draw for a collision count: 16 steps, and the slots (R150, R159). -/
def State.drawBackoff (s : State) (h : InHand) : State :=
  let r := randomSteps 16 s.comms.link.random
  { s with comms := { s.comms with link := { s.comms.link with
      random := r, tx := .backingOff h (drawSlots h.collisions r) } } }

/-- The line released now with a level change: 3 bit times must pass from here before it is quiet (R147, R158; the
example of section 9.8 counts them from the end of the jam). -/
def State.releaseLine (s : State) : State :=
  { s with comms := { s.comms with link := { s.comms.link with lastChange := some s.clock } } }

/-- The end of the jam, 16 bit times long: the line is released (R158, R159, R160). -/
def State.jamEnd (s : State) : State :=
  match s.comms.link.tx with
  | .jamming h =>
    s.whenever (s.transmits && decide (bitTimes 16 ≤ elapsed s.clock h.since))
      (fun s => if h.collisions < 10 then s.releaseLine.drawBackoff h else s.releaseLine.discardHand h)
  | .idle => s
  | .deferring => s
  | .sending _ => s
  | .backingOff _ _ => s

/-- A retry: the frame assembled again, or given up where it is void (R159, R163). -/
def State.retry (s : State) (h : InHand) : State :=
  match s.assemble (payloadKind h.frame.payload) (some h.frame.payload) with
  | none => s.handOver
  | some p => s.attempt p h.frame.cls h.collisions

/-- The end of a backoff: the quiet has lasted the gap and the slots (R159). -/
def State.backoffEnd (s : State) : State :=
  match s.comms.link.tx with
  | .backingOff h r =>
    s.whenever (s.transmits && s.comms.link.quietFor s.clock (gapOf h.frame.cls + bitTimes (40 * r)))
      (fun s => s.retry h)
  | .idle => s
  | .deferring => s
  | .sending _ => s
  | .jamming _ => s

/-- A transmit fault after bit time 40 (R160, R167). -/
def State.transmitFault (s : State) : State :=
  match s.comms.link.tx with
  | .sending h =>
    let n := bitTimeOf s.clock h.since
    s.whenever (s.transmits && decide (40 < n) && decide (n ≤ frameBitTimes h.frame))
      (fun s =>
        let t := State.handOver { s with comms := { s.comms with link := { s.comms.link with
          txResidue := residueAt h.frame n } } }
        (t.whenever t.station.reporting (fun t => t.raiseNew .txFault)).endTold h false)
  | .idle => s
  | .deferring => s
  | .jamming _ => s
  | .backingOff _ _ => s

/-- The link unit at a sent end: the start mark cleared (R161). -/
def State.sentLink (s : State) (f : Frame) : State :=
  State.handOver { s with comms := { s.comms with link := { s.comms.link with
    startMark := false, txResidue := frameCheck f } } }

/-- A sent end: the end marker has gone out and the echo has been taken (R161, R167). -/
def State.sentEnd (s : State) : State :=
  match s.comms.link.tx with
  | .sending h =>
    s.whenever (s.transmits && h.echo && decide (bitTimes (frameBitTimes h.frame) ≤ elapsed s.clock h.since))
      (fun s =>
        let t := s.sentLink h.frame
        (t.whenever t.station.reporting (fun t => t.clear .txFault)).endTold h true)
  | .idle => s
  | .deferring => s
  | .jamming _ => s
  | .backingOff _ _ => s

/-- The last loss becomes 10 s old (R167). -/
def State.lossExpiry (s : State) : State :=
  s.whenever (s.station.reporting && aged s.comms.link.lastLoss s.clock (sec 10)) (fun s => s.clear .txLoss)

/-- The repeat timer's expiry (R140). DESIGN CHOICE, notes/assumptions/16.md: unsafe. -/
def State.repeatExpiry (s : State) : State :=
  s.whenever (s.station.acting && due s.comms.alerts.repeatTimer s.clock)
    (fun s => State.offerAlert { s with comms := { s.comms with alerts := { s.comms.alerts with
      repeatTimer := startTimer s.clock (sec 5) } } })

/-- The state interval's expiry (R166). -/
def State.stateExpiry (s : State) : State :=
  s.whenever (s.isProp && s.station == .active && due s.thrust.stateSeries s.clock)
    (fun s =>
      State.offer { s with thrust := { s.thrust with stateSeries := nextInterval s.thrust.stateSeries } }
        .propState 2)

/-- The economy trim's evaluation (R55). -/
def State.economyEvent (s : State) : State :=
  s.whenever (s.isProp && s.station == .active && due s.thrust.economy s.clock)
    (fun s => State.evaluateTrim
      { s with thrust := { s.thrust with economy := nextInterval s.thrust.economy } })

end Sys2Proof.Machine
end

