-- ==== Sys2Proof/Machine/Acknowledge.lean ====
section
/-! DEFINITION. Acknowledgement (section 8.3). -/

namespace Sys2Proof.Machine

/-- The owner's answer at the end of a latched condition or of CONFIG_CLAMPED (R135). -/
def State.answer (s : State) (c : AlertCode) : State :=
  match c with
  | .gearInterlock => s.gearAnswer
  | .gearTimeout => s.gearAnswer
  | .overspeed => s.overspeedAnswer
  | .rudderInterlock => s.interlockAnswer
  | .parted => s.partedAnswer
  | .winchRun => s.unlockWinch
  | _ => s

/-- A condition ended, and the end handed to its owner. -/
def State.endCondition (s : State) (c : AlertCode) : State :=
  State.answer { s with comms := { s.comms with present := s.comms.present.set (alertIndex c) false } } c

/-- The end of a condition by acknowledgement of its entry: the entry is removed unless the owner raises the code
again (R135). DESIGN CHOICE, notes/assumptions/25.md: unsafe. -/
def State.endByAck (s : State) (c : AlertCode) : State :=
  let t := s.endCondition c
  if t.has c then t else t.relist (removeEntry c t.comms.alerts.list)

/-- A condition that acknowledgement ends: a latched one, or CONFIG_CLAMPED (R134). -/
def endsByAck (c : AlertCode) : Bool := latchedCode c || c == .configClamped

/-- An acknowledgement of an entry at its present occurrence (R135; R137 in LISTEN_ONLY and HALTED). -/
def State.ackEntry (s : State) (e : AlertEntry) : State :=
  match e.state with
  | .activeUnack =>
    if endsByAck e.code && s.station != .listenOnly && s.station != .halted then s.endByAck e.code
    else s.relist (markAcked e.code s.comms.alerts.list)
  | .activeAcked => s
  | .clearedUnack => s.relist (removeEntry e.code s.comms.alerts.list)

/-- One item of an accepted ACK that names this station: a stale one queues an ALERT (R135, R138). -/
def State.ackItem (s : State) (c : AlertCode) (occ : Byte) : State :=
  match entryOf c s.comms.alerts.list with
  | none => s
  | some e => if e.occ = occ then s.ackEntry e else s.offerAlert

/-- The items of an accepted ACK, in frame order; items that name another station are passed over (R138). -/
def State.ackAll : State → List AckItem → State
  | s, [] => s
  | s, i :: is =>
    State.ackAll (if i.station.toNat = s.address.val then s.ackItem i.code i.occ else s) is

/-- An ACK taken by the alert unit (R138). -/
def State.takeAck (s : State) (a : Addr) (items : List AckItem) : State :=
  s.whenever (s.demand.view.holder == some a) (fun s => s.ackAll items)

/-- The acknowledgement by the local input of the entry of a code, at its present occurrence (R136). -/
def State.ackCode (s : State) (c : AlertCode) : State :=
  match entryOf c s.comms.alerts.list with
  | none => s
  | some e => if isUnack e.state then s.ackEntry e else s

/-- The entries of codes acknowledged in order. -/
def State.ackCodes : State → List AlertCode → State
  | s, [] => s
  | s, c :: cs => State.ackCodes (s.ackCode c) cs

/-- The codes with an unacknowledged entry, in list order. -/
def unackCodes (l : List AlertEntry) : List AlertCode :=
  (l.filter (fun e => isUnack e.state)).map AlertEntry.code

/-- A present latched condition that has no entry (R136). -/
def State.entryless (s : State) (c : AlertCode) : Bool :=
  latchedCode c && s.has c && (entryOf c s.comms.alerts.list).isNone

/-- The conditions of codes ended where they still stand without an entry. -/
def State.endEntryless : State → List AlertCode → State
  | s, [] => s
  | s, c :: cs => State.endEntryless (if s.entryless c then s.endCondition c else s) cs

/-- The local acknowledge input turning on (R136, R145). DESIGN CHOICE, notes/assumptions/25.md: unsafe. -/
def State.pressAck (s : State) : State :=
  let evicted := allAlertCodes.filter s.entryless
  let t := s.ackCodes (unackCodes s.comms.alerts.list)
  let u := if s.station = .listenOnly || s.station = .halted then t else t.endEntryless evicted
  u.judgeWinch.requestView

/-- The local acknowledge line of a role (R136). -/
def ackLine : Role → Fin 16
  | .helm => 1
  | .propulsion => 8
  | .coupling => 3

/-- A change of the local acknowledge input (R136). -/
def State.ackChange (s : State) (on : Bool) : State :=
  match s.role with
  | none => s
  | some role =>
    (s.setLine (ackLine role) on).whenever (!s.line (ackLine role) && on && s.station.joined) State.pressAck

end Sys2Proof.Machine
end

