-- ==== Sys2Proof/Machine/Frames.lean ====
section
/-! DEFINITION. Receiving (sections 9.1 and 1.2): the line, the receiver, and a good frame's way through the
peer table to the units. -/

namespace Sys2Proof.Machine

/-! ## The line and the receiver (R147, R148) -/

/-- The transmitter drives the line. -/
def drives : Transmitter → Bool
  | .sending _ => true
  | .jamming _ => true
  | .idle => false
  | .deferring => false
  | .backingOff _ _ => false

/-- The transmitter is SENDING. -/
def isSending : Transmitter → Bool
  | .sending _ => true
  | .idle => false
  | .deferring => false
  | .jamming _ => false
  | .backingOff _ _ => false

/-- The first level change after quiet: the line is active and a reception begins (R147, R148). -/
def State.receptionStart (s : State) : State :=
  s.whenever (s.station.joined && s.comms.link.receiver == .hunting && s.comms.link.quietSince.isSome)
    (fun s => { s with comms := { s.comms with link := { s.comms.link with
        receiver := .receiving, quietSince := none, lastChange := some s.clock } } })

/-- No level change that the station can place falls within the last 3 bit times (R147). DESIGN CHOICE,
notes/assumptions/29.md: safe. -/
def LinkUnit.still (l : LinkUnit) (now : Clock) : Bool :=
  l.lastChange.isNone || aged l.lastChange now (bitTimes 3)

/-- The receive residue after the bits of a reception, from the preamble's first on: seeded when the preamble ends,
stepped over every later bit, and not moved before (R149). That it moves at
the end of the reception: DESIGN CHOICE, notes/assumptions/8.md: unsafe. -/
def takenResidue (bits : List Bool) (r : Word) : Word :=
  if bits.take 16 = preambleBits then crcBits crcSeed (bits.drop 16) else r

/-- 3 bit times without a level change: the line is quiet from this moment; a reception under way, with the bits it
has taken, is a fragment (R147, R148). -/
def State.lineQuiet (s : State) (bits : List Bool) : State :=
  s.whenever (s.station.joined && s.comms.link.quietSince.isNone && !drives s.comms.link.tx &&
      s.comms.link.still s.clock)
    (fun s => { s with comms := { s.comms with link := { s.comms.link with
        receiver := .hunting, quietSince := some s.clock,
        rxResidue := if s.comms.link.receiver = .receiving then takenResidue bits s.comms.link.rxResidue
          else s.comms.link.rxResidue } } })

/-- A reception ended as a fragment, which counts as neither a good frame nor a receive error; one that quiet ends,
once 3 bit times have passed (R147, R148). -/
def State.fragment (s : State) (cause : FragmentCause) (bits : List Bool) : State :=
  s.whenever (s.station.joined && s.comms.link.receiver == .receiving &&
      (cause != .quiet || s.comms.link.still s.clock))
    (fun s => { s with comms := { s.comms with link := { s.comms.link with
        receiver := .hunting, rxResidue := takenResidue bits s.comms.link.rxResidue,
        quietSince := if cause = .quiet && !drives s.comms.link.tx then some s.clock
          else s.comms.link.quietSince } } })

/-- A complete reception: the receiver hunts again and the line is quiet from the end marker (R147, R148). -/
def State.endReception (s : State) (residue : Word) : State :=
  { s with comms := { s.comms with link := { s.comms.link with
      receiver := .hunting, rxResidue := residue, quietSince := some s.clock } } }

/-- RX_ERROR made to follow a receive error or a good frame; in JOINING the error mark keeps it (R167). -/
def State.noteReception (s : State) (error : Bool) : State :=
  if s.station = .joining then
    { s with comms := { s.comms with link := { s.comms.link with errorMark := error } } }
  else s.whenever s.station.reporting (fun s => s.follow .rxError error)

/-! ## A good frame (R3 to R9) -/

/-- The echo of the frame in hand taken (R4, R161). -/
def Transmitter.echoed : Transmitter → Transmitter
  | .sending h => .sending { h with echo := true }
  | .idle => .idle
  | .deferring => .deferring
  | .jamming h => .jamming h
  | .backingOff h r => .backingOff h r

/-- A good frame from the own address (R4). -/
def State.ownFrame (s : State) : State :=
  if isSending s.comms.link.tx then
    { s with comms := { s.comms with link := { s.comms.link with tx := s.comms.link.tx.echoed } } }
  else s.whenever (s.station == .joining || s.station.acting) State.duplicateAddress

/-- A START-flagged frame handed to the account and the alert view (R124, R144). -/
def State.noteStart (s : State) (f : Frame) : State :=
  s.whenever f.start (fun s => (s.markRestart f.source).restartItems f.source)

/-- What follows from a change of the table: PEER_SILENT, the lag starts, the strain factor, the winch permit
(R15, R34, R53, R106); `was` is whether the count of R15 was not zero before the change. That PEER_SILENT is judged
before STATION_LAG is a DESIGN CHOICE, notes/assumptions/49.md: unsafe. -/
def State.tableChanged (s : State) (was : Bool) : State := (s.judgeSilent was).pruneLag.refreshStrain.judgeWinch

/-- Routing by kind (R3). -/
def State.route (s : State) (f : Frame) : State :=
  match f.payload with
  | .demand p => s.routeDemand f.source p
  | .con .request p => s.routeRequest f.source p
  | .con .grant p => s.routeGrant p
  | .con .decline p => s.routeDecline f.source p
  | .con .take p => s.offerView p.target p.epoch
  | .propState _ => s.lagOne f.source
  | .strain _ => s
  | .fuel p => s.takeFuel f.source p
  | .account p => s.takeAccount f.source p
  | .alert p => s.takeAlert f.source p
  | .ack items => s.takeAck f.source items
  | .roster e => s.whenever (s.fromHolder f.source e) State.forget
  | .standby e => s.whenever (s.fromHolder f.source e) State.setRequest
  | .wake e => s.whenever (s.fromHolder f.source e) State.clearRequest

/-- The peer table's handling of a good frame in a taking state, in the order of R3. -/
def State.tableTakes (s : State) (f : Frame) : State :=
  if f.source = s.address then s.ownFrame
  else if s.conflicts f then s.recordConflict f.source
  else ((((s.updateEntry f).noteStart f).tableChanged s.anySilentWorker).route f).judgeWinch

/-- A good frame handed to the peer table, or in HALTED only its echo (R3, R148, R156, R168; DEDUCED,
notes/assumptions/40.md: safe). RX_ERROR is cleared before the table raises what the frame brings. DESIGN CHOICE,
notes/assumptions/49.md: unsafe. -/
def State.takeGood (s : State) (f : Frame) : State :=
  let t := (s.endReception 0).noteReception false
  if t.station.taking then t.tableTakes f
  else t.whenever (f.source == t.address && isSending t.comms.link.tx) State.ownFrame

/-- A receive error: the reception goes to no unit (R156, R167). -/
def State.takeError (s : State) (residue : Word) : State := (s.endReception residue).noteReception true

/-- A reception is under way. DEDUCED, notes/assumptions/13.md: safe. -/
def State.receives (s : State) : Bool := s.station.joined && s.comms.link.receiver == .receiving

/-- A frame that ends its reception: good where its payload passes the codes check (R155, R156). DEDUCED,
notes/assumptions/15.md: safe. -/
def State.takeFrame (s : State) (f : Frame) : State :=
  s.whenever s.receives (fun s => if payloadOk f.payload then s.takeGood f else s.takeError 0)

/-- The bits of a complete reception judged by the receive checks (R156). DEDUCED, notes/assumptions/15.md: safe. -/
def State.takeBits (s : State) (bits : List Bool) : State :=
  s.whenever s.receives
    (fun s =>
      match receiveChecks bits with
      | .ok f => s.takeGood f
      | .error _ => s.takeError (crcBits crcSeed bits))

/-- The 100 ms sweep (R11): ADDRESS_CONFLICT is judged before PEER_SILENT. DESIGN CHOICE, notes/assumptions/44.md:
unsafe. -/
def State.sweepEvent (s : State) : State :=
  s.whenever (s.station.taking && due s.peers.sweep s.clock)
    (fun s =>
      let t := { s with peers := { s.peers with sweep := nextInterval s.peers.sweep } }
      (t.sweepTable.judgeConflict s.anyConflict).tableChanged s.anySilentWorker)

end Sys2Proof.Machine
end

