-- ==== Sys2Proof/Machine/Local.lean ====
section
/-! DEFINITION. The capture channels (section 10.2), the PWM periods (section 10.4), the converter (chapter 11) and the
control tick (R22). -/

namespace Sys2Proof.Machine

/-! ## Capture channels (R170 to R175) -/

/-- An edge is accepted against the stamp and the minimum interval (R171). -/
def Channel.accepts (c : Channel) (now : Clock) (minimum : Nat) : Bool :=
  match c.stamp with
  | none => true
  | some t => decide (minimum ≤ elapsed now t)

/-- A channel after an accepted edge (R171, R173). -/
def Channel.accepted (c : Channel) (now : Clock) : Channel :=
  { c with previous := c.stamp, stamp := some now, count := c.count + 1,
           expiryTimer := startTimer now 2147483648 }

/-- A channel after a rejected edge (R172). -/
def Channel.rejected (c : Channel) (now : Clock) : Channel :=
  { c with noise := true, noiseTimer := startTimer now (sec 2) }

/-- The period of a channel, where both stamps are valid (R175). -/
def Channel.period (c : Channel) : Option Nat :=
  match c.stamp, c.previous with
  | some t, some p => some (elapsed t p)
  | _, _ => none

/-- A channel replaced. -/
def State.setChannel (s : State) (ch : Fin 4) (c : Channel) : State := { s with caps := s.caps.set ch c }

/-- An accepted edge handed to the channel's owner (R72, R109, R120, R174). -/
def State.ownEdge (s : State) (ch : Fin 4) : State :=
  match s.role with
  | some .propulsion =>
    if ch = 0 then s.whenever s.station.joined (fun s => s.shaftEdge (s.caps.get 0).period)
    else if ch = 1 then s.supplyEdge
    else s
  | some .coupling => if ch = 0 then s.drumEdge else s
  | some .helm => s
  | none => s

/-- A change of a channel's noise condition handed to the owner that reads it (R73, R120, R174). -/
def State.ownNoise (s : State) (ch : Fin 4) : State :=
  if ch = 0 then s.judgeShaft else if ch = 3 then s else s.judgeFlow

/-- A rising edge on a capture input (R171, R172). -/
def State.edge (s : State) (ch : Fin 4) : State :=
  let c := s.caps.get ch
  if c.accepts s.clock (s.param (Param.minInterval ch)) then (s.setChannel ch (c.accepted s.clock)).ownEdge ch
  else (s.setChannel ch (c.rejected s.clock)).ownNoise ch

/-- The noise timer's expiry (R172). -/
def State.noiseExpiry (s : State) (ch : Fin 4) : State :=
  s.whenever (due (s.caps.get ch).noiseTimer s.clock)
    (fun s =>
      State.ownNoise (s.setChannel ch { s.caps.get ch with noise := false, noiseTimer := none }) ch)

/-- The stamp expiry timer's expiry (R173). -/
def State.stampExpiry (s : State) (ch : Fin 4) : State :=
  s.whenever (due (s.caps.get ch).expiryTimer s.clock)
    (fun s =>
      s.setChannel ch { s.caps.get ch with stamp := none, previous := none, expiryTimer := none })

/-! ## PWM periods (R176, R177) -/

/-- A period start of every output. -/
def State.startPeriod (s : State) : State :=
  s.whenever (due (some s.outputs.periods) s.clock)
    (fun s => { s with outputs :=
        { outs := s.outputs.outs.map Pwm.periodStart,
          periods := { s.outputs.periods with
            since := s.outputs.periods.since + BitVec.ofNat 32 s.outputs.periods.span } } })

/-! ## Conversion sequences (R181 to R185) -/

/-- The series of sequence starts runs: from JOINING entry on, but not in START and FAILED (R182). -/
def State.converts (s : State) : Bool := s.station.joined

/-- A skipped start (R185). -/
def State.overrun (s : State) : State :=
  let t := { s with conv := { s.conv with lastOverrun := some s.clock } }
  t.whenever t.station.reporting (fun t => t.raiseNew .converterOverrun)

/-- The series as the timer of its next start. -/
def Converter.nextStart (c : Converter) : Option Timer := c.series.map (fun t => { since := t, span := c.interval })

/-- The converter with its series counting the interval after a start (R182). -/
def Converter.counted (c : Converter) : Converter :=
  { c with series := c.series.map (fun t => t + BitVec.ofNat 32 c.interval) }

/-- A sequence start: the conversions of the sequence read the levels that stand at the inputs (R182, R183, R185).
DESIGN CHOICE, notes/assumptions/20.md: unsafe. -/
def State.sequenceStart (s : State) : State :=
  s.whenever (s.converts && due s.conv.nextStart s.clock)
    (fun s =>
      let t := { s with conv := s.conv.counted }
      if t.conv.state = .idle then
        let v := t.conv.levels
        { t with conv := { t.conv with state := .sequence t.clock v.a0 v.a1 v.reference } }
      else t.overrun)

/-- The results of a role's conversions in their order, the reference's last (R181). -/
def sequenceRaws (role : Option Role) (a0 a1 reference : Raw) : List Raw :=
  match role with
  | some .helm => [a0, a1, reference]
  | some .propulsion => [a0, reference]
  | some .coupling => [a0, reference]
  | none => [a0, reference]

/-- The sequence results: one raw value for each channel converted so far, a conversion lasting 40 µs; none while no
sequence is under way (R181, R183). -/
def State.sequenceResults (s : State) : List Raw :=
  match s.conv.state with
  | .sequence since a0 a1 reference =>
    (sequenceRaws s.role a0 a1 reference).take (elapsed s.clock since / 40)
  | .idle => []
  | .reference _ => []

/-- The length of a role's sequence: 40 µs for each of its channels and the reference (R181). -/
def sequenceLength : Option Role → Micros
  | some .helm => 120
  | some .propulsion => 80
  | some .coupling => 80
  | none => 80

/-- A channel's range state (R183, R184). -/
def rangeOf (reference raw : Raw) : RangeState :=
  if referencePasses reference && !rawFault raw then .inRange else .fault

/-- The converter after a completion: the latest values and range states of the role's channels, and the results
emptied with the state IDLE (R183). -/
def State.completedConverter (s : State) (a0 a1 reference : Raw) : Converter :=
  { s.conv with
    state := .idle, latestRef := some reference,
    latest := if s.isHelm then (s.conv.latest.set 0 (some a0)).set 1 (some a1) else s.conv.latest.set 0 (some a0),
    range := if s.isHelm then
        (s.conv.range.set 0 (some (rangeOf reference a0))).set 1 (some (rangeOf reference a1))
      else s.conv.range.set 0 (some (rangeOf reference a0)) }

/-- The results delivered to their owner (R183). -/
def State.deliver (s : State) (a0 a1 reference : Raw) : State :=
  let ok0 := rangeOf reference a0 == .inRange
  let ok1 := rangeOf reference a1 == .inRange
  match s.role with
  | some .helm => s.leverDelivery a0 a1 ok0 ok1
  | some .propulsion => s.whenever s.station.joined (fun s => s.rudderDelivery a0 ok0)
  | some .coupling => s.tensionDelivery a0 ok0
  | none => s

/-- A sequence's completion, once its last conversion has ended (R183). -/
def State.sequenceComplete (s : State) : State :=
  match s.conv.state with
  | .sequence since a0 a1 reference =>
    s.whenever (s.converts && decide (sequenceLength s.role ≤ elapsed s.clock since))
      (fun s => State.deliver { s with conv := s.completedConverter a0 a1 reference } a0 a1 reference)
  | .idle => s
  | .reference _ => s

/-- The inputs of the converter stand at new levels. -/
def State.setLevels (s : State) (v : Levels) : State := { s with conv := { s.conv with levels := v } }

/-- The last overrun becomes 10 s old (R185). -/
def State.overrunEnd (s : State) : State :=
  s.whenever (s.station.reporting && aged s.conv.lastOverrun s.clock (sec 10)) (fun s => s.clear .converterOverrun)

/-! ## The control tick (R22, R38, R58, R61, R115, R195) -/

/-- One part of the control tick. -/
def State.tickPart (s : State) (p : TickPart) : State :=
  match p with
  | .decay => s.decayTick
  | .thrust => s.whenever (s.isProp && s.station == .active) State.thrustTick
  | .gear => s.gearTick
  | .metering => s.meterTick
  | .standbyTest => s.standbyTest

/-- The parts of the control tick in an order. -/
def State.tickParts : State → List TickPart → State
  | s, [] => s
  | s, p :: ps => State.tickParts (s.tickPart p) ps

/-- The order in which the chapters give the parts. -/
def chapterOrder : List TickPart := [.decay, .thrust, .gear, .metering, .standbyTest]

/-- The control tick, its parts in the order the world takes them, the gear's before the standby test: a release
that STANDBY causes begins at the next tick (R71). DEDUCED, notes/assumptions/10.md: safe. -/
def State.controlTick (s : State) (order : List TickPart) : State :=
  s.whenever (s.station.taking && due s.demand.tick s.clock)
    (fun s =>
      State.tickParts { s with demand := { s.demand with tick := nextInterval s.demand.tick } }
        (if tickOrderOk order then order else chapterOrder))

end Sys2Proof.Machine
end

