-- ==== Sys2Proof/Machine/CouplingCommands.lean ====
section
/-! DEFINITION. The meanings of the commands of a COUPLING station's machinery (chapter 6). -/

namespace Sys2Proof.Machine

/-- WIRE_BROKEN_INPUT (R100): IN0 of a COUPLING station. -/
def execWireBrokenInput (dt : Micros) (on : Bool) (s : State) :
    Host.Outcome State Fault Refusal :=
  .next ((s.advance dt).whenever (s.isCoup) (fun s => s.wireChange on))

/-- WINCH_LOCKOUT_INPUT (R111): IN1 of a COUPLING station. -/
def execWinchLockoutInput (dt : Micros) (on : Bool) (s : State) :
    Host.Outcome State Fault Refusal :=
  .next ((s.advance dt).whenever (s.isCoup) (fun s => s.lockoutChange on))

/-- SLACK_DWELL_EXPIRY (R107): the winch heaves. -/
def execSlackDwellExpiry (dt : Micros) (s : State) :
    Host.Outcome State Fault Refusal :=
  .next ((s.advance dt).dwellExpiry)

/-- RUN_TIMER_EXPIRY (R109): a heave has run too long. -/
def execRunTimerExpiry (dt : Micros) (s : State) :
    Host.Outcome State Fault Refusal :=
  .next ((s.advance dt).runExpiry)

/-- WINCH_SETTLE_EXPIRY (R110): the wire has settled. -/
def execWinchSettleExpiry (dt : Micros) (s : State) :
    Host.Outcome State Fault Refusal :=
  .next ((s.advance dt).settleEnd)

end Sys2Proof.Machine
end

