-- ==== Sys2Proof/Machine/FrameCommands.lean ====
section
/-! DEFINITION. The meanings of the commands of the receiver (sections 1.2 and 9.1 to 9.4): a good frame of
each kind, a receive error, a fragment, and the line's level. -/

namespace Sys2Proof.Machine

/-- DEMAND (R18, R20): a candidate for the con view and, from the viewed holder, the demand record. -/
def execDemand (dt : Micros) (h : RxHeader) (p : DemandFields) (s : State) :
    Host.Outcome State Fault Refusal :=
  .next ((s.advance dt).takeFrame
    { start := h.start, source := h.source, role := .helm, cls := 1, payload := .demand p })

/-- CON_REQUEST (R30): a holding target grants or declines. -/
def execConRequest (dt : Micros) (h : RxHeader) (p : ConFields) (s : State) :
    Host.Outcome State Fault Refusal :=
  .next ((s.advance dt).takeFrame
    { start := h.start, source := h.source, role := .helm, cls := 1, payload := .con .request p })

/-- CON_GRANT (R18, R31, R32): a candidate; its target may go HOLDING. -/
def execConGrant (dt : Micros) (h : RxHeader) (p : ConFields) (s : State) :
    Host.Outcome State Fault Refusal :=
  .next ((s.advance dt).takeFrame
    { start := h.start, source := h.source, role := .helm, cls := 1, payload := .con .grant p })

/-- CON_DECLINE (R31): the viewed holder ends its target's request. -/
def execConDecline (dt : Micros) (h : RxHeader) (p : ConFields) (s : State) :
    Host.Outcome State Fault Refusal :=
  .next ((s.advance dt).takeFrame
    { start := h.start, source := h.source, role := .helm, cls := 1, payload := .con .decline p })

/-- CON_TAKE (R18): a candidate for the con view. -/
def execConTake (dt : Micros) (h : RxHeader) (p : ConFields) (s : State) :
    Host.Outcome State Fault Refusal :=
  .next ((s.advance dt).takeFrame
    { start := h.start, source := h.source, role := .helm, cls := 1, payload := .con .take p })

/-- PROP_STATE (R6 to R9): fills or updates a PROPULSION entry. -/
def execPropState (dt : Micros) (h : RxHeader) (p : PropStateFields) (s : State) :
    Host.Outcome State Fault Refusal :=
  .next ((s.advance dt).takeFrame
    { start := h.start, source := h.source, role := .propulsion, cls := 2, payload := .propState p })

/-- STRAIN (R6 to R9, R54, R106): fills or updates a COUPLING entry; strain factor and permit are judged again. -/
def execStrain (dt : Micros) (h : RxHeader) (p : StrainFields) (s : State) :
    Host.Outcome State Fault Refusal :=
  .next ((s.advance dt).takeFrame
    { start := h.start, source := h.source, role := .coupling, cls := 2, payload := .strain p })

/-- FUEL (R125): a HELM station's account takes the totals. -/
def execFuel (dt : Micros) (h : RxHeader) (p : FuelFields) (s : State) :
    Host.Outcome State Fault Refusal :=
  .next ((s.advance dt).takeFrame
    { start := h.start, source := h.source, role := .propulsion, cls := 3, payload := .fuel p })

/-- ACCOUNT (R130): the viewed holder's tank-low flags. -/
def execAccount (dt : Micros) (h : RxHeader) (p : AccountFields) (s : State) :
    Host.Outcome State Fault Refusal :=
  .next ((s.advance dt).takeFrame
    { start := h.start, source := h.source, role := .helm, cls := 3, payload := .account p })

/-- ALERT (R143, R144, R146): the convoy alert view of a HELM station. -/
def execAlert (dt : Micros) (h : RxHeader) (role : Role) (p : AlertFields) (s : State) :
    Host.Outcome State Fault Refusal :=
  .next ((s.advance dt).takeFrame
    { start := h.start, source := h.source, role := role, cls := 3, payload := .alert p })

/-- ACK (R138): the viewed holder's acknowledgements. -/
def execAck (dt : Micros) (h : RxHeader) (items : List AckItem) (s : State) :
    Host.Outcome State Fault Refusal :=
  .next ((s.advance dt).takeFrame
    { start := h.start, source := h.source, role := .helm, cls := 2, payload := .ack items })

/-- ROSTER (R13): the viewed holder's forget of SILENT entries. -/
def execRoster (dt : Micros) (h : RxHeader) (epoch : Byte) (s : State) :
    Host.Outcome State Fault Refusal :=
  .next ((s.advance dt).takeFrame
    { start := h.start, source := h.source, role := .helm, cls := 2, payload := .roster epoch })

/-- STANDBY (R36, R194): the viewed holder sets the standing request. -/
def execStandby (dt : Micros) (h : RxHeader) (epoch : Byte) (s : State) :
    Host.Outcome State Fault Refusal :=
  .next ((s.advance dt).takeFrame
    { start := h.start, source := h.source, role := .helm, cls := 1, payload := .standby epoch })

/-- WAKE (R36, R194): the viewed holder clears the standing request. -/
def execWake (dt : Micros) (h : RxHeader) (epoch : Byte) (s : State) :
    Host.Outcome State Fault Refusal :=
  .next ((s.advance dt).takeFrame
    { start := h.start, source := h.source, role := .helm, cls := 1, payload := .wake epoch })

/-- RECEIVE_ERROR (R156, R167): a complete reception that fails a receive check; its bits say which. -/
def execReceiveError (dt : Micros) (bits : List Bool) (s : State) :
    Host.Outcome State Fault Refusal :=
  .next ((s.advance dt).takeBits bits)

/-- FRAGMENT (R148): a reception ends as a fragment. -/
def execFragment (dt : Micros) (cause : FragmentCause) (bits : List Bool) (s : State) :
    Host.Outcome State Fault Refusal :=
  .next ((s.advance dt).fragment cause bits)

/-- RECEPTION_START (R147, R148): the first level change after quiet. -/
def execReceptionStart (dt : Micros) (s : State) :
    Host.Outcome State Fault Refusal :=
  .next ((s.advance dt).receptionStart)

/-- LINE_QUIET (R147, R148): 3 bit times without a level change. -/
def execLineQuiet (found : QuietFound) (s : State) :
    Host.Outcome State Fault Refusal :=
  .next ((s.advance found.dt).lineQuiet found.bits)

/-- SWEEP (R11): the 100 ms sweep of the peer table. -/
def execSweep (dt : Micros) (s : State) :
    Host.Outcome State Fault Refusal :=
  .next ((s.advance dt).sweepEvent)

end Sys2Proof.Machine
end

