-- ==== Sys2Proof/Machine/HelmCommands.lean ====
section
/-! DEFINITION. The meanings of the commands of the demand unit and of the other helm inputs (chapters 2, 7
and 8). -/

namespace Sys2Proof.Machine

/-- DEMAND_TIMEOUT_EXPIRY (R21): a FRESH record becomes HELD. -/
def execDemandTimeoutExpiry (dt : Micros) (s : State) :
    Host.Outcome State Fault Refusal :=
  .next ((s.advance dt).timeoutExpiry)

/-- HOLD_TIME_EXPIRY (R21): a HELD record becomes DECAYING. -/
def execHoldTimeExpiry (dt : Micros) (s : State) :
    Host.Outcome State Fault Refusal :=
  .next ((s.advance dt).holdExpiry)

/-- CON_REQUEST_INPUT (R29): IN0 of a HELM station. -/
def execConRequestInput (dt : Micros) (on : Bool) (s : State) :
    Host.Outcome State Fault Refusal :=
  .next ((s.advance dt).whenever (s.isHelm) (fun s => s.conRequestChange on))

/-- REQUEST_TIMER_EXPIRY (R31): the 3 s of a REQUEST run out. -/
def execRequestTimerExpiry (dt : Micros) (s : State) :
    Host.Outcome State Fault Refusal :=
  .next ((s.advance dt).requestExpiry)

/-- HELM_SWITCH_CHANGE (R25, R26): IN3 to IN7 of a HELM station. -/
def execHelmSwitchChange (dt : Micros) (mode economy : BitVec 2) (stopAll : Bool) (s : State) :
    Host.Outcome State Fault Refusal :=
  .next ((s.advance dt).whenever (s.isHelm) (fun s => s.switchChange mode economy stopAll))

/-- STANDBY_SWITCH (R35): IN2 of a HELM station. -/
def execStandbySwitch (dt : Micros) (on : Bool) (s : State) :
    Host.Outcome State Fault Refusal :=
  .next ((s.advance dt).whenever (s.isHelm) (fun s => s.standbySwitchChange on))

/-- ROSTER_CLEAR_INPUT (R36): IN12 of a HELM station. -/
def execRosterClearInput (dt : Micros) (on : Bool) (s : State) :
    Host.Outcome State Fault Refusal :=
  .next ((s.advance dt).whenever (s.isHelm) (fun s => s.rosterClearChange on))

/-- STATION_LAG (R34): a lag start becomes 2 s old. -/
def execStationLag (dt : Micros) (s : State) :
    Host.Outcome State Fault Refusal :=
  .next ((s.advance dt).lagExpiry)

/-- TANK_FILLED_INPUT (R127): IN8 to IN11 of a HELM station. -/
def execTankFilledInput (dt : Micros) (tank : Fin 4) (on : Bool) (s : State) :
    Host.Outcome State Fault Refusal :=
  .next ((s.advance dt).whenever (s.isHelm) (fun s => s.fillChange tank on))

/-- FUEL_DISCONTINUITY_EXPIRY (R126): the last discontinuity becomes 60 s old. -/
def execFuelDiscontinuityExpiry (dt : Micros) (s : State) :
    Host.Outcome State Fault Refusal :=
  .next ((s.advance dt).discontinuityExpiry)

/-- ACKNOWLEDGE_INPUT (R136, R145): the local acknowledge input of any role. -/
def execAcknowledgeInput (dt : Micros) (on : Bool) (s : State) :
    Host.Outcome State Fault Refusal :=
  .next ((s.advance dt).ackChange on)

end Sys2Proof.Machine
end

