-- ==== Sys2Proof/Machine/LocalCommands.lean ====
section
/-! DEFINITION. The meanings of the commands of the capture channels, the converter and the PWM outputs
(chapters 10 and 11). -/

namespace Sys2Proof.Machine

/-- CAPTURE_EDGE (R171, R172): a rising edge, accepted or rejected. -/
def execCaptureEdge (dt : Micros) (ch : Fin 4) (s : State) :
    Host.Outcome State Fault Refusal :=
  .next ((s.advance dt).edge ch)

/-- NOISE_TIMER_EXPIRY (R172): the noise condition is cleared. -/
def execNoiseTimerExpiry (dt : Micros) (ch : Fin 4) (s : State) :
    Host.Outcome State Fault Refusal :=
  .next ((s.advance dt).noiseExpiry ch)

/-- STAMP_EXPIRY (R173): both stamps become invalid. -/
def execStampExpiry (dt : Micros) (ch : Fin 4) (s : State) :
    Host.Outcome State Fault Refusal :=
  .next ((s.advance dt).stampExpiry ch)

/-- SEQUENCE_START (R182, R185): a sequence begins, or is skipped for overrun. -/
def execSequenceStart (dt : Micros) (s : State) :
    Host.Outcome State Fault Refusal :=
  .next ((s.advance dt).sequenceStart)

/-- SEQUENCE_COMPLETION (R183): the results are judged and delivered. The operands are the levels at which the
converter's inputs stand from this event on, for the next sequence to convert. DESIGN CHOICE,
notes/assumptions/20.md: unsafe. -/
def execSequenceCompletion (dt : Micros) (a0 a1 reference : Raw) (s : State) :
    Host.Outcome State Fault Refusal :=
  .next (((s.advance dt).sequenceComplete).setLevels { a0 := a0, a1 := a1, reference := reference })

/-- OVERRUN_EXPIRY (R185): the last overrun becomes 10 s old. -/
def execOverrunExpiry (dt : Micros) (s : State) :
    Host.Outcome State Fault Refusal :=
  .next ((s.advance dt).overrunEnd)

/-- PERIOD_START (R176, R177): a 2 ms period of the PWM outputs. -/
def execPeriodStart (dt : Micros) (s : State) :
    Host.Outcome State Fault Refusal :=
  .next ((s.advance dt).startPeriod)

end Sys2Proof.Machine
end

