-- ==== Sys2Proof/Machine/PropulsionCommands.lean ====
section
/-! DEFINITION. The meanings of the commands of a PROPULSION station's machinery (chapters 3 to 5 and 7), with
the control tick. -/

namespace Sys2Proof.Machine

/-- CONTROL_TICK (R22): decay, thrust, gear, metering and the standby entry test. -/
def execControlTick (dt : Micros) (order : List TickPart) (tank : BitVec 2) (s : State) :
    Host.Outcome State Fault Refusal :=
  .next (((s.advance dt).selectTank tank).controlTick order)

/-- ECONOMY_TRIM_EVALUATION (R55): the 1 s evaluation of E. -/
def execEconomyTrimEvaluation (dt : Micros) (s : State) :
    Host.Outcome State Fault Refusal :=
  .next ((s.advance dt).economyEvent)

/-- ENGINE_READY_CHANGE (R50, R52, R76): IN2 of a PROPULSION station. -/
def execEngineReadyChange (dt : Micros) (on : Bool) (s : State) :
    Host.Outcome State Fault Refusal :=
  .next ((s.advance dt).whenever (s.isProp) (fun s => s.readyChange on))

/-- GEAR_FEEDBACK_CHANGE (R68): IN0 and IN1 of a PROPULSION station. -/
def execGearFeedbackChange (dt : Micros) (ahead astern : Bool) (s : State) :
    Host.Outcome State Fault Refusal :=
  .next ((s.advance dt).whenever (s.isProp) (fun s => s.gearFeedback ahead astern))

/-- GEAR_FEEDBACK_TIMER_EXPIRY (R63, R66): GEAR_TIMEOUT and GEAR_FAULT. -/
def execGearFeedbackTimerExpiry (dt : Micros) (s : State) :
    Host.Outcome State Fault Refusal :=
  .next ((s.advance dt).gearFeedbackExpiry)

/-- RELEASE_TIMER_EXPIRY (R65): a timed wait ends. -/
def execReleaseTimerExpiry (dt : Micros) (s : State) :
    Host.Outcome State Fault Refusal :=
  .next ((s.advance dt).releaseExpiry)

/-- DWELL_EXPIRY (R67): the neutral dwell ends. -/
def execDwellExpiry (dt : Micros) (s : State) :
    Host.Outcome State Fault Refusal :=
  .next ((s.advance dt).dwellEnd)

/-- SHAFT_PULSE_TIMEOUT (R72): 2 s without an accepted edge. -/
def execShaftPulseTimeout (dt : Micros) (s : State) :
    Host.Outcome State Fault Refusal :=
  .next ((s.advance dt).pulseTimeout)

/-- NO_PULSE_WATCH_EXPIRY (R73): the no-pulse term holds. -/
def execNoPulseWatchExpiry (dt : Micros) (s : State) :
    Host.Outcome State Fault Refusal :=
  .next ((s.advance dt).watchExpiry)

/-- SETTLE_TIMER_EXPIRY (R75): the follow monitor makes its first judgement. -/
def execSettleTimerExpiry (dt : Micros) (s : State) :
    Host.Outcome State Fault Refusal :=
  .next ((s.advance dt).settleExpiry)

/-- DEVIATION_START_EXPIRY (R75): GOVERNOR_FOLLOW is raised. -/
def execDeviationStartExpiry (dt : Micros) (s : State) :
    Host.Outcome State Fault Refusal :=
  .next ((s.advance dt).deviationExpiry)

/-- AGREEMENT_START_EXPIRY (R75): GOVERNOR_FOLLOW is cleared. -/
def execAgreementStartExpiry (dt : Micros) (s : State) :
    Host.Outcome State Fault Refusal :=
  .next ((s.advance dt).agreementExpiry)

/-- VALVE_SENSE_CHANGE (R87): IN5 and IN6 of a PROPULSION station. -/
def execValveSenseChange (dt : Micros) (port starboard : Bool) (s : State) :
    Host.Outcome State Fault Refusal :=
  .next ((s.advance dt).whenever (s.isProp) (fun s => s.valveSense port starboard))

/-- RUDDER_FOLLOW_TIMER_EXPIRY (R84): RUDDER_FOLLOW is raised. -/
def execRudderFollowTimerExpiry (dt : Micros) (s : State) :
    Host.Outcome State Fault Refusal :=
  .next ((s.advance dt).followExpiry)

/-- RUDDER_SPREAD (R90): the deviation start becomes 5 s old. -/
def execRudderSpread (dt : Micros) (s : State) :
    Host.Outcome State Fault Refusal :=
  .next ((s.advance dt).spreadExpiry)

/-- FUEL_RATE_EVALUATION (R119): the 1 s rate of burn. -/
def execFuelRateEvaluation (dt : Micros) (s : State) :
    Host.Outcome State Fault Refusal :=
  .next ((s.advance dt).rateEvent)

/-- FLOW_WATCH_EXPIRY (R120): 30 s without a supply pulse. -/
def execFlowWatchExpiry (dt : Micros) (s : State) :
    Host.Outcome State Fault Refusal :=
  .next ((s.advance dt).flowExpiry)

end Sys2Proof.Machine
end

