-- ==== Sys2Proof/Machine/SendCommands.lean ====
section
/-! DEFINITION. The meanings of the commands of the transmitter and the periodic reports (sections 9.5 to
9.7). -/

namespace Sys2Proof.Machine

/-- TRANSMIT_START (R157, R158, R163): the quiet has lasted the head's gap. -/
def execTransmitStart (dt : Micros) (tank : BitVec 2) (s : State) :
    Host.Outcome State Fault Refusal :=
  .next (((s.advance dt).selectTank tank).transmitStart)

/-- COLLISION (R158): a mismatch in bit times 1 to 40. -/
def execCollision (dt : Micros) (s : State) :
    Host.Outcome State Fault Refusal :=
  .next ((s.advance dt).collide)

/-- JAM_END (R159, R160): a draw, or the discard at the tenth collision. -/
def execJamEnd (dt : Micros) (s : State) :
    Host.Outcome State Fault Refusal :=
  .next ((s.advance dt).jamEnd)

/-- BACKOFF_END (R159, R163): the next attempt. -/
def execBackoffEnd (dt : Micros) (tank : BitVec 2) (s : State) :
    Host.Outcome State Fault Refusal :=
  .next (((s.advance dt).selectTank tank).backoffEnd)

/-- TRANSMIT_FAULT (R160, R167): a mismatch after bit time 40. -/
def execTransmitFault (dt : Micros) (s : State) :
    Host.Outcome State Fault Refusal :=
  .next ((s.advance dt).transmitFault)

/-- SENT_END (R161, R167): the frame has gone out whole. -/
def execSentEnd (dt : Micros) (s : State) :
    Host.Outcome State Fault Refusal :=
  .next ((s.advance dt).sentEnd)

/-- TX_LOSS_EXPIRY (R167): the last loss becomes 10 s old. -/
def execTxLossExpiry (dt : Micros) (s : State) :
    Host.Outcome State Fault Refusal :=
  .next ((s.advance dt).lossExpiry)

/-- REPEAT_TIMER_EXPIRY (R140): an ALERT is queued again. -/
def execRepeatTimerExpiry (dt : Micros) (s : State) :
    Host.Outcome State Fault Refusal :=
  .next ((s.advance dt).repeatExpiry)

/-- STATE_INTERVAL_EXPIRY (R166): a PROP_STATE is queued. -/
def execStateIntervalExpiry (dt : Micros) (s : State) :
    Host.Outcome State Fault Refusal :=
  .next ((s.advance dt).stateExpiry)

/-- STRAIN_INTERVAL_EXPIRY (R104): a STRAIN is queued. -/
def execStrainIntervalExpiry (dt : Micros) (s : State) :
    Host.Outcome State Fault Refusal :=
  .next ((s.advance dt).strainExpiry)

/-- FUEL_INTERVAL_EXPIRY (R121): a FUEL is queued. -/
def execFuelIntervalExpiry (dt : Micros) (s : State) :
    Host.Outcome State Fault Refusal :=
  .next ((s.advance dt).fuelExpiry)

/-- ACCOUNT_INTERVAL_EXPIRY (R129): an ACCOUNT is queued. -/
def execAccountIntervalExpiry (dt : Micros) (s : State) :
    Host.Outcome State Fault Refusal :=
  .next ((s.advance dt).accountExpiry)

/-- DEMAND_INTERVAL_EXPIRY (R27): a DEMAND is queued. -/
def execDemandIntervalExpiry (dt : Micros) (s : State) :
    Host.Outcome State Fault Refusal :=
  .next ((s.advance dt).demandIntervalEnd)

end Sys2Proof.Machine
end

