-- ==== Sys2Proof/Machine/StartCommands.lean ====
section
/-! DEFINITION. The meanings of the commands of the start unit (chapter 12): the resets, the load, the entry
to ACTIVE, the config watch, the wake input. -/

namespace Sys2Proof.Machine

/-- POWER_ON_RESET (R187): the supply rises, or falls below the hold level; every unit takes its reset values. -/
def execPowerOnReset (rolePins : BitVec 2) (addrPins : Addr) (lines : BitVec 16) (s : State) :
    Host.Outcome State Fault Refusal :=
  .next (s.resetTo .powerOn rolePins addrPins lines)

/-- RESET_LINE_RESET (R187): as a power-on reset, but the tank totals and the residue are kept (R114). -/
def execResetLineReset (rolePins : BitVec 2) (addrPins : Addr) (lines : BitVec 16) (s : State) :
    Host.Outcome State Fault Refusal :=
  .next (s.resetTo .resetLine rolePins addrPins lines)

/-- CONFIG_READ_COMPLETE (R188 to R190): the image is judged; FAILED, or the reference check asked for. -/
def execConfigReadComplete (dt : Micros) (bytes : List Byte) (s : State) :
    Host.Outcome State Fault Refusal :=
  .next ((s.advance dt).configRead bytes)

/-- REFERENCE_CHECK_COMPLETE (R186, R189, R191): the reference conversion ends in JOINING or FAILED. -/
def execReferenceCheckComplete (dt : Micros) (result : Raw) (s : State) :
    Host.Outcome State Fault Refusal :=
  .next ((s.advance dt).referenceDone result)

/-- JOIN_TIME_EXPIRY (R191): the station enters ACTIVE. -/
def execJoinTimeExpiry (dt : Micros) (s : State) :
    Host.Outcome State Fault Refusal :=
  .next ((s.advance dt).joinExpiry)

/-- CONFIG_WATCH (R193): a run of the 1 s check of the held image, which the world may have damaged. -/
def execConfigWatch (dt : Micros) (damage : List (Nat × Word)) (s : State) :
    Host.Outcome State Fault Refusal :=
  .next ((s.advance dt).watchRun damage)

/-- WAKE_INPUT (R194): IN7 at a PROPULSION station, IN2 at a COUPLING station. -/
def execWakeInput (dt : Micros) (on : Bool) (s : State) :
    Host.Outcome State Fault Refusal :=
  let t := s.advance dt
  .next (match t.role with
    | some .propulsion => t.wakeChange 7 on
    | some .coupling => t.wakeChange 2 on
    | some .helm => t
    | none => t)

end Sys2Proof.Machine
end

