-- ==== Sys2Proof/Machine/Dispatch.lean ====
section
/-! DEFINITION. One arm for each command. -/

namespace Sys2Proof.Machine

/-- What a command does to the station, apart from the queue of waiting commands. -/
def exec (i : Instr) (s : State) : Host.Outcome State Fault Refusal :=
  match i with
  | .powerOnReset rolePins addrPins lines => Sys2Proof.Machine.execPowerOnReset rolePins addrPins lines s
  | .resetLineReset rolePins addrPins lines => Sys2Proof.Machine.execResetLineReset rolePins addrPins lines s
  | .configReadComplete dt bytes => Sys2Proof.Machine.execConfigReadComplete dt bytes s
  | .referenceCheckComplete dt result => Sys2Proof.Machine.execReferenceCheckComplete dt result s
  | .joinTimeExpiry dt => Sys2Proof.Machine.execJoinTimeExpiry dt s
  | .controlTick dt order tank => Sys2Proof.Machine.execControlTick dt order tank s
  | .sweep dt => Sys2Proof.Machine.execSweep dt s
  | .demandTimeoutExpiry dt => Sys2Proof.Machine.execDemandTimeoutExpiry dt s
  | .holdTimeExpiry dt => Sys2Proof.Machine.execHoldTimeExpiry dt s
  | .demand dt h p => Sys2Proof.Machine.execDemand dt h p s
  | .conRequest dt h p => Sys2Proof.Machine.execConRequest dt h p s
  | .conGrant dt h p => Sys2Proof.Machine.execConGrant dt h p s
  | .conDecline dt h p => Sys2Proof.Machine.execConDecline dt h p s
  | .conTake dt h p => Sys2Proof.Machine.execConTake dt h p s
  | .propState dt h p => Sys2Proof.Machine.execPropState dt h p s
  | .strain dt h p => Sys2Proof.Machine.execStrain dt h p s
  | .fuel dt h p => Sys2Proof.Machine.execFuel dt h p s
  | .account dt h p => Sys2Proof.Machine.execAccount dt h p s
  | .alert dt h role p => Sys2Proof.Machine.execAlert dt h role p s
  | .ack dt h items => Sys2Proof.Machine.execAck dt h items s
  | .roster dt h epoch => Sys2Proof.Machine.execRoster dt h epoch s
  | .standby dt h epoch => Sys2Proof.Machine.execStandby dt h epoch s
  | .wake dt h epoch => Sys2Proof.Machine.execWake dt h epoch s
  | .receiveError dt bits => Sys2Proof.Machine.execReceiveError dt bits s
  | .fragment dt cause bits => Sys2Proof.Machine.execFragment dt cause bits s
  | .transmitStart dt tank => Sys2Proof.Machine.execTransmitStart dt tank s
  | .collision dt => Sys2Proof.Machine.execCollision dt s
  | .jamEnd dt => Sys2Proof.Machine.execJamEnd dt s
  | .backoffEnd dt tank => Sys2Proof.Machine.execBackoffEnd dt tank s
  | .transmitFault dt => Sys2Proof.Machine.execTransmitFault dt s
  | .sentEnd dt => Sys2Proof.Machine.execSentEnd dt s
  | .txLossExpiry dt => Sys2Proof.Machine.execTxLossExpiry dt s
  | .conRequestInput dt on => Sys2Proof.Machine.execConRequestInput dt on s
  | .requestTimerExpiry dt => Sys2Proof.Machine.execRequestTimerExpiry dt s
  | .demandIntervalExpiry dt => Sys2Proof.Machine.execDemandIntervalExpiry dt s
  | .helmSwitchChange dt mode economy stopAll => Sys2Proof.Machine.execHelmSwitchChange dt mode economy stopAll s
  | .standbySwitch dt on => Sys2Proof.Machine.execStandbySwitch dt on s
  | .rosterClearInput dt on => Sys2Proof.Machine.execRosterClearInput dt on s
  | .stationLag dt => Sys2Proof.Machine.execStationLag dt s
  | .economyTrimEvaluation dt => Sys2Proof.Machine.execEconomyTrimEvaluation dt s
  | .engineReadyChange dt on => Sys2Proof.Machine.execEngineReadyChange dt on s
  | .gearFeedbackChange dt ahead astern => Sys2Proof.Machine.execGearFeedbackChange dt ahead astern s
  | .gearFeedbackTimerExpiry dt => Sys2Proof.Machine.execGearFeedbackTimerExpiry dt s
  | .releaseTimerExpiry dt => Sys2Proof.Machine.execReleaseTimerExpiry dt s
  | .dwellExpiry dt => Sys2Proof.Machine.execDwellExpiry dt s
  | .captureEdge dt ch => Sys2Proof.Machine.execCaptureEdge dt ch s
  | .noiseTimerExpiry dt ch => Sys2Proof.Machine.execNoiseTimerExpiry dt ch s
  | .stampExpiry dt ch => Sys2Proof.Machine.execStampExpiry dt ch s
  | .shaftPulseTimeout dt => Sys2Proof.Machine.execShaftPulseTimeout dt s
  | .noPulseWatchExpiry dt => Sys2Proof.Machine.execNoPulseWatchExpiry dt s
  | .settleTimerExpiry dt => Sys2Proof.Machine.execSettleTimerExpiry dt s
  | .deviationStartExpiry dt => Sys2Proof.Machine.execDeviationStartExpiry dt s
  | .agreementStartExpiry dt => Sys2Proof.Machine.execAgreementStartExpiry dt s
  | .valveSenseChange dt port starboard => Sys2Proof.Machine.execValveSenseChange dt port starboard s
  | .rudderFollowTimerExpiry dt => Sys2Proof.Machine.execRudderFollowTimerExpiry dt s
  | .rudderSpread dt => Sys2Proof.Machine.execRudderSpread dt s
  | .wireBrokenInput dt on => Sys2Proof.Machine.execWireBrokenInput dt on s
  | .winchLockoutInput dt on => Sys2Proof.Machine.execWinchLockoutInput dt on s
  | .slackDwellExpiry dt => Sys2Proof.Machine.execSlackDwellExpiry dt s
  | .runTimerExpiry dt => Sys2Proof.Machine.execRunTimerExpiry dt s
  | .winchSettleExpiry dt => Sys2Proof.Machine.execWinchSettleExpiry dt s
  | .strainIntervalExpiry dt => Sys2Proof.Machine.execStrainIntervalExpiry dt s
  | .stateIntervalExpiry dt => Sys2Proof.Machine.execStateIntervalExpiry dt s
  | .fuelRateEvaluation dt => Sys2Proof.Machine.execFuelRateEvaluation dt s
  | .flowWatchExpiry dt => Sys2Proof.Machine.execFlowWatchExpiry dt s
  | .fuelIntervalExpiry dt => Sys2Proof.Machine.execFuelIntervalExpiry dt s
  | .accountIntervalExpiry dt => Sys2Proof.Machine.execAccountIntervalExpiry dt s
  | .tankFilledInput dt tank on => Sys2Proof.Machine.execTankFilledInput dt tank on s
  | .fuelDiscontinuityExpiry dt => Sys2Proof.Machine.execFuelDiscontinuityExpiry dt s
  | .acknowledgeInput dt on => Sys2Proof.Machine.execAcknowledgeInput dt on s
  | .repeatTimerExpiry dt => Sys2Proof.Machine.execRepeatTimerExpiry dt s
  | .sequenceStart dt => Sys2Proof.Machine.execSequenceStart dt s
  | .sequenceCompletion dt a0 a1 reference => Sys2Proof.Machine.execSequenceCompletion dt a0 a1 reference s
  | .overrunExpiry dt => Sys2Proof.Machine.execOverrunExpiry dt s
  | .periodStart dt => Sys2Proof.Machine.execPeriodStart dt s
  | .wakeInput dt on => Sys2Proof.Machine.execWakeInput dt on s
  | .configWatch dt damage => Sys2Proof.Machine.execConfigWatch dt damage s
  | .receptionStart dt => Sys2Proof.Machine.execReceptionStart dt s
  | .lineQuiet found => Sys2Proof.Machine.execLineQuiet found s

end Sys2Proof.Machine
end

