-- ==== Sys2Proof/Machine/Step.lean ====
section
/-! DEFINITION. One step of the station: the command at the front of the queue, or a microsecond of idling. -/

namespace Sys2Proof.Machine

/-- The station with nothing commanded: one microsecond passes on its clock (R169). DESIGN CHOICE,
notes/assumptions/2.md: unsafe. -/
def State.idle (s : State) : State := s.advance 1

/-- The station without the command at the front of its queue. -/
def State.rest (s : State) (cs : List Instr) : State := { s with pending := cs }

/-- One step: the front command's effect on the station with the queue's rest, or idling. -/
def step (s : State) : Host.Outcome State Fault Refusal :=
  match s.pending with
  | [] => .next s.idle
  | c :: cs => exec c (s.rest cs)

/-- The command a word spells put at the front of the queue; the station unchanged where it spells none. No row of
the table gives bits, so no word spells a command; commands come to the queue from outside the machine. DESIGN
CHOICE, notes/assumptions/32.md: safe. -/
def State.withFetchWord (s : State) (nbits w : Nat) : State :=
  match decodeTableWord nbits w with
  | none => s
  | some c => { s with pending := c :: s.pending }

end Sys2Proof.Machine
end

