-- ==== Sys2Proof/Safety.lean ====
section
/-! DEFINITION. What claims are stated in: the parts of a station and what a command leaves alone, when a frame is
applied, what a raise and a clear leave, and the invariants of the manual's own sentences. -/

namespace Sys2Proof.Machine

/-! ## Frames: the parts of a station -/

/-- The parts of State: its fields, with the conditions present, the alert unit and the link apart. -/
inductive Part where
  | clock | lines | station | role | address | start | present | alerts | link | peers | demand | helm | thrust
  | gear | gov | steer | coup | meter | account | view | conv | caps | outputs | pending
deriving DecidableEq, Repr

/-- Two stations agree on a part. -/
def Part.same : Part → State → State → Prop
  | .clock, s, t => t.clock = s.clock
  | .lines, s, t => t.lines = s.lines
  | .station, s, t => t.station = s.station
  | .role, s, t => t.role = s.role
  | .address, s, t => t.address = s.address
  | .start, s, t => t.start = s.start
  | .present, s, t => t.comms.present = s.comms.present
  | .alerts, s, t => t.comms.alerts = s.comms.alerts
  | .link, s, t => t.comms.link = s.comms.link
  | .peers, s, t => t.peers = s.peers
  | .demand, s, t => t.demand = s.demand
  | .helm, s, t => t.helm = s.helm
  | .thrust, s, t => t.thrust = s.thrust
  | .gear, s, t => t.gear = s.gear
  | .gov, s, t => t.gov = s.gov
  | .steer, s, t => t.steer = s.steer
  | .coup, s, t => t.coup = s.coup
  | .meter, s, t => t.meter = s.meter
  | .account, s, t => t.account = s.account
  | .view, s, t => t.view = s.view
  | .conv, s, t => t.conv = s.conv
  | .caps, s, t => t.caps = s.caps
  | .outputs, s, t => t.outputs = s.outputs
  | .pending, s, t => t.pending = s.pending

/-- Every part outside the list is unchanged. -/
def OnlyTouches (ps : List Part) (s t : State) : Prop := ∀ p, p ∉ ps → p.same s t

/-- The clock after a time has passed (R169). -/
def State.later (s : State) (dt : Micros) : Clock := s.clock + BitVec.ofNat 32 dt

/-- The repeat timer as an entry to ACTIVE at this moment leaves it: 5 s afresh while the list holds an
unacknowledged entry, else stopped (R140). -/
def State.RepeatsAfresh (s : State) : Prop :=
  s.comms.alerts.repeatTimer =
    if s.comms.alerts.list.any (fun e => e.state != .activeAcked) then startTimer s.clock (sec 5) else none

/-- A command only lets its time pass: the clock moves on and nothing else changes. -/
def OnlyTimePasses (dt : Micros) (s t : State) : Prop := t.clock = s.later dt ∧ OnlyTouches [.clock] s t

/-! ## Frames on the link: when one is applied -/

/-- The time and the frame that a good frame's command carries, none for the other commands. -/
def frameOf : Instr → Option (Micros × Frame)
  | .demand dt h p => some (dt, ⟨h.start, h.source, .helm, 1, .demand p⟩)
  | .conRequest dt h p => some (dt, ⟨h.start, h.source, .helm, 1, .con .request p⟩)
  | .conGrant dt h p => some (dt, ⟨h.start, h.source, .helm, 1, .con .grant p⟩)
  | .conDecline dt h p => some (dt, ⟨h.start, h.source, .helm, 1, .con .decline p⟩)
  | .conTake dt h p => some (dt, ⟨h.start, h.source, .helm, 1, .con .take p⟩)
  | .propState dt h p => some (dt, ⟨h.start, h.source, .propulsion, 2, .propState p⟩)
  | .strain dt h p => some (dt, ⟨h.start, h.source, .coupling, 2, .strain p⟩)
  | .fuel dt h p => some (dt, ⟨h.start, h.source, .propulsion, 3, .fuel p⟩)
  | .account dt h p => some (dt, ⟨h.start, h.source, .helm, 3, .account p⟩)
  | .alert dt h role p => some (dt, ⟨h.start, h.source, role, 3, .alert p⟩)
  | .ack dt h items => some (dt, ⟨h.start, h.source, .helm, 2, .ack items⟩)
  | .roster dt h e => some (dt, ⟨h.start, h.source, .helm, 2, .roster e⟩)
  | .standby dt h e => some (dt, ⟨h.start, h.source, .helm, 1, .standby e⟩)
  | .wake dt h e => some (dt, ⟨h.start, h.source, .helm, 1, .wake e⟩)
  | _ => none

/-- The station's peer table applies a frame of a role from an address: a reception is under way in a taking
state, the address is another's, and its entry is EMPTY or has that role (R3, R4, R5). -/
def State.Admits (s : State) (src : Addr) (role : Role) : Prop :=
  s.receives = true ∧ s.station.taking = true ∧ src ≠ s.address ∧
    ∀ e, s.peers.entries.get src = some e → bodyRole e.body = role

/-- The roster of a PROPULSION entry after its state frame: written where the entry was EMPTY, the frame carries
START or a refresh is pending, else kept (R6, R8, R9). -/
def rosterAfter (start : Bool) (new : PropRoster) : Option Entry → PropRoster
  | some { body := .propulsion roster refresh _, .. } => if start || refresh then new else roster
  | _ => new

/-- The joint number of a COUPLING entry after its state frame (R6, R8, R9). -/
def jointAfter (start : Bool) (new : Nat) : Option Entry → Nat
  | some { body := .coupling joint refresh _, .. } => if start || refresh then new else joint
  | _ => new

/-- The role's fields after a frame of another kind than the role's state frame: START makes a refresh pending (R9).
-/
def bodyHeard (start : Bool) : EntryBody → EntryBody
  | .helm => .helm
  | .propulsion roster refresh record => .propulsion roster (start || refresh) record
  | .coupling joint refresh record => .coupling joint (start || refresh) record

/-- An entry after a frame of another kind than its role's state frame: an EMPTY one is filled by a HELM's frame
alone (R6), any other is heard now, and LIVE again if it was SILENT (R7). -/
def entryHeard (now : Clock) (role : Role) (start : Bool) : Option Entry → Option Entry
  | none => if role = .helm then some { body := .helm, liveness := .live, heard := now } else none
  | some e =>
    some { body := bodyHeard start e.body, liveness := if e.liveness = .silent then .live else e.liveness,
           heard := now }

/-- A command is one of the two resets. -/
def isReset : Instr → Bool
  | .powerOnReset .. => true
  | .resetLineReset .. => true
  | _ => false

/-! ## Raises, clears and queued frames -/

/-- The transmit queue has a free place, so that no offer to it loses a frame (R165). -/
def State.QueueFree (s : State) : Prop := s.comms.link.queue.length < 8

/-- A frame of a kind waits in the transmit queue. -/
def State.waits (s : State) (k : FrameKind) : Bool := s.comms.link.queue.any (fun w => w.kind == k)

/-- The transmit queue after the alert list has come to a value, where the queue has a free place: the same while
the list is the same; else an ALERT waiting at class 3 moves to class 2 when the list holds a trip-class entry in
ACTIVE_UNACK, and in ACTIVE and STANDBY an ALERT joins the end where none waits (R140, R141, R163, R164). -/
def State.queueAfter (s : State) (list : List AlertEntry) : List Waiting :=
  let trips := list.any (fun e => tripClass e.code && e.state == .activeUnack)
  let moved := s.comms.link.queue.map
    (fun w => if trips && w.kind == .alert && w.cls == 3 then { w with cls := 2 } else w)
  if list = s.comms.alerts.list then s.comms.link.queue
  else if s.station.acting && !s.waits .alert then
    moved ++ [{ kind := .alert, cls := if trips then 2 else 3, entered := s.clock, content := none }]
  else moved

/-- What a report leaves alone: everything but the conditions, the alert unit and the link; of the link everything
but the queue, the last loss and IDLE's change to DEFERRING (R157); of the alert unit the part mark. A change of the
list queues an ALERT in ACTIVE and STANDBY (R140), and to a queue with a free place it does nothing else than that
and the change of class of R141. -/
def ReportOnly (s t : State) : Prop :=
  OnlyTouches [.present, .alerts, .link] s t ∧
  t.comms.link = { s.comms.link with queue := t.comms.link.queue, tx := t.comms.link.tx,
                                     lastLoss := t.comms.link.lastLoss } ∧
  (t.comms.link.tx = s.comms.link.tx ∨ (s.comms.link.tx = .idle ∧ t.comms.link.tx = .deferring)) ∧
  t.comms.alerts.part1Due = s.comms.alerts.part1Due ∧
  (t.comms.alerts.list ≠ s.comms.alerts.list → s.station.acting = true → s.QueueFree → t.waits .alert = true) ∧
  (s.QueueFree → t.comms.link.queue = s.queueAfter t.comms.alerts.list ∧ t.comms.link.lastLoss = s.comms.link.lastLoss)

/-- A raise of a code, as seen from outside: its condition is present and the list is as R132 leaves it; of the
others only TX_LOSS may have come, and only from a full queue (R132, R165, R167). -/
def Raises (c : AlertCode) (s t : State) : Prop :=
  ReportOnly s t ∧ t.has c = true ∧
  (∀ d, d ≠ c → d ≠ .txLoss ∨ s.QueueFree → t.has d = s.has d) ∧
  (t.comms.alerts.list = raiseList c s.comms.alerts.list ∨
    (¬ s.QueueFree ∧ t.comms.alerts.list = raiseList .txLoss (raiseList c s.comms.alerts.list)))

/-- A clear of a code, as seen from outside (R134, R165, R167). -/
def Clears (c : AlertCode) (s t : State) : Prop :=
  ReportOnly s t ∧ (c ≠ .txLoss ∨ s.QueueFree → t.has c = false) ∧
  (∀ d, d ≠ c → d ≠ .txLoss ∨ s.QueueFree → t.has d = s.has d) ∧
  (t.comms.alerts.list = clearList c s.comms.alerts.list ∨
    (¬ s.QueueFree ∧ t.comms.alerts.list = raiseList .txLoss (clearList c s.comms.alerts.list)))

/-- A condition raised if it is not present. -/
def Raised (c : AlertCode) (s t : State) : Prop := if s.has c then t = s else Raises c s t

/-- A condition cleared if it is present. -/
def Ended (c : AlertCode) (s t : State) : Prop := if s.has c then Clears c s t else t = s

/-- The list changed by an acknowledgement, no condition changed (R135, R165, R167). -/
def Relisted (l : List AlertEntry) (s t : State) : Prop :=
  ReportOnly s t ∧ (∀ d, d ≠ .txLoss ∨ s.QueueFree → t.has d = s.has d) ∧
  (t.comms.alerts.list = l ∨ (¬ s.QueueFree ∧ t.comms.alerts.list = raiseList .txLoss l))

/-- A condition made to follow a test. -/
def Follows (c : AlertCode) (holds : Bool) (s t : State) : Prop := if holds then Raised c s t else Ended c s t

/-- A frame has been offered to a queue with a free place: a frame of a coalescing kind of which one waits leaves
the queue as it was, any other joins its end, and IDLE becomes DEFERRING (R157, R162, R163). -/
def Queued (w : Waiting) (s t : State) : Prop :=
  let q := if coalescing w.kind && s.waits w.kind then s.comms.link.queue else s.comms.link.queue ++ [w]
  t = { s with comms := { s.comms with link := { s.comms.link with
          queue := q, tx := if s.comms.link.tx = .idle ∧ q ≠ [] then .deferring else s.comms.link.tx } } }

/-- What a full queue becomes when a frame is offered that nothing coalesces: the same where no waiting frame has a
greater class than the frame; otherwise the most recently entered of the frames of the greatest class makes room for
it (R165). -/
def FullOffer (w : Waiting) (q r : List Waiting) : Prop :=
  ((∀ v ∈ q, v.cls ≤ w.cls) → r = q) ∧
  (∀ a v b, q = a ++ v :: b → w.cls < v.cls → (∀ x ∈ a, x.cls ≤ v.cls) → (∀ x ∈ b, x.cls < v.cls) → r = a ++ b ++ [w])

/-- The station as a good frame's end leaves it, before any unit takes the frame: the receiver HUNTING, the line
quiet from this moment, the receive residue 0, and RX_ERROR cleared, or in JOINING the error mark clear (R147, R148,
R149, R167). -/
def Heard (dt : Micros) (s v : State) : Prop :=
  let link := { s.comms.link with receiver := .hunting, rxResidue := 0, quietSince := some (s.later dt) }
  let u := { s.advance dt with comms := { s.comms with link := link } }
  if s.station = .joining then
    v = { u with comms := { u.comms with link := { link with errorMark := false } } }
  else if s.station.reporting then Ended .rxError u v
  else v = u

/-! ## What follows from a change of the peer table -/

/-- ADDRESS_CONFLICT after a command: where it is reported it is raised as the conflict list comes to hold an item,
cleared as it empties, and stands while neither happens (R5, R16). -/
def ConflictJudged (s t : State) : Prop :=
  t.has .addressConflict =
    if s.station.reporting ∧ s.anyConflict ≠ t.anyConflict then t.anyConflict else s.has .addressConflict

/-- PEER_SILENT after a command: at a PROPULSION or HELM station, where it is reported, it is raised as the count of
SILENT PROPULSION and COUPLING entries leaves zero, cleared as it returns to it, and stands otherwise (R15, R16). -/
def SilenceJudged (s t : State) : Prop :=
  t.has .peerSilent =
    if s.station.reporting ∧ (s.isHelm ∨ s.isProp) ∧ s.anySilentWorker ≠ t.anySilentWorker then t.anySilentWorker
    else s.has .peerSilent

/-- The thrust unit after a change of the table: F is found again, and a fall of it in ACTIVE makes the strain cut,
which replaces the last target by the one found with the new F and holds X between 0 and it (R53, R54). -/
def StrainCut (s t : State) : Prop :=
  let cut := s.station = .active ∧ t.thrust.strain < s.thrust.strain
  s.isProp = true → s.station.taking = true →
    t.thrust.strain = t.strainFactorNow ∧
    (cut →
      t.thrust.lastTarget = t.target ∧
      t.thrust.x = (if 0 ≤ s.thrust.x then max 0 (min s.thrust.x t.target) else min 0 (max s.thrust.x t.target)) ∧
      t.thrust.duty = (if t.thrust.x = s.thrust.x then s.thrust.duty
        else dutyOf s.gear.state t.thrust.x (s.param Param.ratedThrust)) ∧
      t.thrust.ahead = s.thrust.ahead ∧ t.thrust.astern = s.thrust.astern ∧ t.thrust.trim = s.thrust.trim) ∧
    (¬ cut → t.thrust = { s.thrust with strain := t.thrust.strain } ∧ t.gov = s.gov ∧ t.outputs = s.outputs)

/-- The entry at an address is a LIVE PROPULSION entry. -/
def State.livePropAt (s : State) (a : Addr) : Prop := (livePropRecord (s.peers.entries.get a)).isSome = true

/-- The lag starts of a HOLDING helm at the addresses of a set, after a change of the table: those of entries that
are LIVE PROPULSION entries stand and the others are removed; STATION_LAG ends where no lag start is 2 s old (R34).
-/
def LagsKept (here : Addr → Prop) (s t : State) : Prop :=
  t.helm = { s.helm with lag := t.helm.lag } ∧
  (∀ a, here a → (t.livePropAt a → t.helm.lag.get a = s.helm.lag.get a) ∧
    (¬ t.livePropAt a → t.helm.lag.get a = none)) ∧
  (s.station.helmReporting = true →
    (t.has .stationLag = true ↔ s.has .stationLag = true ∧
      ∃ a since, t.helm.lag.get a = some since ∧ 2000000 ≤ elapsed t.clock since)) ∧
  (s.station.helmReporting = false → t.has .stationLag = s.has .stationLag)

/-- The lag starts of a HOLDING helm after a renumbering: one is set, where none is held, for each LIVE PROPULSION
entry that followed the old number, none is held for one that follows the new number or is no LIVE PROPULSION entry,
and every other stands; STATION_LAG ends where no lag start is 2 s old (R34). -/
def LagsRenumbered (s t : State) : Prop :=
  (∀ a, (¬ s.livePropAt a → t.helm.lag.get a = none) ∧
    ∀ r, livePropRecord (s.peers.entries.get a) = some r →
      (r.followed = t.helm.number → t.helm.lag.get a = none) ∧
      (r.followed = s.helm.number → t.helm.lag.get a = some ((s.helm.lag.get a).getD t.clock)) ∧
      (r.followed ≠ s.helm.number → r.followed ≠ t.helm.number → t.helm.lag.get a = s.helm.lag.get a)) ∧
  (s.station.helmReporting = true →
    (t.has .stationLag = true ↔ s.has .stationLag = true ∧
      ∃ a since, t.helm.lag.get a = some since ∧ 2000000 ≤ elapsed t.clock since)) ∧
  (s.station.helmReporting = false → t.has .stationLag = s.has .stationLag)

/-- The slack dwell of a COUPLING station that a command leaves in ACTIVE with its winch IDLE: it stands still where
one of its three conditions does not hold, and runs where all three do, from this moment where it did not run before
(R107). -/
def DwellJudged (s t : State) : Prop :=
  let holds := t.coup.cls = .slack ∧ t.permit = true ∧ t.has .tensionSignal = false
  s.isCoup = true → s.station = .active → t.station = .active → s.coup.supervised = true → s.coup.winch = .idle →
    t.coup.winch = .idle ∧ (¬ holds → t.coup.dwellTimer = none) ∧ (holds → t.coup.dwellTimer ≠ none) ∧
    (holds → s.coup.dwellTimer = none →
      t.coup.dwellTimer = startTimer t.clock (sec (s.param Param.slackDwell)))

/-- How many frames of a kind wait. -/
def waitingOf (k : FrameKind) (q : List Waiting) : Nat := (q.filter (fun w => w.kind == k)).length

/-! ## Invariants -/

/-- An alert list never holds more than 16 entries or two entries with one code (R131). -/
def AlertInv (s : State) : Prop :=
  s.comms.alerts.list.length ≤ 16 ∧ (s.comms.alerts.list.map AlertEntry.code).Nodup

/-- The queue holds at most 8 frames and at most one waiting frame of each coalescing kind (R162). -/
def QueueInv (s : State) : Prop :=
  s.comms.link.queue.length ≤ 8 ∧ ∀ k, coalescing k = true → waitingOf k s.comms.link.queue ≤ 1

/-- E lies within 200 to 1000 (R55). -/
def TrimInv (s : State) : Prop := 200 ≤ s.thrust.trim ∧ s.thrust.trim ≤ 1000

/-- An output after its immediate write, with nothing written since (R178). -/
def Pwm.Closed (p : Pwm) : Prop := p.bankA = 0 ∧ p.bankB = 0 ∧ p.pending = false ∧ p.driving = 0

/-- While the safe state stands every PWM output is as its immediate write left it (R180). -/
def SafeInv (s : State) : Prop := s.station.safe = true → ∀ i, (s.outputs.outs.get i).Closed

/-- X is 0 unless an acting station's gear is engaged, it never exceeds the availability in its own direction, and
the duty is whole in 0 to 1000 (R38, R51, R177). -/
def ThrustInv (s : State) : Prop :=
  s.isProp = true →
    (s.thrust.x = 0 ∨ (engaged s.gear.state = true ∧ s.station.acting = true)) ∧
    -(s.thrust.astern : Int) ≤ s.thrust.x ∧ s.thrust.x ≤ s.thrust.ahead ∧
    (s.thrust.x = 0 → s.thrust.duty = 0) ∧ s.thrust.duty ≤ 1000

/-- The duty that controls an output once a pending write has been taken (R177). -/
def Pwm.next (p : Pwm) : Nat := if p.pending then p.duty p.inControl.other else p.duty p.inControl

/-- OUT0 carries the governor duty of a PROPULSION station: the duty that controls it once a pending write has been
taken (R48, R177). -/
def GovernorInv (s : State) : Prop := s.isProp = true → (s.outputs.outs.get 0).next = s.thrust.duty

/-- A station in HOLDING is a HELM whose view names itself (R32). -/
def ConInv (s : State) : Prop :=
  s.helm.con = .holding → s.isHelm = true ∧ s.demand.view.holder = some s.address

/-- The view holds at most 48 items and at most one for each pair of station and code (R143). -/
def ViewInv (s : State) : Prop :=
  s.view.items.length ≤ 48 ∧ (s.view.items.map (fun i => (i.station, i.code))).Nodup

/-- A HELM station is not in STANDBY (R194). -/
def HelmAwake (s : State) : Prop := s.isHelm = true → s.station ≠ .standby

/-- A station that may not send holds no frame: none waits and the transmitter is IDLE (R162, R168). -/
def SilentInv (s : State) : Prop :=
  s.transmits = false → s.comms.link.queue = [] ∧ s.comms.link.tx = .idle

/-- The convoy totals are the sums of R126. -/
def AccountInv (s : State) : Prop := ∀ k, s.account.totals.get k = convoyTotal s.account.records k

/-- A demand lies within −1000 to +1000 per mille in both values (R19). -/
def Demand.InRange (d : Demand) : Prop :=
  -1000 ≤ d.thrust ∧ d.thrust ≤ 1000 ∧ -1000 ≤ d.turn ∧ d.turn ≤ 1000

/-- The record, the live and the current demand are within range (R19, R24, R26). -/
def DemandInv (s : State) : Prop :=
  s.demand.record.demand.InRange ∧ s.helm.live.InRange ∧ s.helm.current.InRange

/-- In START and FAILED no trip-class condition is present, and in every other state each one that is present has an
active entry (R131). -/
def TripInv (s : State) : Prop :=
  ∀ c, tripClass c = true → s.has c = true →
    s.station ≠ .start ∧ s.station ≠ .failed ∧ ∃ e ∈ s.comms.alerts.list, e.code = c ∧ isActive e.state = true

/-- A valve's next duty is 0 unless the drive runs that way: OUT1 for port, OUT2 for starboard (R83). -/
def ValveInv (s : State) : Prop :=
  ((s.outputs.outs.get 1).next ≠ 0 → s.steer.drive = .drivingPort) ∧
  ((s.outputs.outs.get 2).next ≠ 0 → s.steer.drive = .drivingStbd)

/-- F is the least factor of the coupling entries as they stand (R53). -/
def StrainInv (s : State) : Prop :=
  s.isProp = true → s.station.taking = true → s.thrust.strain = s.strainFactorNow

/-- What the slack dwell, a heave and LOCKED_OUT rest on at a COUPLING station: the dwell runs just while all its
conditions hold (R107, R108, R111). -/
def WinchInv (s : State) : Prop :=
  s.isCoup = true →
    (s.coup.dwellTimer ≠ none ↔
      s.station = .active ∧ s.coup.supervised = true ∧ s.coup.winch = .idle ∧ s.coup.cls = .slack ∧
        s.permit = true ∧ s.has .tensionSignal = false) ∧
    (s.coup.winch = .heaving →
      s.station = .active ∧ s.coup.supervised = true ∧ aboveTaut s.coup.cls = false ∧
        s.permit = true ∧ s.has .tensionSignal = false) ∧
    (s.station = .active → s.coup.supervised = true →
      (s.coup.winch = .lockedOut ↔ s.line 1 = true ∨ s.has .winchRun = true))

/-- The class that rising steps reach from a class at a filtered tension: each boundary passed while the tension is
at or above its rising level (R98). -/
def State.classRisen (s : State) (filtered : Nat) : StrainClass → StrainClass
  | .slack =>
    if filtered < s.param Param.tautLevel then .slack
    else if filtered < s.param Param.highLevel then .taut
    else if filtered < s.param Param.overLevel then .high else .overload
  | .taut =>
    if filtered < s.param Param.highLevel then .taut
    else if filtered < s.param Param.overLevel then .high else .overload
  | .high => if filtered < s.param Param.overLevel then .high else .overload
  | .overload => .overload
  | .parted => .parted

/-- The class that falling steps reach: each boundary passed while the tension is under its rising level less the
hysteresis (R98). -/
def State.classFallen (s : State) (filtered : Nat) : StrainClass → StrainClass
  | .slack => .slack
  | .taut => if filtered + s.param Param.hysteresis < s.param Param.tautLevel then .slack else .taut
  | .high =>
    if filtered + s.param Param.hysteresis < s.param Param.highLevel then
      (if filtered + s.param Param.hysteresis < s.param Param.tautLevel then .slack else .taut)
    else .high
  | .overload =>
    if filtered + s.param Param.hysteresis < s.param Param.overLevel then
      (if filtered + s.param Param.hysteresis < s.param Param.highLevel then
        (if filtered + s.param Param.hysteresis < s.param Param.tautLevel then .slack else .taut)
      else .high)
    else .overload
  | .parted => .parted

/-- The station states that one command other than a reset can reach from a station state: the edges of the
table of section 12.4, taken one after another. -/
def reachable : StationState → StationState → Bool
  | .start, .start | .start, .joining | .start, .failed => true
  | .joining, .joining | .joining, .active | .joining, .standby | .joining, .listenOnly => true
  | .active, .active | .active, .standby | .active, .listenOnly | .active, .halted => true
  | .standby, .standby | .standby, .active | .standby, .listenOnly | .standby, .halted => true
  | .failed, .failed | .listenOnly, .listenOnly | .halted, .halted => true
  | _, _ => false

end Sys2Proof.Machine
end

