-- ==== Sys2Proof/Certificates/Slice0/Obligations.lean ====
section
/-! DEFINITION. The statements for the provers: what the manual's rules say that the commands and the station do. -/

open Sys2Proof Sys2Proof.Machine

/-! ## The machine and the start unit (chapter 12) -/

/-- A step runs the command at the front of the queue on the station with the queue's rest; with nothing commanded a
microsecond passes and nothing else changes. The idle step is the model's choice (notes/assumptions/2.md). -/
def Obligations.StepRunsTheFrontCommand : Prop :=
  (∀ (s : State) (c : Instr) (cs : List Instr), s.pending = c :: cs → step s = exec c (s.rest cs)) ∧
  (∀ s : State, s.pending = [] → ∃ t, step s = .next t ∧ OnlyTimePasses 1 s t)

/-- Every command completes; none changes the waiting commands; only a reset changes the strapped role and
address and the reset cause (R187: "Role and address are held until the next reset"), and only a reset leaves
FAILED, LISTEN_ONLY or HALTED: every other command takes the station state along the edges of section 12.4. -/
def Obligations.CommandsKeepStrappingAndQueue : Prop :=
  ∀ (c : Instr) (s : State), ∃ t, exec c s = .next t ∧ t.pending = s.pending ∧
    (isReset c = false → t.role = s.role ∧ t.address = s.address ∧ t.start.cause = s.start.cause ∧
      reachable s.station t.station = true)

/-- R187, R2, R17, R19, R28, R37, R59, R77, R94, R114, R123, R131, R162, R168, R170, R176, R181: what the end of
either reset leaves. A power-on reset zeroes the tank totals and the residue, a reset-line reset keeps them. That
the read of the configuration memory begins at that moment is the model's choice (notes/assumptions/65.md). -/
def Obligations.ResetsStartTheStation : Prop :=
  ∀ (s : State) (pins : BitVec 2) (addr : Addr) (lines : BitVec 16) (c : Instr) (cause : ResetCause),
    (c = .powerOnReset pins addr lines ∧ cause = .powerOn ∨
      c = .resetLineReset pins addr lines ∧ cause = .resetLine) →
    ∃ t, exec c s = .next t ∧ t.pending = s.pending ∧
      t.clock = 0 ∧ t.role = roleOfCode pins.toNat ∧ t.address = addr ∧
      t.station = (if pins = 0 then .failed else .start) ∧ (∀ i : Fin 16, t.line i = lines.getLsbD i.val) ∧
      t.start = { cause := cause, image := [], reading := if pins = 0 then none else some 0,
                  request := false, joinTimer := none, watch := none } ∧
      (∀ d, t.has d = false) ∧ t.comms.alerts.list = [] ∧ t.comms.alerts.part1Due = false ∧ t.warn = false ∧
      t.comms.link.tx = .idle ∧ t.comms.link.queue = [] ∧ t.comms.link.receiver = .hunting ∧
      t.comms.link.startMark = true ∧ t.comms.link.errorMark = false ∧ t.comms.link.lastLoss = none ∧
      (∀ a, t.peers.entries.get a = none ∧ t.peers.conflicts.get a = none) ∧
      t.demand.view = { holder := none, epoch := 0 } ∧
      t.demand.record = { demand := { thrust := 0, turn := 0, mode := .normal, cap := none, stopAll := false },
                          number := 0, accepted := none, state := .none } ∧
      t.helm.con = .standingBy ∧ t.helm.requestTimer = none ∧ t.helm.interval = none ∧
      t.helm.switchPending = false ∧ (∀ a, t.helm.lag.get a = none) ∧ t.helm.current = t.demand.record.demand ∧
      t.helm.number = 0 ∧ t.thrust.x = 0 ∧ t.thrust.lastTarget = 0 ∧ t.thrust.trim = 1000 ∧ t.thrust.strain = 1000 ∧
      t.thrust.duty = 0 ∧ t.gear.state = .neutral ∧ t.gear.supervised = false ∧ t.gear.release = .none ∧
      t.gov.rpm = 0 ∧ t.gov.lastPulse = none ∧ t.gov.watch = none ∧ t.gov.noPulse = false ∧ t.gov.settle = none ∧
      t.steer.angle = 0 ∧ t.steer.drive = .stopped ∧ t.steer.supervised = false ∧
      t.coup.window = [] ∧ t.coup.filtered = 0 ∧ t.coup.cls = .slack ∧ t.coup.classTaken = false ∧
      t.coup.partedLatch = false ∧ t.coup.peak = none ∧ t.coup.peakSince = none ∧ t.coup.onset = none ∧
      t.coup.winch = .idle ∧ t.coup.drumCount = 0 ∧
      t.meter.totals = (if cause = .powerOn then Tab.all 4 0 else s.meter.totals) ∧
      t.meter.residue = (if cause = .powerOn then 0 else s.meter.residue) ∧
      t.meter.window = List.replicate 10 0 ∧ t.meter.rate = 0 ∧ t.meter.returnMark = false ∧
      (∀ a, t.account.records.get a = { carried := Tab.all 4 0, last := Tab.all 4 0, restart := false }) ∧
      (∀ k, t.account.totals.get k = 0 ∧ t.account.baselines.get k = 0 ∧ t.account.low.get k = false) ∧
      t.account.holderLow = none ∧ t.account.lastDisc = none ∧ t.view.items = [] ∧
      (∀ a, t.view.part0.get a = none) ∧ t.conv.state = .idle ∧ t.sequenceResults = [] ∧
      t.conv.latestRef = none ∧ t.conv.lastOverrun = none ∧ t.conv.series = none ∧
      (∀ i, t.conv.latest.get i = none ∧ t.conv.range.get i = none) ∧
      (∀ i, (t.caps.get i).stamp = none ∧ (t.caps.get i).previous = none ∧ (t.caps.get i).count = 0 ∧
        (t.caps.get i).noise = false) ∧
      (∀ i, (t.outputs.outs.get i).Closed ∧ (t.outputs.outs.get i).inControl = .a) ∧
      t.outputs.periods = { since := 0, span := 2000 }

/-- The state after reset is the end of a power-on reset that straps a PROPULSION station at address 0 with every
line off, and it meets every invariant below. The strapping is the world's; this one is the model's choice
(notes/assumptions/4.md). -/
def Obligations.StateResetMeetsTheInvariants : Prop :=
  (∀ s : State, s.pending = [] → exec (.powerOnReset 2 0 0) s = .next State.reset) ∧
  AlertInv State.reset ∧ TripInv State.reset ∧ QueueInv State.reset ∧ SilentInv State.reset ∧ SafeInv State.reset ∧
  ValveInv State.reset ∧ ThrustInv State.reset ∧ GovernorInv State.reset ∧ StrainInv State.reset ∧
  TrimInv State.reset ∧ ConInv State.reset ∧ HelmAwake State.reset ∧ DemandInv State.reset ∧
  ViewInv State.reset ∧ AccountInv State.reset ∧ WinchInv State.reset

/-- R188, R189, R190: while the read is under way the station holds select active, and in the first 24 periods of
the serial clock it sends the request byte 0x03 and the address 0, most significant bit first; the read does not end
before its 1048 periods. The read image is judged by answer, check, marker and role. If all four pass, the reference
check is asked for, and CONFIG_CLAMPED is raised where a parameter needed its clamp; a failure takes the station to
FAILED, with the safe state applied, TRIP asserted and WARN released. The read as one command with its bytes
(notes/assumptions/22.md), and its periods of 1 µs counted from the end of the reset, before which it does not end
(65.md), are the model's choices; that the list stands empty in FAILED is its inference (17.md). -/
def Obligations.ConfigReadJudgesTheImage : Prop :=
  (∀ (s : State) (since : Clock), s.start.reading = some since →
    let period := elapsed s.clock since
    s.memorySelect = true ∧ s.memoryPeriods = min 1048 period ∧
      (period < 8 → s.memoryDataOut = some ((0x03#8).getMsbD period)) ∧
      (8 ≤ period → period < 24 → s.memoryDataOut = some ((0#16).getMsbD (period - 8))) ∧
      (24 ≤ period → s.memoryDataOut = none)) ∧
  (∀ s : State, s.start.reading = none → s.memorySelect = false ∧ s.memoryPeriods = 0 ∧ s.memoryDataOut = none) ∧
  (∀ (s : State) (dt : Micros) (bytes : List Byte) (since : Clock), s.start.reading = some since →
    elapsed (s.later dt) since < 1048 → exec (.configReadComplete dt bytes) s = .next (s.advance dt)) ∧
  (∀ (s : State) (dt : Micros) (bytes : List Byte) (r : Role) (since : Clock),
    s.station = .start → s.start.reading = some since → 1048 ≤ elapsed (s.later dt) since → s.role = some r →
    bytes.length = 128 →
    let image := wordsOf bytes
    let u := { s.advance dt with start := { s.start with image := image, reading := none } }
    let passed := { u with conv := { s.conv with state := .reference (s.later dt) } }
    let passes := bytes.all (fun b => b == 0xFF#8) = false ∧
      crcBits crcSeed (wordsBits (image.take 63)) = imageWord image 63 ∧
      (imageWord image 0).toNat / 256 = 0xD6 ∧ (imageWord image 0).toNat % 256 = roleCode r
    ∃ t, exec (.configReadComplete dt bytes) s = .next t ∧ image.length = 64 ∧
      (passes → imageNeedsClamp r image = false → t = passed) ∧
      (passes → imageNeedsClamp r image = true → Raises .configClamped passed t) ∧
      (¬ passes →
        t = { u with station := .failed, comms := { s.comms with alerts := t.comms.alerts },
                     conv := { s.conv with state := .idle }, outputs := t.outputs } ∧
        t.comms.alerts.list = [] ∧ t.trip = true ∧ t.warn = false ∧
        t.outputs.periods = s.outputs.periods ∧ (∀ i, (t.outputs.outs.get i).Closed)))

/-- R186, R189, R191, R37, R25: at the end of the reference conversion a result within 2008 to 2088 takes the
station to JOINING, where the join time, the control tick, the sweep, the rate of burn and the converter begin and a
PROPULSION station finds its availability; any other result takes it to FAILED. That the alert list stands empty in
FAILED is the model's inference (notes/assumptions/17.md). -/
def Obligations.ReferenceCheckEndsStart : Prop :=
  ∀ (s : State) (dt : Micros) (result : Raw) (since : Clock),
    s.station = .start → ThrustInv s → s.conv.state = .reference since → 40 ≤ elapsed (s.later dt) since →
    ∃ t, exec (.referenceCheckComplete dt result) s = .next t ∧ t.clock = s.later dt ∧
      (∀ i, (t.outputs.outs.get i).Closed) ∧ t.outputs.periods = s.outputs.periods ∧
      (2008 ≤ result.toNat ∧ result.toNat ≤ 2088 →
        t.station = .joining ∧
        t.start = { s.start with joinTimer := startTimer (s.later dt) (sec (s.param Param.joinTime)) } ∧
        t.demand = { s.demand with tick := startTimer (s.later dt) (ms 100) } ∧
        t.peers = { s.peers with sweep := startTimer (s.later dt) (ms 100) } ∧
        t.meter = { s.meter with rateSeries := if s.isProp then startTimer (s.later dt) (sec 1) else none } ∧
        t.conv = { s.conv with state := .idle, latestRef := some result, interval := if s.isCoup then ms 50 else ms 20,
                               series := some (s.later dt - BitVec.ofNat 32 (if s.isCoup then 50000 else 20000)) } ∧
        t.comms.link = { s.comms.link with quietSince := none, lastChange := none, receiver := .hunting } ∧
        t.helm = (if s.isHelm then
          { s.helm with live := { s.helm.live with
              mode := modeOfLines (twoLine (s.line 4) (s.line 5)),
              cap := if twoLine (s.line 6) (s.line 7) = 0 then none
                else capOf (s.param (Param.economyCap (twoLine (s.line 6) (s.line 7) - 1))),
              stopAll := s.line 3 } }
          else s.helm) ∧
        t.thrust = (if s.isProp then
          { s.thrust with
              factor := s.factorNow, ahead := s.param Param.ratedThrust * s.factorNow / 1000,
              astern := s.param Param.ratedThrust * s.factorNow / 1000 * s.param Param.asternRatio / 1000,
              strain := s.strainFactorNow, expected := s.expectedAt s.thrust.duty }
          else s.thrust) ∧
        OnlyTouches [.clock, .station, .start, .link, .peers, .demand, .helm, .thrust, .meter, .conv, .outputs] s t) ∧
      (¬ (2008 ≤ result.toNat ∧ result.toNat ≤ 2088) →
        t.station = .failed ∧ t.trip = true ∧ t.warn = false ∧ t.comms.alerts.list = [] ∧
        t.start = { s.start with reading := none } ∧
        t.conv = { s.conv with state := .idle, latestRef := some result } ∧
        OnlyTouches [.clock, .station, .start, .alerts, .conv, .outputs] s t)

/-- R191, R16, R23, R24, R52, R61, R73, R74, R85, R87, R91, R96, R99, R100, R104, R111, R117, R120, R126, R128,
R129, R140, R143, R167, R185: the expiry of the join time takes the station to ACTIVE, a COUPLING station with a
standing request, an unbroken wire and a class of SLACK or TAUT on to STANDBY; every condition that a rule judges at
this entry is raised where its test holds, an ALERT is queued where the list then holds any entry, and the repeat
timer starts afresh. A primary helm whose view names no holder takes the con, and a helm whose view names itself
holds it (R32, R33). The order of the judgements, the COUPLING ones included, is the model's choice
(notes/assumptions/11.md, 24.md). -/
def Obligations.JoinTimeEntersActive : Prop :=
  ∀ (s : State) (dt : Micros), s.station = .joining → due s.start.joinTimer (s.later dt) = true →
    let recent := fun (moment : Option Clock) (limit : Micros) =>
      ∃ since, moment = some since ∧ elapsed (s.later dt) since < limit
    let lost := s.has .demandLost = true ∨ s.demand.record.state = .held ∨ s.demand.record.state = .decaying
    ∃ t, exec (.joinTimeExpiry dt) s = .next t ∧ t.clock = s.later dt ∧
      t.station = (if s.isCoup && s.start.request && !s.line 0 && !aboveTaut s.coup.cls then .standby else .active) ∧
      t.start = { s.start with joinTimer := none, watch := startTimer (s.later dt) (sec 1) } ∧
      (t.has .addressConflict = true ↔ s.has .addressConflict = true ∨ s.anyConflict = true) ∧
      (t.has .peerSilent = true ↔ s.has .peerSilent = true ∨
        (s.isHelm = true ∨ s.isProp = true) ∧ s.anySilentWorker = true) ∧
      (t.has .rxError = true ↔ s.has .rxError = true ∨ s.comms.link.errorMark = true) ∧
      (t.has .converterOverrun = true ↔ s.has .converterOverrun = true ∨ recent s.conv.lastOverrun 10000000) ∧
      (s.isHelm = false → (t.has .demandLost = true ↔ lost)) ∧
      t.RepeatsAfresh ∧
      (s.comms.link.queue = [] → t.comms.alerts.list ≠ [] → t.waits .alert = true) ∧
      (s.isHelm = true →
        (s.demand.view.holder = none → s.param Param.primaryHelm = 1 →
          t.helm.con = .holding ∧ t.has .demandLost = false ∧
          t.demand.view = { holder := some s.address, epoch := s.demand.view.epoch + 1 }) ∧
        (s.demand.view.holder = some s.address →
          t.helm.con = .holding ∧ t.has .demandLost = false ∧ t.demand.view = s.demand.view) ∧
        (s.demand.view.holder ≠ some s.address → s.demand.view.holder ≠ none ∨ s.param Param.primaryHelm ≠ 1 →
          t.helm = s.helm ∧ t.demand = s.demand ∧ (t.has .demandLost = true ↔ lost)) ∧
        (t.has .leverSignal = true ↔ s.has .leverSignal = true ∨ s.helm.thrustFault = true ∨
          s.helm.turnFault = true) ∧
        t.has .tankLow = t.account.anyLow ∧ t.account.low = s.account.low ∧
        (t.has .fuelDiscontinuity = true ↔ s.has .fuelDiscontinuity = true ∨ recent s.account.lastDisc 60000000) ∧
        (t.has .viewFull = true ↔ s.has .viewFull = true ∨ 48 ≤ s.view.items.length) ∧
        t.account.interval = startTimer (s.later dt) (sec (s.param Param.accountInterval)) ∧
        OnlyTouches [.clock, .station, .start, .present, .alerts, .link, .demand, .helm, .account, .view] s t) ∧
      (s.isProp = true →
        t.gear.supervised = true ∧ t.steer.supervised = true ∧
        t.gear.state = (if s.line 0 && s.line 1 then .gearFault
          else if s.line 0 || s.line 1 then .disengaging else .neutral) ∧
        (t.has .engineNotReady = true ↔ s.has .engineNotReady = true ∨ s.line 2 = false) ∧
        (t.has .gearInterlock = true ↔ s.has .gearInterlock = true ∨ s.line 0 = true ∧ s.line 1 = true) ∧
        t.has .shaftSignal = (s.gov.noPulse || (s.caps.get 0).noise) ∧
        (t.has .overspeed = true ↔ s.has .overspeed = true ∨ s.param Param.maxSpeed * 11 / 10 < s.gov.rpm) ∧
        (t.has .rudderInterlock = true ↔ s.has .rudderInterlock = true ∨ s.line 5 = true ∧ s.line 6 = true) ∧
        (s.steer.feedback = false →
          (t.has .rudderFeedback = true ↔ s.has .rudderFeedback = true ∨ s.conv.range.get 0 = some .fault)) ∧
        (t.has .returnExceeds = true ↔ s.has .returnExceeds = true ∨ s.meter.returnMark = true) ∧
        t.has .flowSignal = (s.meter.noSupply || (s.caps.get 1).noise || (s.caps.get 2).noise) ∧
        t.thrust.economy = startTimer (s.later dt) (sec 1) ∧
        t.gov.settle = (if s.line 2 then startTimer (s.later dt) (sec 5) else none) ∧
        t.meter.flowWatch = (if s.param Param.idleSpeed < s.gov.rpm then startTimer (s.later dt) (sec 30) else none) ∧
        OnlyTouches [.clock, .station, .start, .present, .alerts, .link, .thrust, .gear, .gov, .steer, .meter,
          .outputs] s t) ∧
      (s.isCoup = true →
        t.coup.supervised = true ∧ (s.line 0 = true → t.coup.cls = .parted ∧ t.has .parted = true) ∧
        (s.line 0 = false → t.coup.cls = s.coup.cls ∧ t.has .parted = s.has .parted ∧
          (t.has .strainHigh = true ↔ s.has .strainHigh = true ∨ s.coup.cls = .high) ∧
          (t.has .overload = true ↔ s.has .overload = true ∨ s.coup.cls = .overload)) ∧
        (s.line 0 = true ∨ s.coup.cls = .overload → t.coup.onset = some (s.later dt)) ∧
        (s.line 0 = false → s.coup.cls ≠ .overload → t.coup.onset = s.coup.onset) ∧
        (t.has .tensionSignal = true ↔ s.has .tensionSignal = true ∨ s.conv.range.get 0 = some .fault) ∧
        (t.station = .active → (t.coup.winch = .lockedOut ↔ s.line 1 = true ∨ s.has .winchRun = true)) ∧
        OnlyTouches [.clock, .station, .start, .present, .alerts, .link, .demand, .coup, .conv] s t)

/-- R192, R193, R149, R168: at a run of the config watch an image that agrees with its check changes nothing; one
that differs raises CONFIG_CORRUPT and takes the station to HALTED, with the safe state applied, the timers of its
units stopped, what was being sent cut with the transmit residue over the bits sent, and one ALERT queued. The
damage as an operand, the raise before the entry to HALTED, and the moment at which the transmit residue moves, are
the model's choices (notes/assumptions/21.md, 19.md, 8.md). -/
def Obligations.ConfigWatchHaltsOnCorruption : Prop :=
  ∀ (s : State) (dt : Micros) (damage : List (Nat × Word)),
    s.station.acting = true → due s.start.watch (s.later dt) = true → AlertInv s →
    let image := damageImage s.start.image damage
    ∃ t, exec (.configWatch dt damage) s = .next t ∧
      (crcBits crcSeed (wordsBits (image.take 63)) = imageWord image 63 →
        t = { s.advance dt with start := { s.start with image := image, watch := nextInterval s.start.watch } }) ∧
      (crcBits crcSeed (wordsBits (image.take 63)) ≠ imageWord image 63 →
        t.clock = s.later dt ∧ t.station = .halted ∧ t.has .configCorrupt = true ∧ t.trip = true ∧
        t.start = { s.start with image := image, joinTimer := none, watch := none } ∧
        t.comms.link.queue = [{ kind := .alert, cls := 2, entered := s.later dt, content := none }] ∧
        t.comms.link.tx = .deferring ∧ t.comms.alerts.repeatTimer = none ∧
        (∀ hand, s.comms.link.tx = .sending hand →
          let bit := (elapsed (s.later dt) hand.since + 7) / 8
          t.comms.link.txResidue = crcBits 0xFFFF ((bytesBits (frameBytes hand.frame)).take (bit - 16))) ∧
        (isSending s.comms.link.tx = false → t.comms.link.txResidue = s.comms.link.txResidue) ∧
        t.demand.timeout = none ∧ t.demand.hold = none ∧ t.demand.tick = none ∧ t.peers.sweep = none ∧
        t.helm.con = .standingBy ∧ t.helm.interval = none ∧ t.helm.requestTimer = none ∧
        t.thrust.x = 0 ∧ t.thrust.lastTarget = 0 ∧ t.thrust.duty = 0 ∧ t.gear.supervised = false ∧
        t.steer.supervised = false ∧ t.coup.supervised = false ∧ t.coup.winch = .idle ∧ t.meter.rateSeries = none ∧
        (∀ i, (t.outputs.outs.get i).Closed) ∧
        OnlyTouches [.clock, .station, .start, .present, .alerts, .link, .peers, .demand, .helm, .thrust, .gear, .gov,
          .steer, .coup, .meter, .account, .view, .outputs] s t)

/-! ## Frames received: the peer table and the con (chapters 1 and 2) -/

/-- R6 to R9, R15, R34, R53, R54, R106, R107: a PROP_STATE or STRAIN that the peer table applies writes the record,
the liveness by its STANDBY flag and the time last heard, and the roster where the entry was EMPTY, the frame
carries START or a refresh is pending. PEER_SILENT follows a change of the silent count, F is found again with the
strain cut of a fall, a HOLDING helm sets, keeps or removes the lag starts, and the slack dwell of a coupling starts
or stops with the permit. -/
def Obligations.StateFramesReplaceTheRecord : Prop :=
  (∀ (s : State) (dt : Micros) (h : RxHeader) (p : PropStateFields), s.Admits h.source .propulsion →
    let lag := if p.standby = true ∨ p.followed = s.helm.number then none
      else some ((s.helm.lag.get h.source).getD (s.later dt))
    ∃ t, exec (.propState dt h p) s = .next t ∧ t.clock = s.later dt ∧
      t.peers.entries.get h.source = some
        { body := .propulsion
            (rosterAfter h.start { rated := p.rated.toNat, side := p.side, rudder := p.rudder }
              (s.peers.entries.get h.source))
            false
            { ahead := p.ahead.toNat, astern := p.astern.toNat, setpoint := p.setpoint.toInt, gear := p.gear,
              angle := p.angle.toInt, rpm := p.rpm.toNat, fuelRate := p.fuelRate.toNat, trim := p.trim.toNat,
              followed := p.followed, trip := p.trip, warn := p.warn },
          liveness := if p.standby then .standby else .live, heard := s.later dt } ∧
      (∀ a, a ≠ h.source → t.peers.entries.get a = s.peers.entries.get a) ∧
      t.peers.conflicts = s.peers.conflicts ∧ t.peers.sweep = s.peers.sweep ∧
      (h.start = false → t.account = s.account ∧ t.view = s.view) ∧
      SilenceJudged s t ∧ StrainCut s t ∧ DwellJudged s t ∧
      (s.isHelm = true → s.helm.con = .holding →
        t.helm.lag.get h.source = lag ∧ LagsKept (fun a => a ≠ h.source) s t) ∧
      (s.isHelm = false ∨ s.helm.con ≠ .holding → t.helm = s.helm) ∧
      OnlyTouches [.clock, .present, .alerts, .link, .peers, .account, .view, .helm, .thrust, .gov, .outputs, .coup]
        s t) ∧
  (∀ (s : State) (dt : Micros) (h : RxHeader) (p : StrainFields), s.Admits h.source .coupling →
    ∃ t, exec (.strain dt h p) s = .next t ∧ t.clock = s.later dt ∧
      t.peers.entries.get h.source = some
        { body := .coupling (jointAfter h.start p.joint.toNat (s.peers.entries.get h.source)) false
            { cls := p.cls, tension := p.tension.toNat, peak := p.peak.toNat, winch := p.winch },
          liveness := if p.standby then .standby else .live, heard := s.later dt } ∧
      (∀ a, a ≠ h.source → t.peers.entries.get a = s.peers.entries.get a) ∧
      t.peers.conflicts = s.peers.conflicts ∧ t.peers.sweep = s.peers.sweep ∧
      (h.start = false → t.account = s.account ∧ t.view = s.view) ∧
      SilenceJudged s t ∧ StrainCut s t ∧
      DwellJudged s t ∧
      (s.isHelm = true → s.helm.con = .holding → LagsKept (fun _ => True) s t) ∧
      (s.isHelm = false ∨ s.helm.con ≠ .holding → t.helm = s.helm) ∧
      OnlyTouches [.clock, .present, .alerts, .link, .peers, .account, .view, .helm, .thrust, .gov, .outputs, .coup]
        s t)

/-- R6, R7, R9, R15: a frame of any other kind but ROSTER that the peer table applies is heard: the entry of its
source is as `entryHeard` says, no other entry changes, and PEER_SILENT follows a change of the silent count. -/
def Obligations.OtherFramesAreHeard : Prop :=
  ∀ (c : Instr) (dt : Micros) (f : Frame) (s : State),
    frameOf c = some (dt, f) → payloadOk f.payload = true → s.Admits f.source f.role →
    payloadKind f.payload ≠ .propState → payloadKind f.payload ≠ .strain → payloadKind f.payload ≠ .roster →
    ∃ t, exec c s = .next t ∧ t.clock = s.later dt ∧
      t.peers.entries.get f.source = entryHeard (s.later dt) f.role f.start (s.peers.entries.get f.source) ∧
      (∀ a, a ≠ f.source → t.peers.entries.get a = s.peers.entries.get a) ∧
      t.peers.conflicts = s.peers.conflicts ∧ t.peers.sweep = s.peers.sweep ∧ SilenceJudged s t

/-- R4, R5, R192: a good frame whose role conflicts with its source's entry is recorded and goes to no unit, and
raises ADDRESS_CONFLICT where the conflict list was empty; the own frame heard while SENDING is the echo; an
own-address frame otherwise raises DUPLICATE_ADDRESS and takes the station to LISTEN_ONLY, and in LISTEN_ONLY it is
discarded. The raise before the entry to LISTEN_ONLY is the model's choice, and so is the order in which RX_ERROR is
cleared before the table raises its condition (notes/assumptions/19.md, 49.md); the echo as a frame command is its
inference (14.md). -/
def Obligations.ConflictingAndOwnFrames : Prop :=
  ∀ (c : Instr) (dt : Micros) (f : Frame) (s : State),
    frameOf c = some (dt, f) → payloadOk f.payload = true → s.receives = true → s.station.taking = true →
    ∃ v t, Heard dt s v ∧ exec c s = .next t ∧
      (∀ e, f.source ≠ s.address → s.peers.entries.get f.source = some e → bodyRole e.body ≠ f.role →
        let u := { v with peers := { s.peers with
          conflicts := s.peers.conflicts.set f.source (some (s.later dt)) } }
        (s.station.reporting = true → s.anyConflict = false → Raised .addressConflict u t) ∧
        (s.station = .joining ∨ s.anyConflict = true → t = u)) ∧
      (∀ hand, f.source = s.address → s.comms.link.tx = .sending hand →
        t = { v with comms := { v.comms with link := { v.comms.link with
          tx := .sending { hand with echo := true } } } }) ∧
      (f.source = s.address → isSending s.comms.link.tx = false → s.station = .listenOnly → t = v) ∧
      (f.source = s.address → isSending s.comms.link.tx = false → s.station ≠ .listenOnly →
        t.clock = s.later dt ∧ t.station = .listenOnly ∧ t.has .duplicateAddress = true ∧
        (AlertInv s → t.trip = true) ∧ t.start = { s.start with joinTimer := none, watch := none } ∧
        t.comms.link.queue = [] ∧ t.comms.link.tx = .idle ∧ t.comms.link.txResidue = s.comms.link.txResidue ∧
        t.comms.alerts.repeatTimer = none ∧ t.helm.con = .standingBy ∧ t.helm.interval = none ∧
        t.helm.requestTimer = none ∧
        t.demand.view = s.demand.view ∧ t.thrust.x = 0 ∧ t.thrust.lastTarget = 0 ∧ t.thrust.duty = 0 ∧
        t.gear.supervised = false ∧ t.gear.state = (if s.gear.state = .gearFault then .gearFault else .neutral) ∧
        t.steer.supervised = false ∧ t.coup.supervised = false ∧ t.coup.winch = .idle ∧
        (∀ i, (t.outputs.outs.get i).Closed) ∧
        OnlyTouches [.clock, .station, .start, .present, .alerts, .link, .demand, .helm, .thrust, .gear, .gov, .steer,
          .coup, .meter, .account, .view, .outputs] s t)

/-- R11, R5, R15, R16, R34, R53, R54, R106, R107: at a sweep every LIVE entry not heard for the silence limit
becomes SILENT, every conflict item of 30,000 ms or more is removed, nothing else of the table changes, and what
follows from the table is judged again: each condition as its test comes to hold or ends, F with the strain cut of a
fall, the lag starts, and the slack dwell of a coupling by the permit. The order of the two conditions within a
sweep is the model's choice (notes/assumptions/44.md). -/
def Obligations.SweepSilencesEntries : Prop :=
  ∀ (s : State) (dt : Micros), s.station.taking = true → due s.peers.sweep (s.later dt) = true →
    ∃ t, exec (.sweep dt) s = .next t ∧ t.clock = s.later dt ∧ t.peers.sweep = nextInterval s.peers.sweep ∧
      (∀ a, s.peers.entries.get a = none → t.peers.entries.get a = none) ∧
      (∀ a e, s.peers.entries.get a = some e →
        t.peers.entries.get a = some { e with
          liveness := if e.liveness = .live ∧ ms (s.param Param.silenceLimit) ≤ elapsed (s.later dt) e.heard
            then .silent else e.liveness }) ∧
      (∀ a, t.peers.conflicts.get a =
        if aged (s.peers.conflicts.get a) (s.later dt) (ms 30000) then none else s.peers.conflicts.get a) ∧
      ConflictJudged s t ∧ SilenceJudged s t ∧ StrainCut s t ∧
      DwellJudged s t ∧
      (s.isHelm = true → s.helm.con = .holding → LagsKept (fun _ => True) s t) ∧
      (s.isHelm = false ∨ s.helm.con ≠ .holding → t.helm = s.helm) ∧
      OnlyTouches [.clock, .present, .alerts, .link, .peers, .helm, .thrust, .gov, .outputs, .coup] s t

/-- R13, R144, R5, R15, R106, R107: a ROSTER from the viewed holder under the view's epoch makes every SILENT entry
EMPTY, with its conflict item, its items of the alert view and its report mark, and ADDRESS_CONFLICT and PEER_SILENT
are judged again, and so is the slack dwell of a coupling by the permit; any other ROSTER changes no entry but its
source's. -/
def Obligations.RosterForgetsSilentEntries : Prop :=
  ∀ (s : State) (dt : Micros) (h : RxHeader) (epoch : Byte), s.Admits h.source .helm →
    ∃ t, exec (.roster dt h epoch) s = .next t ∧ t.clock = s.later dt ∧
      t.peers.entries.get h.source = entryHeard (s.later dt) .helm h.start (s.peers.entries.get h.source) ∧
      (∀ a e, a ≠ h.source → s.peers.entries.get a = some e → e.liveness = .silent →
        s.demand.view = { holder := some h.source, epoch := epoch } →
        t.peers.entries.get a = none ∧ t.peers.conflicts.get a = none ∧
        (s.isHelm = true → (∀ i ∈ t.view.items, i.station ≠ a) ∧ t.view.part0.get a = none)) ∧
      (∀ a, a ≠ h.source → (∀ e, s.peers.entries.get a = some e → e.liveness ≠ .silent) ∨
          s.demand.view ≠ { holder := some h.source, epoch := epoch } →
        t.peers.entries.get a = s.peers.entries.get a ∧ t.peers.conflicts.get a = s.peers.conflicts.get a) ∧
      ConflictJudged s t ∧ SilenceJudged s t ∧ (StrainInv s → StrainInv t) ∧ DwellJudged s t ∧
      t.demand = s.demand ∧ t.start = s.start ∧ t.station = s.station ∧
      OnlyTouches [.clock, .present, .alerts, .link, .peers, .account, .view, .helm, .thrust, .gov, .outputs, .coup]
        s t

/-- R17. The con view changes only when a candidate is preferred to it: a newer epoch, or the same epoch under a
lower address, none counting as higher than every address. It is none with epoch 0 after either reset and never
returned to none otherwise, and two claims under one epoch are settled, in either order, in favour of the lower
address. -/
def Obligations.ConViewRule : Prop :=
  (∀ (s : State) (pins : BitVec 2) (addr : Addr) (lines : BitVec 16),
    (∃ t, exec (.powerOnReset pins addr lines) s = .next t ∧ t.demand.view = { holder := none, epoch := 0 }) ∧
    (∃ t, exec (.resetLineReset pins addr lines) s = .next t ∧ t.demand.view = { holder := none, epoch := 0 })) ∧
  (∀ (v : ConView) (h : Addr) (e : Byte), preferred v h e = true ↔
    (1 ≤ (e - v.epoch).toNat ∧ (e - v.epoch).toNat ≤ 127) ∨
      (e = v.epoch ∧ ∀ k, v.holder = some k → h < k)) ∧
  (∀ (s : State) (h : Addr) (e : Byte),
    (preferred s.demand.view h e = true → (s.offerView h e).demand.view = { holder := some h, epoch := e }) ∧
    (preferred s.demand.view h e = false → s.offerView h e = s)) ∧
  (∀ (c : Instr) (s : State), isReset c = false →
    ∃ t, exec c s = .next t ∧
      (t.demand.view = s.demand.view ∨
        ∃ h e, preferred s.demand.view h e = true ∧ t.demand.view = { holder := some h, epoch := e })) ∧
  (∀ (s : State) (h k : Addr) (e : Byte), newer e s.demand.view.epoch = true → h < k →
    ((s.offerView h e).offerView k e).demand.view = { holder := some h, epoch := e } ∧
    ((s.offerView k e).offerView h e).demand.view = { holder := some h, epoch := e })

/-- R18, R31, R32: a DEMAND, a CON TAKE and a CON GRANT offer their candidate to the view. A HOLDING helm whose view
moves to another station stands by and raises CON_LOST, and a view that moves to a third station ends a request. -/
def Obligations.CandidatesMoveTheView : Prop :=
  ∀ (s : State) (dt : Micros) (h : RxHeader) (c : Instr) (target : Addr) (epoch : Byte),
    ((∃ p, c = .demand dt h p ∧ target = h.source ∧ epoch = p.epoch) ∨
      (∃ p, c = .conTake dt h p ∧ target = p.target ∧ epoch = p.epoch) ∨
      (∃ p, c = .conGrant dt h p ∧ target = p.target ∧ epoch = p.epoch)) →
    s.Admits h.source .helm →
    ∃ t, exec c s = .next t ∧ t.clock = s.later dt ∧
      t.demand.view = (if preferred s.demand.view target epoch then { holder := some target, epoch := epoch }
        else s.demand.view) ∧
      (preferred s.demand.view target epoch = true → target ≠ s.address → s.isHelm = true → s.helm.con = .holding →
        t.helm.con = .standingBy ∧ t.helm.interval = none ∧ t.helm.switchPending = false ∧
        (∀ a, t.helm.lag.get a = none) ∧ (∀ i ∈ t.view.items, i.requested = false) ∧
        (s.station.helmReporting = true → t.has .conLost = true)) ∧
      (preferred s.demand.view target epoch = true → target ≠ s.address → s.isHelm = true →
        s.helm.con = .requesting → s.helm.requestedOf ≠ some target →
        t.helm.con = .standingBy ∧ t.helm.requestTimer = none) ∧
      (preferred s.demand.view target epoch = false → t.helm.con = s.helm.con) ∧
      (preferred s.demand.view target epoch = true → s.isHelm = true → t.account.holderLow = none) ∧
      ((∃ p, c = .conTake dt h p) →
        (preferred s.demand.view target epoch = false → t.demand = s.demand) ∧ t.start = s.start ∧
        OnlyTouches [.clock, .present, .alerts, .link, .peers, .account, .view, .demand, .helm, .thrust, .gov, .outputs,
          .coup] s t)

/-- R20, R21, R106, R107, R140, R194: a DEMAND whose sender is then the viewed holder replaces the record, which is
FRESH from that moment, clears DEMAND_LOST, and with D or T other than 0 clears the standing request; any other is
discarded. The slack dwell of a coupling follows the permit that results. -/
def Obligations.DemandFromTheViewedHolder : Prop :=
  ∀ (s : State) (dt : Micros) (h : RxHeader) (p : DemandFields), s.Admits h.source .helm →
    let d : Demand :=
      { thrust := clampInt (-1000) 1000 p.thrust.toInt, turn := clampInt (-1000) 1000 p.turn.toInt, mode := p.mode,
        cap := if p.cap = 0 then none else some p.cap.toNat, stopAll := p.stopAll }
    let accepted := preferred s.demand.view h.source p.epoch = true ∨ s.demand.view.holder = some h.source
    ∃ t, exec (.demand dt h p) s = .next t ∧ t.clock = s.later dt ∧
      (accepted →
        t.demand.record = { demand := d, number := p.number, accepted := some (s.later dt), state := .fresh } ∧
        t.demand.hold = none ∧
        t.demand.timeout = (if t.station.timing then startTimer (s.later dt) (ms (s.param Param.demandTimeout))
          else none) ∧
        (s.station.reporting = true → t.has .demandLost = false) ∧
        t.start = { s.start with request := s.start.request && d.thrust == 0 && d.turn == 0 } ∧
        (s.isHelm = false → s.role ≠ none → s.start.request = true → s.station = .standby →
          d.thrust ≠ 0 ∨ d.turn ≠ 0 → t.station = .active ∧ t.RepeatsAfresh)) ∧
      (¬ accepted → t.demand = s.demand ∧ t.start = s.start ∧ t.station = s.station) ∧
      t.demand.tick = s.demand.tick ∧ DwellJudged s t ∧
      OnlyTouches [.clock, .station, .start, .present, .alerts, .link, .peers, .account, .view, .demand, .helm, .thrust,
        .gov, .outputs, .meter, .coup, .conv] s t

/-- R30: a REQUEST to a HOLDING helm is granted when its epoch is the view's and its levers stand within 50 of the
current demand: the view names the requester under the next epoch, the station stands by and a GRANT is queued;
otherwise a DECLINE is queued and the station holds. A REQUEST is ignored in any other con state or by any other
station. That a granting helm raises no CON_LOST is the model's inference (notes/assumptions/18.md), and the order
of a grant's parts its choice (39.md). -/
def Obligations.RequestIsAnswered : Prop :=
  ∀ (s : State) (dt : Micros) (h : RxHeader) (p : ConFields), s.Admits h.source .helm →
    let grants := p.epoch = s.demand.view.epoch ∧ (p.thrust.toInt - s.helm.current.thrust).natAbs ≤ 50 ∧
      (p.turn.toInt - s.helm.current.turn).natAbs ≤ 50
    let answer := fun (action : ConAction) (epoch : Byte) =>
      ({ kind := .con, cls := 1, entered := s.later dt,
         content := some (.con action
           { target := h.source, epoch := epoch, thrust := BitVec.ofInt 16 s.helm.current.thrust,
             turn := BitVec.ofInt 16 s.helm.current.turn }) } : Waiting)
    ∃ t, exec (.conRequest dt h p) s = .next t ∧ t.clock = s.later dt ∧
      (s.isHelm = true → s.station = .active → s.helm.con = .holding → p.target = s.address →
        s.comms.link.queue.length ≤ 5 →
        (grants →
          t.helm.con = .standingBy ∧
          t.demand.view = { holder := some h.source, epoch := s.demand.view.epoch + 1 } ∧
          answer .grant (s.demand.view.epoch + 1) ∈ t.comms.link.queue ∧
          t.demand.record = { s.demand.record with accepted := some (s.later dt), state := .fresh } ∧
          t.has .conLost = s.has .conLost) ∧
        (¬ grants →
          t.helm.con = .holding ∧ t.demand = s.demand ∧
          answer .decline s.demand.view.epoch ∈ t.comms.link.queue)) ∧
      (s.isHelm = false ∨ s.helm.con ≠ .holding ∨ p.target ≠ s.address →
        t.demand = s.demand ∧ t.helm.con = s.helm.con ∧ t.helm.requestTimer = s.helm.requestTimer) ∧
      t.start = s.start ∧
      OnlyTouches [.clock, .present, .alerts, .link, .peers, .account, .view, .demand, .helm, .thrust, .gov, .outputs,
        .coup] s t

/-- R31, R32, R26: a preferred GRANT to this station in ACTIVE makes it HOLDING, with the live demand under the
number after the record's; in JOINING and LISTEN_ONLY only its view moves. A DECLINE from the viewed holder ends a
request to STANDING_BY, and any other DECLINE is ignored. -/
def Obligations.GrantAndDecline : Prop :=
  (∀ (s : State) (dt : Micros) (h : RxHeader) (p : ConFields), s.Admits h.source .helm →
    ∃ t, exec (.conGrant dt h p) s = .next t ∧ t.clock = s.later dt ∧
      (s.isHelm = true → p.target = s.address → preferred s.demand.view p.target p.epoch = true →
        s.helm.con ≠ .holding → s.station = .active →
        t.helm.con = .holding ∧ t.helm.requestTimer = none ∧ t.helm.requestedOf = none ∧
        t.helm.current = s.helm.live ∧ t.helm.number = s.demand.record.number + 1 ∧
        t.helm.interval = startTimer (s.later dt) (ms (s.param Param.demandInterval)) ∧
        t.demand.record = { demand := s.helm.live, number := s.demand.record.number + 1,
                            accepted := some (s.later dt), state := .fresh } ∧
        t.demand.timeout = none ∧ t.has .conLost = false ∧ t.has .demandLost = false ∧
        (s.comms.link.queue.length ≤ 5 → t.waits .demand = true)) ∧
      (s.isHelm = true → p.target = s.address → s.helm.con ≠ .holding → s.station ≠ .active →
        t.helm.con ≠ .holding) ∧
      t.start = s.start ∧
      OnlyTouches [.clock, .present, .alerts, .link, .peers, .account, .view, .demand, .helm, .thrust, .gov, .outputs,
        .coup] s t) ∧
  (∀ (s : State) (dt : Micros) (h : RxHeader) (p : ConFields), s.Admits h.source .helm →
    ∃ t, exec (.conDecline dt h p) s = .next t ∧ t.clock = s.later dt ∧
      (s.isHelm = true → s.helm.con = .requesting → p.target = s.address → s.demand.view.holder = some h.source →
        t.helm = { s.helm with con := .standingBy, requestTimer := none, requestedOf := none }) ∧
      (s.helm.con ≠ .holding → s.helm.con ≠ .requesting ∨ p.target ≠ s.address ∨
          s.demand.view.holder ≠ some h.source → t.helm = s.helm) ∧
      t.demand = s.demand ∧ t.start = s.start ∧
      OnlyTouches [.clock, .present, .alerts, .link, .peers, .account, .view, .helm, .thrust, .gov, .outputs, .coup]
        s t)

/-- R36, R140, R194, R195, R196: a STANDBY or WAKE from the viewed holder under the view's epoch sets or clears the
standing request, a HELM keeping none; a COUPLING station in ACTIVE at SLACK or TAUT stands by at once, and a
station standing by returns to ACTIVE when its request is cleared, where its repeat timer starts afresh. The local
wake input clears it in ACTIVE and STANDBY. -/
def Obligations.StandingRequest : Prop :=
  (∀ (s : State) (dt : Micros) (h : RxHeader) (epoch : Byte), s.Admits h.source .helm → s.isHelm = false →
    ∃ t, exec (.standby dt h epoch) s = .next t ∧ t.clock = s.later dt ∧
      (s.demand.view = { holder := some h.source, epoch := epoch } →
        t.start = { s.start with request := true } ∧
        t.station = (if s.isCoup && s.station == .active && !aboveTaut s.coup.cls then .standby else s.station) ∧
        (t.station ≠ s.station →
          t.coup.winch = .idle ∧ t.coup.interval = none ∧ t.demand.timeout = none ∧ t.demand.hold = none ∧
          t.conv = { s.conv with interval := ms 1000, series := some (s.later dt - BitVec.ofNat 32 1000000) } ∧
          (s.comms.link.queue.length ≤ 6 → t.waits .strain = true))) ∧
      (s.demand.view ≠ { holder := some h.source, epoch := epoch } → t.start = s.start ∧ t.station = s.station) ∧
      t.demand.record = s.demand.record ∧ t.demand.view = s.demand.view) ∧
  (∀ (s : State) (dt : Micros) (h : RxHeader) (epoch : Byte), s.Admits h.source .helm → s.isHelm = true →
    ∃ t, exec (.standby dt h epoch) s = .next t ∧ t.start = s.start ∧ t.station = s.station) ∧
  (∀ (s : State) (dt : Micros) (h : RxHeader) (epoch : Byte), s.Admits h.source .helm → s.role ≠ none →
    ∃ t, exec (.wake dt h epoch) s = .next t ∧ t.clock = s.later dt ∧
      (s.demand.view = { holder := some h.source, epoch := epoch } →
        t.start = { s.start with request := false } ∧
        t.station = (if s.start.request && s.station == .standby && !s.isHelm then .active else s.station) ∧
        (t.station ≠ s.station → t.RepeatsAfresh) ∧
        (t.station ≠ s.station → s.isProp = true →
          t.thrust.stateSeries = startTimer (s.later dt) (ms (s.param Param.stateInterval)) ∧
          t.thrust.economy = startTimer (s.later dt) (sec 1) ∧
          t.meter.interval = startTimer (s.later dt) (sec (s.param Param.fuelInterval)) ∧
          (s.line 2 = false → t.has .engineNotReady = true) ∧
          (s.comms.link.queue.length ≤ 5 → t.waits .propState = true)) ∧
        (t.station ≠ s.station → s.isCoup = true →
          t.conv = { s.conv with interval := ms 50, series := some (s.later dt - BitVec.ofNat 32 50000) } ∧
          t.coup.interval = startTimer (s.later dt) (ms (s.param Param.strainInterval)) ∧
          (s.comms.link.queue.length ≤ 6 → t.waits .strain = true))) ∧
      (s.demand.view ≠ { holder := some h.source, epoch := epoch } → t.start = s.start ∧ t.station = s.station) ∧
      t.demand.record = s.demand.record ∧ t.demand.view = s.demand.view) ∧
  (∀ (s : State) (dt : Micros) (on : Bool), s.isProp = true ∨ s.isCoup = true →
    let i : Fin 16 := if s.isProp then 7 else 2
    ∃ t, exec (.wakeInput dt on) s = .next t ∧ t.clock = s.later dt ∧ t.lines = s.lines.set i on ∧
      (s.line i = false → on = true → s.station.acting = true →
        t.start = { s.start with request := false } ∧
        t.station = (if s.start.request then .active else s.station) ∧
        (t.station ≠ s.station → t.RepeatsAfresh)) ∧
      (s.line i = true ∨ on = false ∨ s.station.acting = false → OnlyTouches [.clock, .lines] s t) ∧
      OnlyTouches [.clock, .lines, .station, .start, .present, .alerts, .link, .demand, .thrust, .meter, .coup, .conv]
        s t)

/-! ## Frames received: fuel, alerts, acknowledgement (chapters 7 and 8) -/

/-- R124, R125, R126, R128: a FUEL at a HELM station is applied tank by tank as an advance, a restart, a wrap or a
discontinuity; the convoy totals are the sums over the records, the flags of the tanks whose total changed are
judged again, and TANK_LOW and FUEL_DISCONTINUITY follow. At any other station the account does not change. The
totals as unbounded numbers are the model's choice (notes/assumptions/27.md), and so is that in LISTEN_ONLY TANK_LOW
follows the flags at every FUEL, also at one that changes no flag (48.md); and so is that the flag of a tank whose
reserve is at or above its allowance is judged with the others at a change of its total and not before (57.md). -/
def Obligations.FuelEntersTheAccount : Prop :=
  ∀ (s : State) (dt : Micros) (h : RxHeader) (p : FuelFields), s.Admits h.source .propulsion →
    let r := s.account.records.get h.source
    let marked := r.restart || h.start
    let falls := fun k : Fin 4 => (p.totals.get k).toNat < (r.last.get k).toNat
    let wraps := fun k : Fin 4 => 3 * 2 ^ 30 ≤ (r.last.get k).toNat ∧ (p.totals.get k).toNat < 2 ^ 30
    let breaks := marked = false ∧ ∃ k, falls k ∧ ¬ wraps k
    ∃ t, exec (.fuel dt h p) s = .next t ∧ t.clock = s.later dt ∧
      (s.isHelm = true → s.station.timing = true →
        (t.account.records.get h.source).last = p.totals ∧ (t.account.records.get h.source).restart = false ∧
        (∀ k, ¬ falls k → (t.account.records.get h.source).carried.get k = r.carried.get k) ∧
        (∀ k, falls k → marked = true →
          (t.account.records.get h.source).carried.get k = r.carried.get k + (r.last.get k).toNat) ∧
        (∀ k, falls k → marked = false → wraps k →
          (t.account.records.get h.source).carried.get k = r.carried.get k + 2 ^ 32) ∧
        (∀ k, falls k → marked = false → ¬ wraps k →
          (t.account.records.get h.source).carried.get k = r.carried.get k + (r.last.get k).toNat) ∧
        (∀ a, a ≠ h.source → t.account.records.get a = s.account.records.get a) ∧
        (∀ k, t.account.totals.get k = convoyTotal t.account.records k) ∧
        (∀ k, t.account.low.get k = if t.account.totals.get k = s.account.totals.get k then s.account.low.get k
          else tankLow (s.param (Param.tankAllowance k)) (s.param (Param.tankReserve k)) (t.account.totals.get k)
            (s.account.baselines.get k)) ∧
        (breaks → t.account.lastDisc = some (s.later dt) ∧
          (s.station.helmReporting = true → t.has .fuelDiscontinuity = true)) ∧
        (¬ breaks → t.account.lastDisc = s.account.lastDisc) ∧
        (s.station.helmReporting = true → t.has .tankLow = t.account.anyLow)) ∧
      (s.isHelm = false → t.account = s.account) ∧
      t.account.baselines = s.account.baselines ∧ t.account.holderLow = s.account.holderLow ∧
      t.account.interval = s.account.interval ∧ t.demand = s.demand ∧
      OnlyTouches [.clock, .present, .alerts, .link, .peers, .account, .view, .helm, .thrust, .gov, .outputs, .coup] s t

/-- R130, R128: an ACCOUNT from the viewed holder gives a HELM station that is not HOLDING its holder flags; from
any other sender, and at any other station, it changes none. That in LISTEN_ONLY TANK_LOW follows the flags at every
ACCOUNT so taken, also at one that changes no holder flag, is the model's choice (notes/assumptions/48.md). -/
def Obligations.AccountGivesHolderFlags : Prop :=
  ∀ (s : State) (dt : Micros) (h : RxHeader) (p : AccountFields), s.Admits h.source .helm →
    let taken := s.isHelm = true ∧ s.station.timing = true ∧ s.demand.view.holder = some h.source ∧
      s.helm.con ≠ .holding
    ∃ t, exec (.account dt h p) s = .next t ∧ t.clock = s.later dt ∧
      (taken → t.account.holderLow = some p.low ∧
        (s.station.helmReporting = true → t.has .tankLow = t.account.anyLow)) ∧
      (¬ taken → t.account.holderLow = s.account.holderLow) ∧
      t.account.totals = s.account.totals ∧ t.account.low = s.account.low ∧
      t.account.baselines = s.account.baselines ∧ t.account.lastDisc = s.account.lastDisc ∧
      t.account.interval = s.account.interval ∧ (h.start = false → t.account.records = s.account.records) ∧
      t.demand = s.demand ∧
      OnlyTouches [.clock, .present, .alerts, .link, .peers, .account, .view, .helm, .thrust, .gov, .outputs, .coup] s t

/-- R143, R144, R146: what an ALERT does to a HELM station's view, for a frame whose codes differ and for which the
view has room: every reported item stands in the view as reported, with its ack flags cleared where it is new, its
occurrence has changed or it has become ACTIVE_UNACK. Otherwise its flags stand, but that a HOLDING helm whose ACK
for it has not taken effect asks again and queues an ACK. A completed report removes the items of that station it
did not carry; the items of other stations stand as they stood. A refused item raises VIEW_FULL, and a view below 48
items clears it. That a part 0 with LAST is a report by itself is the model's inference (notes/assumptions/34.md),
and that the items of a frame are taken before a completed report removes others is its choice (62.md). -/
def Obligations.AlertReportEntersTheView : Prop :=
  let afresh := fun (o : ViewItem) (r : AlertItem) =>
    o.occ ≠ r.occ ∨ (r.state = .activeUnack ∧ o.state ≠ .activeUnack)
  ∀ (s : State) (dt : Micros) (h : RxHeader) (role : Role) (p : AlertFields),
    s.Admits h.source role → p.ok = true → s.isHelm = true → s.station.timing = true →
    let again := fun (o : ViewItem) (r : AlertItem) =>
      s.helm.con = .holding ∧ h.start = false ∧ o.sent = true ∧ ¬ afresh o r ∧ r.state ≠ .activeAcked
    let asks := ∃ r ∈ p.items, ∃ o ∈ s.view.items, o.station = h.source ∧ o.code = r.code ∧ again o r
    ∃ t, exec (.alert dt h role p) s = .next t ∧ t.clock = s.later dt ∧
      t.view.items.filter (fun i => i.station != h.source) = s.view.items.filter (fun i => i.station != h.source) ∧
      t.view.part0.get h.source =
        (if p.last then none else if p.part1 then s.view.part0.get h.source
         else some (p.items.map AlertItem.code)) ∧
      (∀ a, a ≠ h.source → t.view.part0.get a = s.view.part0.get a) ∧
      (ViewInv s → (p.items.map AlertItem.code).Nodup → s.view.items.length + p.items.length ≤ 48 →
        (∀ r ∈ p.items, ∃ i ∈ t.view.items,
          i.station = h.source ∧ i.code = r.code ∧ i.state = r.state ∧ i.occ = r.occ ∧
          ((∀ o ∈ s.view.items, o.station = h.source → o.code = r.code → afresh o r) →
            i.requested = false ∧ i.sent = false) ∧
          (∀ o ∈ s.view.items, o.station = h.source → o.code = r.code → ¬ afresh o r →
            i.sent = (o.sent && !h.start) ∧
            (i.requested = true ↔ o.requested = true ∧ h.start = false ∨ again o r))) ∧
        (asks → s.station = .active → s.comms.link.queue.length ≤ 6 → t.waits .ack = true) ∧
        (¬ asks → s.waits .ack = false → t.waits .ack = false) ∧
        (s.station.helmReporting = true →
          t.has .viewFull = (s.has .viewFull && decide (48 ≤ t.view.items.length))) ∧
        (p.last = true → p.part1 = false →
          ∀ i ∈ t.view.items, i.station = h.source → i.code ∈ p.items.map AlertItem.code) ∧
        (p.last = true → p.part1 = true → ∀ codes, s.view.part0.get h.source = some codes →
          ∀ i ∈ t.view.items, i.station = h.source → i.code ∈ codes ++ p.items.map AlertItem.code) ∧
        (p.last = false ∨ (p.part1 = true ∧ s.view.part0.get h.source = none) →
          ∀ o ∈ s.view.items, o.station = h.source →
            ∃ i ∈ t.view.items, i.station = h.source ∧ i.code = o.code)) ∧
      (s.station.helmReporting = true → p.last = false → 48 ≤ s.view.items.length →
        (∃ r ∈ p.items, ∀ o ∈ s.view.items, o.station = h.source → o.code ≠ r.code) → t.has .viewFull = true) ∧
      (s.station.helmReporting = true → t.view.items.length < 48 → t.has .viewFull = false) ∧
      t.demand = s.demand ∧ t.start = s.start ∧
      OnlyTouches [.clock, .present, .alerts, .link, .peers, .account, .view, .helm, .thrust, .gov, .outputs, .coup] s t

/-- R74, R88, R102, R111, R135, R137, R138: what an ACK from the viewed holder with one item for this station does
to the entry it names: a stale one leaves it and queues an ALERT; CLEARED_UNACK is removed; ACTIVE_ACKED stands;
ACTIVE_UNACK becomes ACTIVE_ACKED, but for a latched code or CONFIG_CLAMPED in JOINING, ACTIVE and STANDBY the
condition ends and the entry is removed unless its owner raises it again as the next occurrence: OVERSPEED above the
limit, RUDDER_INTERLOCK with both senses on, PARTED with IN0 on, WINCH_RUN and CONFIG_CLAMPED never. An ACK from
another source, and items for another station, change no entry. The codes that the reception itself can move are
left aside. The order of a latched condition's end, its owner's answer and the removal is the model's choice
(notes/assumptions/25.md). -/
def Obligations.AckOfAnEntry : Prop :=
  ∀ (s : State) (dt : Micros) (h : RxHeader) (it : AckItem) (e : AlertEntry),
    s.Admits h.source .helm → occOk it.occ = true → AlertInv s → s.comms.alerts.list.length ≤ 12 →
    s.comms.link.queue.length ≤ 5 → entryOf it.code s.comms.alerts.list = some e →
    it.code ≠ .rxError → it.code ≠ .peerSilent → it.code ≠ .stationLag → it.code ≠ .txLoss →
    ∃ t, exec (.ack dt h [it]) s = .next t ∧ t.clock = s.later dt ∧
      (s.demand.view.holder ≠ some h.source ∨ it.station.toNat ≠ s.address.val →
        entryOf it.code t.comms.alerts.list = some e ∧ t.has it.code = s.has it.code) ∧
      (s.demand.view.holder = some h.source → it.station.toNat = s.address.val →
        (it.occ ≠ e.occ → entryOf it.code t.comms.alerts.list = some e ∧
          (s.station.acting = true → t.waits .alert = true)) ∧
        (it.occ = e.occ → e.state = .clearedUnack → entryOf it.code t.comms.alerts.list = none) ∧
        (it.occ = e.occ → e.state = .activeAcked → entryOf it.code t.comms.alerts.list = some e) ∧
        (it.occ = e.occ → e.state = .activeUnack →
          (latchedCode it.code = false ∧ it.code ≠ .configClamped) ∨ s.station = .listenOnly →
          entryOf it.code t.comms.alerts.list = some { e with state := .activeAcked } ∧
          t.has it.code = s.has it.code) ∧
        (it.occ = e.occ → e.state = .activeUnack → latchedCode it.code = true ∨ it.code = .configClamped →
          s.station ≠ .listenOnly →
          (t.has it.code = false → entryOf it.code t.comms.alerts.list = none) ∧
          (t.has it.code = true →
            entryOf it.code t.comms.alerts.list = some { e with occ := if e.occ = 255 then 1 else e.occ + 1 }) ∧
          (it.code = .overspeed → (t.has .overspeed = true ↔ s.param Param.maxSpeed * 11 / 10 < s.gov.rpm)) ∧
          (it.code = .rudderInterlock → (t.has .rudderInterlock = true ↔ s.line 5 = true ∧ s.line 6 = true)) ∧
          (it.code = .parted → t.has .parted = s.line 0) ∧
          (it.code = .winchRun ∨ it.code = .configClamped → t.has it.code = false)))

/-! ## The link (chapter 9) -/

/-- R147, R149, R151 to R156: every frame a station may send passes the receive checks as the frame it was, residue
0 included, and whatever passes the receive checks is a frame a station may send; R147, R158: while a station sends,
it puts each bit of the preamble, the frame and the end marker on the line in bit times of 8 µs, a 1 low and then
high, a 0 high and then low, and the end marker high and then low with no change at mid-bit; while it jams it sends
16 bit times of 1 bits; at any other moment it has released the line. That at the boundary of two halves the level
is that of the half that begins there is the model's choice (notes/assumptions/59.md). -/
def Obligations.SentFramesPassTheReceiveChecks : Prop :=
  (∀ f : Frame, frameOk f = true → receiveChecks (frameBits f) = .ok f) ∧
  (∀ (bits : List Bool) (f : Frame), receiveChecks bits = .ok f → frameOk f = true) ∧
  (∀ (s : State) (hand : InHand), s.comms.link.tx = .sending hand →
    let bytes := (payloadBytes hand.frame.payload).length
    let bit := elapsed s.clock hand.since / 8
    let second := decide (4 ≤ elapsed s.clock hand.since % 8)
    (bit < 16 → s.linkLevel = some (if bit % 2 = 0 then second else !second)) ∧
    (16 ≤ bit → bit < 56 + 8 * bytes →
      ∃ b, (frameBits hand.frame)[bit - 16]? = some b ∧ s.linkLevel = some (if b then second else !second)) ∧
    (bit = 56 + 8 * bytes → s.linkLevel = some true) ∧
    (bit = 57 + 8 * bytes → s.linkLevel = some false) ∧
    (58 + 8 * bytes ≤ bit → s.linkLevel = none)) ∧
  (∀ (s : State) (hand : InHand), s.comms.link.tx = .jamming hand →
    s.linkLevel = if elapsed s.clock hand.since < 128 then some (decide (4 ≤ elapsed s.clock hand.since % 8))
      else none) ∧
  (∀ s : State, drives s.comms.link.tx = false → s.linkLevel = none)

/-- R147, R148, R149, R156, R167: the four events of the line and the receiver. A reception begins at the first
change after quiet; quiet begins 3 bit times after the last change, not sooner, and cuts a reception; a fragment
ends a reception and is neither a good frame nor a receive error; the receive residue is seeded when the preamble of
a reception ends, and steps over every later bit, also of one that quiet cuts; a complete reception that fails a
check goes to no unit and raises RX_ERROR, or in JOINING sets the error mark. Bits that pass every check are taken
as the frame they spell. The moment at which the receive residue moves is the model's choice, the bits as an operand
its inference (notes/assumptions/8.md, 15.md); the level changes that the 3 bit times count from are those the
station can place, its choice (29.md). -/
def Obligations.ReceptionEvents : Prop :=
  let preamble := (List.replicate 8 [true, false]).flatten
  (∀ (s : State) (dt : Micros) (quiet : Clock),
    s.station.joined = true → s.comms.link.receiver = .hunting → s.comms.link.quietSince = some quiet →
    exec (.receptionStart dt) s = .next { s.advance dt with comms := { s.comms with
      link := { s.comms.link with
        receiver := .receiving, quietSince := none, lastChange := some (s.later dt) } } }) ∧
  (∀ (s : State) (dt : Micros) (bits : List Bool),
    s.station.joined = true → s.comms.link.quietSince = none → drives s.comms.link.tx = false →
    let residue := if bits.take 16 = preamble then crcBits 0xFFFF (bits.drop 16) else s.comms.link.rxResidue
    let early := ∃ change, s.comms.link.lastChange = some change ∧ elapsed (s.later dt) change < 24
    (¬ early → exec (.lineQuiet ⟨dt, bits⟩) s = .next { s.advance dt with comms := { s.comms with
      link := { s.comms.link with
        receiver := .hunting, quietSince := some (s.later dt),
        rxResidue := if s.comms.link.receiver = .receiving then residue else s.comms.link.rxResidue } } }) ∧
    (early → exec (.lineQuiet ⟨dt, bits⟩) s = .next (s.advance dt))) ∧
  (∀ (s : State) (dt : Micros) (cause : FragmentCause) (bits : List Bool),
    s.receives = true →
    let early := cause = .quiet ∧ ∃ change, s.comms.link.lastChange = some change ∧ elapsed (s.later dt) change < 24
    (early → exec (.fragment dt cause bits) s = .next (s.advance dt)) ∧
    (¬ early → exec (.fragment dt cause bits) s = .next { s.advance dt with comms := { s.comms with
      link := { s.comms.link with
        receiver := .hunting,
        rxResidue := if bits.take 16 = preamble then crcBits 0xFFFF (bits.drop 16) else s.comms.link.rxResidue,
        quietSince := if cause = .quiet ∧ drives s.comms.link.tx = false then some (s.later dt)
          else s.comms.link.quietSince } } })) ∧
  (∀ (s : State) (dt : Micros) (bits : List Bool) (check : RxCheck),
    s.receives = true → receiveChecks bits = .error check →
    let link := { s.comms.link with receiver := .hunting, rxResidue := crcBits 0xFFFF bits,
                                    quietSince := some (s.later dt) }
    let u := { s.advance dt with comms := { s.comms with link := link } }
    ∃ t, exec (.receiveError dt bits) s = .next t ∧
      (s.station = .joining → t = { u with comms := { s.comms with link := { link with errorMark := true } } }) ∧
      (s.station.reporting = true → Raised .rxError u t) ∧
      (s.station = .halted → t = u)) ∧
  (∀ (c : Instr) (dt : Micros) (f : Frame) (s : State),
    frameOf c = some (dt, f) → payloadOk f.payload = true →
    exec (.receiveError dt (frameBits f)) s = exec c s)

/-- R150. The random residue is seeded at either reset with 0x5A00 + address + 1, so two stations reset together
draw from different residues; a step shifts it left and puts the exclusive-or of bits 15, 13, 12 and 10 in bit 0; it
is stepped only at a draw, 16 times, and r is then its low bits, as many as the lesser of the collision count and 5;
the end of the jam after fewer than ten collisions is such a draw. The two worked draws of the rule are its
examples. -/
def Obligations.RandomResidue : Prop :=
  (∀ (s : State) (pins : BitVec 2) (addr : Addr) (lines : BitVec 16),
    (∃ t, exec (.powerOnReset pins addr lines) s = .next t ∧
      t.comms.link.random.toNat = 0x5A00 + addr.val + 1) ∧
    (∃ t, exec (.resetLineReset pins addr lines) s = .next t ∧
      t.comms.link.random.toNat = 0x5A00 + addr.val + 1)) ∧
  (∀ a b : Addr, a ≠ b → randomSteps 16 (BitVec.ofNat 16 (0x5A00 + a.val + 1)) ≠
    randomSteps 16 (BitVec.ofNat 16 (0x5A00 + b.val + 1))) ∧
  (∀ r : Word,
    (randomStep r).getLsbD 0 = (((r.getLsbD 15 ^^ r.getLsbD 13) ^^ r.getLsbD 12) ^^ r.getLsbD 10) ∧
    ∀ i, i < 15 → (randomStep r).getLsbD (i + 1) = r.getLsbD i) ∧
  (∀ (c : Instr) (s : State), isReset c = false →
    ∃ t, exec c s = .next t ∧
      (t.comms.link.random = s.comms.link.random ∨
        ∃ dt hand, c = .jamEnd dt ∧ s.comms.link.tx = .jamming hand ∧ hand.collisions < 10 ∧
          t.comms.link.random = randomSteps 16 s.comms.link.random ∧
          t.comms.link.tx =
            .backingOff hand (t.comms.link.random.toNat % 2 ^ min hand.collisions 5))) ∧
  (∀ (s : State) (dt : Micros) (hand : InHand), s.transmits = true → s.comms.link.tx = .jamming hand →
    128 ≤ elapsed (s.later dt) hand.since → hand.collisions < 10 →
    ∃ t, exec (.jamEnd dt) s = .next t ∧ t.comms.link.random = randomSteps 16 s.comms.link.random ∧
      t.comms.link.tx = .backingOff hand (t.comms.link.random.toNat % 2 ^ min hand.collisions 5)) ∧
  randomSteps 16 0x5A04#16 = 0xA2A7#16 ∧ randomSteps 16 0x5A05#16 = 0xA28A#16

/-- R27, R103, R121, R129, R142, R146, R166: what a frame assembled at send carries, the ALERT of a HALTED station
included, and when a DEMAND or an ACK is void. A measured speed above 65535 rpm leaves its field open, by the
model's choice (notes/assumptions/45.md). -/
def Obligations.FramesCarryLiveState : Prop :=
  ∀ (s : State) (content : Option Payload),
    (s.assemble .demand content =
      if s.isHelm = true ∧ s.helm.con = .holding then
        some (.demand { number := s.helm.number, epoch := s.demand.view.epoch,
                        thrust := BitVec.ofInt 16 s.helm.current.thrust, turn := BitVec.ofInt 16 s.helm.current.turn,
                        mode := s.helm.current.mode, cap := BitVec.ofNat 16 (s.helm.current.cap.getD 0),
                        stopAll := s.helm.current.stopAll })
      else none) ∧
    (∃ rpm, s.assemble .propState content =
      some (.propState
        { rated := BitVec.ofNat 16 (s.param Param.ratedThrust), ahead := BitVec.ofNat 16 s.thrust.ahead,
          astern := BitVec.ofNat 16 s.thrust.astern, setpoint := BitVec.ofInt 16 s.thrust.x, gear := s.gear.state,
          side := s.side, rudder := s.rudderType, angle := BitVec.ofInt 16 s.steer.angle,
          rpm := rpm, fuelRate := BitVec.ofNat 16 s.meter.rate,
          trim := BitVec.ofNat 16 s.thrust.trim, followed := s.demand.record.number,
          standby := s.station == .standby, trip := s.trip, warn := s.warn }) ∧
      (s.gov.rpm ≤ 65535 → rpm.toNat = s.gov.rpm)) ∧
    s.assemble .strain content =
      some (.strain
        { joint := BitVec.ofNat 8 (s.param Param.joint), cls := s.coup.cls,
          tension := BitVec.ofNat 16 s.coup.filtered,
          peak := BitVec.ofNat 16 (s.coup.peak.getD s.coup.filtered), winch := s.coup.winch,
          standby := s.station == .standby }) ∧
    s.assemble .fuel content =
      some (.fuel { totals := s.meter.totals, tank := BitVec.ofNat 8 (twoLine (s.line 3) (s.line 4)),
                    rate := BitVec.ofNat 16 s.meter.rate }) ∧
    (∃ totals, s.assemble .account content = some (.account { totals := totals, low := s.account.low }) ∧
      ∀ k, (totals.get k).toNat = s.account.totals.get k % 2 ^ 40) ∧
    (s.station.acting = true → ∃ a, s.assemble .alert content = some (.alert a) ∧
      a.part1 = s.comms.alerts.part1Due ∧
      a.items.map (fun i => (i.code, i.state, i.occ)) =
        (if s.comms.alerts.part1Due then s.comms.alerts.list.drop 8 else s.comms.alerts.list.take 8).map
          (fun e => (e.code, e.state, e.occ)) ∧
      (a.last = true ↔ s.comms.alerts.part1Due = true ∨ s.comms.alerts.list.length ≤ 8)) ∧
    (s.station = .halted →
      let list := s.comms.alerts.list
      let ordered := list.filter (fun e => tripClass e.code) ++ list.filter (fun e => !tripClass e.code)
      ∃ a, s.assemble .alert content = some (.alert a) ∧ a.part1 = false ∧ (a.last = true ↔ list.length ≤ 8) ∧
      a.items.map (fun i => (i.code, i.state, i.occ)) =
        (if list.length ≤ 8 then list else ordered.take 8).map (fun e => (e.code, e.state, e.occ))) ∧
    (¬ (s.isHelm = true ∧ s.helm.con = .holding ∧ ∃ i ∈ s.view.items, i.requested = true) →
      s.assemble .ack content = none) ∧
    (s.isHelm = true → s.helm.con = .holding → (∃ i ∈ s.view.items, i.requested = true) →
      s.assemble .ack content = some (.ack (((s.view.items.filter (fun i => i.requested)).take 8).map
        (fun i => { station := BitVec.ofNat 8 i.station.val, code := i.code, occ := i.occ })))) ∧
    s.assemble .con content = content ∧ s.assemble .roster content = content ∧
    s.assemble .standby content = content ∧ s.assemble .wake content = content

/-- R152, R157, R158, R161, R162, R163: once the quiet has lasted 12 + 8 × class bit times, the transmitter begins
to send the oldest frame of the least class, under the start mark; a void head is dropped and the next judged at
once. That the own receiver takes the frame from its start is the model's inference (notes/assumptions/14.md), and
the select lines as an operand are its choice (9.md). -/
def Obligations.TransmitStartSendsTheHead : Prop :=
  ∀ (s : State) (dt : Micros) (tank : BitVec 2) (before behind : List Waiting) (w : Waiting) (quiet : Clock)
    (role : Role),
    s.transmits = true → s.comms.link.tx = .deferring → s.role = some role →
    s.comms.link.queue = before ++ w :: behind → (∀ v ∈ before, w.cls < v.cls) → (∀ v ∈ behind, w.cls ≤ v.cls) →
    s.comms.link.quietSince = some quiet →
    let u := (s.advance dt).selectTank tank
    let left := before ++ behind
    let quietFor := elapsed (s.later dt) quiet
    ∃ t, exec (.transmitStart dt tank) s = .next t ∧
      (quietFor < 8 * (12 + 8 * w.cls.val) → t = u) ∧
      (∀ p, 8 * (12 + 8 * w.cls.val) ≤ quietFor → u.assemble w.kind w.content = some p →
        t.clock = s.later dt ∧ t.lines = u.lines ∧
        t.comms.link = { s.comms.link with
          queue := left,
          tx := .sending
            { frame := { start := s.comms.link.startMark, source := s.address, role := role, cls := w.cls,
                         payload := p },
              collisions := 0, since := s.later dt, assembled := s.later dt, echo := false },
          txResidue := 0xFFFF, quietSince := none, lastChange := none, receiver := .receiving } ∧
        t.coup = (if payloadKind p = .strain then { s.coup with peakSince := none } else s.coup) ∧
        t.comms.alerts.list = s.comms.alerts.list ∧ t.comms.alerts.part1Due = s.comms.alerts.part1Due ∧
        OnlyTouches [.clock, .lines, .coup, .alerts, .link] s t) ∧
      (8 * (12 + 8 * w.cls.val) ≤ quietFor → u.assemble w.kind w.content = none → left = [] →
        t = { u with comms := { s.comms with link := { s.comms.link with queue := [], tx := .idle } } }) ∧
      (8 * (12 + 8 * w.cls.val) ≤ quietFor → u.assemble w.kind w.content = none → left ≠ [] →
        exec (.transmitStart dt tank)
          { s with comms := { s.comms with link := { s.comms.link with queue := left } } } = .next t)

/-- R149, R158, R159, R160, R163, R167: a collision in bit times 1 to 40 jams and counts; the end of the jam
releases the line and draws a backoff, or at the tenth collision discards the frame as a loss; the backoff ends in a
new attempt once the quiet has lasted the gap and the slots, or is given up where the frame is void. The moment at
which the transmit residue moves, the count of bit times, the own receiver's taking of the frame from its start, and
the select lines as an operand, are the model's (notes/assumptions/8.md, 42.md, 14.md, 9.md). That TX_LOSS and its
ALERT come before the owner is told and the next ACK is queued is its choice (49.md, 12.md), and so is that the
release of the line is the level change from which the next quiet counts (29.md). -/
def Obligations.CollisionAndBackoff : Prop :=
  (∀ (s : State) (dt : Micros) (hand : InHand), s.transmits = true → s.comms.link.tx = .sending hand →
    let bit := (elapsed (s.later dt) hand.since + 7) / 8
    1 ≤ bit → bit ≤ 40 →
    exec (.collision dt) s = .next { s.advance dt with comms := { s.comms with link := { s.comms.link with
      tx := .jamming { hand with collisions := hand.collisions + 1, since := s.later dt },
      txResidue := crcBits 0xFFFF ((bytesBits (frameBytes hand.frame)).take (bit - 16)) } } }) ∧
  (∀ (s : State) (dt : Micros) (hand : InHand), s.transmits = true → s.comms.link.tx = .jamming hand →
    128 ≤ elapsed (s.later dt) hand.since →
    let r := randomSteps 16 s.comms.link.random
    let u := { s.advance dt with comms := { s.comms with link := { s.comms.link with
      tx := if s.comms.link.queue = [] then .idle else .deferring, lastLoss := some (s.later dt),
      lastChange := some (s.later dt) } } }
    ∃ t, exec (.jamEnd dt) s = .next t ∧
      (hand.collisions < 10 →
        t = { s.advance dt with comms := { s.comms with link := { s.comms.link with
          random := r, tx := .backingOff hand (r.toNat % 2 ^ min hand.collisions 5),
          lastChange := some (s.later dt) } } }) ∧
      (10 ≤ hand.collisions → s.station = .halted → t = u) ∧
      (10 ≤ hand.collisions → s.station.acting = true →
        ∃ v, Raised .txLoss u v ∧
          (payloadKind hand.frame.payload ≠ .alert → payloadKind hand.frame.payload ≠ .ack → t = v) ∧
          (∀ a, hand.frame.payload = .alert a →
            t = { v with comms := { v.comms with alerts := { v.comms.alerts with
              part1Due := !a.part1 && v.comms.alerts.part1Due } } }) ∧
          (∀ items, hand.frame.payload = .ack items → v.QueueFree →
            ((s.isHelm = true ∧ s.helm.con = .holding ∧ ∃ i ∈ s.view.items, i.requested = true) →
              Queued { kind := .ack, cls := 2, entered := s.later dt, content := none } v t) ∧
            (¬ (s.isHelm = true ∧ s.helm.con = .holding ∧ ∃ i ∈ s.view.items, i.requested = true) → t = v)))) ∧
  (∀ (s : State) (dt : Micros) (tank : BitVec 2) (hand : InHand) (slots : Nat) (quiet : Clock) (role : Role),
    s.transmits = true → s.role = some role → s.comms.link.tx = .backingOff hand slots →
    s.comms.link.quietSince = some quiet →
    let u := (s.advance dt).selectTank tank
    let quietFor := elapsed (s.later dt) quiet
    let gap := 8 * (12 + 8 * hand.frame.cls.val + 40 * slots)
    let again := u.assemble (payloadKind hand.frame.payload) (some hand.frame.payload)
    ∃ t, exec (.backoffEnd dt tank) s = .next t ∧
      (quietFor < gap → t = u) ∧
      (gap ≤ quietFor → again = none →
        t = { u with comms := { s.comms with link := { s.comms.link with
          tx := if s.comms.link.queue = [] then .idle else .deferring } } }) ∧
      (∀ p, gap ≤ quietFor → again = some p →
        t.clock = s.later dt ∧ t.lines = u.lines ∧
        t.comms.link = { s.comms.link with
          tx := .sending
            { frame := { start := s.comms.link.startMark, source := s.address, role := role,
                         cls := hand.frame.cls, payload := p },
              collisions := hand.collisions, since := s.later dt, assembled := s.later dt, echo := false },
          txResidue := 0xFFFF, quietSince := none, lastChange := none, receiver := .receiving } ∧
        OnlyTouches [.clock, .lines, .coup, .alerts, .link] s t))

/-- R103, R104, R142, R146, R160, R161, R167: a fault after bit time 40 abandons the frame in hand and raises
TX_FAULT; a sent end, which waits for the echo and the end marker, clears the start mark and TX_FAULT. Each end
tells the owner: a STRAIN sent moves the peak on and ends an onset older than its assembly, an ALERT sent without
LAST makes part 1 due, an ACK sent marks its items, and either end of an ACK queues the next. The moment at which
the transmit residue moves is the model's choice (notes/assumptions/8.md), and so is that TX_FAULT and its ALERT
come before the owner is told and the next ACK or ALERT is queued (49.md, 12.md); the onset of the same microsecond
and the count of bit times are its inferences (31.md, 42.md). -/
def Obligations.TransmissionEnds : Prop :=
  (∀ (s : State) (dt : Micros) (hand : InHand), s.transmits = true → s.comms.link.tx = .sending hand →
    let bit := (elapsed (s.later dt) hand.since + 7) / 8
    40 < bit → bit ≤ 58 + 8 * (payloadBytes hand.frame.payload).length →
    let u := { s.advance dt with comms := { s.comms with link := { s.comms.link with
      tx := if s.comms.link.queue = [] then .idle else .deferring,
      txResidue := crcBits 0xFFFF ((bytesBits (frameBytes hand.frame)).take (bit - 16)) } } }
    ∃ t, exec (.transmitFault dt) s = .next t ∧
      (s.station = .halted → t = u) ∧
      (s.station.acting = true →
        ∃ v, Raised .txFault u v ∧
          (payloadKind hand.frame.payload ≠ .alert → payloadKind hand.frame.payload ≠ .ack → t = v) ∧
          (∀ a, hand.frame.payload = .alert a →
            t = { v with comms := { v.comms with alerts := { v.comms.alerts with
              part1Due := !a.part1 && v.comms.alerts.part1Due } } }) ∧
          (∀ items, hand.frame.payload = .ack items → v.QueueFree →
            ((s.isHelm = true ∧ s.helm.con = .holding ∧ ∃ i ∈ s.view.items, i.requested = true) →
              Queued { kind := .ack, cls := 2, entered := s.later dt, content := none } v t) ∧
            (¬ (s.isHelm = true ∧ s.helm.con = .holding ∧ ∃ i ∈ s.view.items, i.requested = true) → t = v)))) ∧
  (∀ (s : State) (dt : Micros) (hand : InHand), s.transmits = true → s.comms.link.tx = .sending hand →
    hand.echo = true →
    8 * (58 + 8 * (payloadBytes hand.frame.payload).length) ≤ elapsed (s.later dt) hand.since →
    let u := { s.advance dt with comms := { s.comms with link := { s.comms.link with
      startMark := false, txResidue := frameCheck hand.frame,
      tx := if s.comms.link.queue = [] then .idle else .deferring } } }
    ∃ t, exec (.sentEnd dt) s = .next t ∧
      (s.station = .halted → t = u) ∧
      (s.station.acting = true →
        ∃ v, Ended .txFault u v ∧
          (payloadKind hand.frame.payload ∉ [.strain, .alert, .ack, .roster] → t = v) ∧
          (payloadKind hand.frame.payload = .strain →
            t = { v with coup := { s.coup with
              peak := s.coup.peakSince,
              onset := s.coup.onset.filter (fun mark =>
                decide (elapsed (s.later dt) mark ≤ elapsed (s.later dt) hand.assembled)) } }) ∧
          (∀ a, hand.frame.payload = .alert a →
            let due := !a.part1 && (!a.last || v.comms.alerts.part1Due)
            let w := { v with comms := { v.comms with alerts := { v.comms.alerts with part1Due := due } } }
            let more := (a.part1 && v.comms.alerts.changed) || (!a.part1 && !a.last)
            let trips := v.comms.alerts.list.any (fun e => tripClass e.code && e.state == .activeUnack)
            (more = true → v.QueueFree →
              Queued { kind := .alert, cls := if trips then 2 else 3, entered := s.later dt, content := none } w t) ∧
            (more = false → t = w)) ∧
          (∀ items, hand.frame.payload = .ack items →
            let marked := s.view.items.map (fun i =>
              if items.any (fun r => r.station.toNat == i.station.val && r.code == i.code && r.occ == i.occ)
              then { i with requested := false, sent := true } else i)
            let w := { v with view := { s.view with items := marked } }
            ((s.isHelm = true ∧ s.helm.con = .holding ∧ ∃ i ∈ marked, i.requested = true) → v.QueueFree →
              Queued { kind := .ack, cls := 2, entered := s.later dt, content := none } w t) ∧
            (¬ (s.isHelm = true ∧ s.helm.con = .holding ∧ ∃ i ∈ marked, i.requested = true) → t = w)) ∧
          (payloadKind hand.frame.payload = .roster → ConflictJudged v t ∧ SilenceJudged v t ∧
            (∀ a e, s.peers.entries.get a = some e → e.liveness = .silent →
              t.peers.entries.get a = none ∧ t.peers.conflicts.get a = none) ∧
            (∀ a, (∀ e, s.peers.entries.get a = some e → e.liveness ≠ .silent) →
              t.peers.entries.get a = s.peers.entries.get a ∧
              t.peers.conflicts.get a = s.peers.conflicts.get a))))

/-- R27, R104, R121, R129, R140, R141, R166: at each expiry of its series a unit queues its report and the next
interval counts from the end of the last; the alert unit's repeat timer starts afresh. The restart of the repeat
timer at the expiry's own moment is the model's choice, and so is an interval whose length stays as its series was
started (notes/assumptions/16.md, 52.md); the series without drift is its inference (43.md). -/
def Obligations.IntervalsQueueTheirReports : Prop :=
  (∀ (s : State) (dt : Micros), s.isHelm = true → s.station.acting = true → s.helm.con = .holding →
    due s.helm.interval (s.later dt) = true → s.QueueFree →
    ∃ t, exec (.demandIntervalExpiry dt) s = .next t ∧
      Queued { kind := .demand, cls := 1, entered := s.later dt, content := none }
        { s.advance dt with helm := { s.helm with interval := nextInterval s.helm.interval } } t) ∧
  (∀ (s : State) (dt : Micros), s.isProp = true → s.station = .active →
    due s.thrust.stateSeries (s.later dt) = true → s.QueueFree →
    ∃ t, exec (.stateIntervalExpiry dt) s = .next t ∧
      Queued { kind := .propState, cls := 2, entered := s.later dt, content := none }
        { s.advance dt with thrust := { s.thrust with stateSeries := nextInterval s.thrust.stateSeries } } t) ∧
  (∀ (s : State) (dt : Micros), s.isCoup = true → s.station = .active →
    due s.coup.interval (s.later dt) = true → s.QueueFree →
    ∃ t, exec (.strainIntervalExpiry dt) s = .next t ∧
      Queued { kind := .strain, cls := if s.coup.onset = none then 2 else 0, entered := s.later dt, content := none }
        { s.advance dt with coup := { s.coup with interval := nextInterval s.coup.interval } } t) ∧
  (∀ (s : State) (dt : Micros), s.isProp = true → s.station = .active →
    due s.meter.interval (s.later dt) = true → s.QueueFree →
    ∃ t, exec (.fuelIntervalExpiry dt) s = .next t ∧
      Queued { kind := .fuel, cls := 3, entered := s.later dt, content := none }
        { s.advance dt with meter := { s.meter with interval := nextInterval s.meter.interval } } t) ∧
  (∀ (s : State) (dt : Micros), s.isHelm = true → s.station = .active →
    due s.account.interval (s.later dt) = true → s.QueueFree →
    ∃ t, exec (.accountIntervalExpiry dt) s = .next t ∧
      Queued { kind := .account, cls := 3, entered := s.later dt, content := none }
        { s.advance dt with account := { s.account with interval := nextInterval s.account.interval } } t) ∧
  (∀ (s : State) (dt : Micros), s.station.acting = true →
    due s.comms.alerts.repeatTimer (s.later dt) = true → s.QueueFree →
    let trips := s.comms.alerts.list.any (fun e => tripClass e.code && e.state == .activeUnack)
    ∃ t, exec (.repeatTimerExpiry dt) s = .next t ∧
      Queued { kind := .alert, cls := if trips then 2 else 3, entered := s.later dt, content := none }
        { s.advance dt with comms := { s.comms with alerts := { s.comms.alerts with
          repeatTimer := startTimer (s.later dt) (sec 5) } } } t)

/-- R132, R140, R141, R162 to R165, R167: what a frame offered to a queue of 8 does: a coalesced one leaves the
station as it was; one below some waiting frame's class takes the place of the youngest frame of the greatest class;
any other is discarded. Either discard is a loss, whose time is set. A first loss raises TX_LOSS, and the change of
the list that this brings moves a waiting ALERT to its class, or offers an ALERT to the queue that is still full,
with no further condition. That TX_LOSS comes after the frame's own place in the queue is the model's choice
(notes/assumptions/49.md, 12.md). -/
def Obligations.FullQueueLosesAFrame : Prop :=
  ∀ (s : State) (w : Waiting), s.station.acting = true → s.comms.link.queue.length = 8 →
    let q := s.comms.link.queue
    let t := { s with comms := s.comms.offer s.station s.clock w }
    (coalescing w.kind = true ∧ s.waits w.kind = true → t.comms.link.queue = q ∧ t.comms.present = s.comms.present ∧
      t.comms.alerts = s.comms.alerts ∧ t.comms.link.lastLoss = s.comms.link.lastLoss) ∧
    (¬ (coalescing w.kind = true ∧ s.waits w.kind = true) →
      ∃ r, FullOffer w q r ∧ t.comms.link.lastLoss = some s.clock ∧ t.has .txLoss = true ∧
      (∀ d, d ≠ .txLoss → t.has d = s.has d) ∧
      (s.has .txLoss = true → t.comms.alerts = s.comms.alerts ∧ t.comms.link.queue = r) ∧
      (s.has .txLoss = false →
        let l := raiseList .txLoss s.comms.alerts.list
        let trips := l.any (fun e => tripClass e.code && e.state == .activeUnack)
        let moved := r.map (fun x => if trips && x.kind == .alert && x.cls == 3 then { x with cls := 2 } else x)
        let alert : Waiting := { kind := .alert, cls := if trips then 2 else 3, entered := s.clock, content := none }
        t.comms.alerts.list = l ∧ t.comms.alerts.part1Due = s.comms.alerts.part1Due ∧
        (l = s.comms.alerts.list → t.comms.link.queue = r) ∧
        (l ≠ s.comms.alerts.list → r.any (fun x => x.kind == .alert) = true → t.comms.link.queue = moved) ∧
        (l ≠ s.comms.alerts.list → r.any (fun x => x.kind == .alert) = false →
          FullOffer alert r t.comms.link.queue)))

/-! ## Timed conditions, the demand unit and the helm's inputs (chapters 2, 5, 7 and 9) -/

/-- R34, R84, R90, R120, R126, R167, R185: the conditions that come to hold, or end, when a time they are held for
has passed. -/
def Obligations.TimedConditions : Prop :=
  (∀ (s : State) (dt : Micros) (since : Clock), s.station.reporting = true → s.comms.link.lastLoss = some since →
    10000000 ≤ elapsed (s.later dt) since →
    ∃ t, exec (.txLossExpiry dt) s = .next t ∧ Ended .txLoss (s.advance dt) t) ∧
  (∀ (s : State) (dt : Micros) (since : Clock), s.station.reporting = true → s.conv.lastOverrun = some since →
    10000000 ≤ elapsed (s.later dt) since →
    ∃ t, exec (.overrunExpiry dt) s = .next t ∧ Ended .converterOverrun (s.advance dt) t) ∧
  (∀ (s : State) (dt : Micros) (since : Clock), s.isHelm = true → s.station.helmReporting = true →
    s.account.lastDisc = some since → 60000000 ≤ elapsed (s.later dt) since →
    ∃ t, exec (.fuelDiscontinuityExpiry dt) s = .next t ∧ Ended .fuelDiscontinuity (s.advance dt) t) ∧
  (∀ (s : State) (dt : Micros) (a : Addr) (since : Clock), s.isHelm = true → s.helm.con = .holding →
    s.helm.lag.get a = some since → 2000000 ≤ elapsed (s.later dt) since →
    ∃ t, exec (.stationLag dt) s = .next t ∧ Raised .stationLag (s.advance dt) t) ∧
  (∀ (s : State) (dt : Micros) (since : Clock), s.isProp = true → s.steer.supervised = true →
    s.station.acting = true → s.steer.deviation = some since → 5000000 ≤ elapsed (s.later dt) since →
    ∃ t, exec (.rudderSpread dt) s = .next t ∧ Raised .rudderSpread (s.advance dt) t) ∧
  (∀ (s : State) (dt : Micros), s.isProp = true → s.steer.supervised = true → s.station.acting = true →
    due s.steer.followTimer (s.later dt) = true →
    ∃ t, exec (.rudderFollowTimerExpiry dt) s = .next t ∧
      Raised .rudderFollow { s.advance dt with steer := { s.steer with followTimer := none } } t) ∧
  (∀ (s : State) (dt : Micros), s.isProp = true → s.station.acting = true →
    due s.meter.flowWatch (s.later dt) = true →
    ∃ t, exec (.flowWatchExpiry dt) s = .next t ∧
      Raised .flowSignal { s.advance dt with meter := { s.meter with noSupply := true, flowWatch := none } } t)

/-- R21, R23, R106, R108: at the demand timeout a FRESH record becomes HELD and its hold time starts, or with a hold
time of 0 DECAYING; at the end of the hold time a HELD record becomes DECAYING, which ends a heave. -/
def Obligations.DemandTimersAgeTheRecord : Prop :=
  (∀ (s : State) (dt : Micros), s.station.timing = true → s.demand.record.state = .fresh →
    due s.demand.timeout (s.later dt) = true →
    let hold := s.param Param.holdTime
    let u := { s.advance dt with demand := { s.demand with
      record := { s.demand.record with state := if hold = 0 then .decaying else .held }, timeout := none,
      hold := if hold = 0 then none else startTimer (s.later dt) (sec hold) } }
    ∃ t, exec (.demandTimeoutExpiry dt) s = .next t ∧ t.clock = s.later dt ∧ t.demand = u.demand ∧
      (s.isCoup = false → s.station.reporting = true → Raised .demandLost u t) ∧
      (s.station.reporting = true → t.has .demandLost = true) ∧
      (s.isCoup = false → s.station = .joining → t = u) ∧
      (s.station = .joining → OnlyTouches [.clock, .demand] s t) ∧
      OnlyTouches [.clock, .demand, .present, .alerts, .link, .coup] s t) ∧
  (∀ (s : State) (dt : Micros), s.station.timing = true → s.demand.record.state = .held →
    due s.demand.hold (s.later dt) = true →
    let u := { s.advance dt with demand := { s.demand with
      record := { s.demand.record with state := .decaying }, timeout := none, hold := none } }
    ∃ t, exec (.holdTimeExpiry dt) s = .next t ∧ t.clock = s.later dt ∧ t.demand = u.demand ∧
      (s.isCoup = false → t = u) ∧
      (s.isCoup = true → s.coup.supervised = true → s.station = .active → s.coup.winch = .heaving →
        t = { u with coup := { s.coup with winch := .idle, dwellTimer := none, runTimer := none,
                                           settleTimer := none } }) ∧
      OnlyTouches [.clock, .demand, .coup] s t)

/-- R28, R29, R31, R33, R179: the con request input turning on in ACTIVE and STANDING_BY claims by TAKE where the
viewed holder is silent and by REQUEST otherwise; it does nothing else. At the end of its 3 s a REQUEST to a silent
holder becomes a TAKE, and any other ends. Outside the safe state the con lamp DO0 of a HELM station is on just in
HOLDING and the requesting lamp DO1 just in REQUESTING; no other line of it is on. -/
def Obligations.ConClaims : Prop :=
  let silent := fun (s : State) (now : Clock) =>
    s.demand.view.holder = none ∨ ∃ h, s.demand.view.holder = some h ∧ h ≠ s.address ∧
      ∀ e, s.peers.entries.get h = some e →
        e.liveness = .silent ∨ sec (s.param Param.conTimeout) ≤ elapsed now e.heard
  let heard := fun (s : State) (now : Clock) (h : Addr) =>
    s.demand.view.holder = some h ∧ h ≠ s.address ∧
      ∃ e, s.peers.entries.get h = some e ∧ e.liveness ≠ .silent ∧
        elapsed now e.heard < sec (s.param Param.conTimeout)
  let takes := fun (s t : State) (dt : Micros) =>
    t.helm.con = .holding ∧ t.helm.requestTimer = none ∧ t.helm.requestedOf = none ∧
    t.demand.view = { holder := some s.address, epoch := s.demand.view.epoch + 1 } ∧
    t.helm.current = s.helm.live ∧ t.helm.number = s.demand.record.number + 1 ∧
    t.demand.record = { demand := s.helm.live, number := s.demand.record.number + 1, accepted := some (s.later dt),
                        state := .fresh } ∧
    t.helm.interval = startTimer (s.later dt) (ms (s.param Param.demandInterval)) ∧ t.account.holderLow = none ∧
    (s.station = .active → t.has .conLost = false ∧ t.has .demandLost = false) ∧
    (s.station = .active → s.comms.link.queue.length ≤ 4 → t.waits .demand = true ∧
      ({ kind := .con, cls := 1, entered := s.later dt,
         content := some (.con .take
           { target := s.address, epoch := s.demand.view.epoch + 1, thrust := BitVec.ofInt 16 s.helm.live.thrust,
             turn := BitVec.ofInt 16 s.helm.live.turn }) } : Waiting) ∈ t.comms.link.queue)
  (∀ (s : State) (dt : Micros) (on : Bool), s.isHelm = true →
    let claims := s.line 0 = false ∧ on = true ∧ s.station = .active ∧ s.helm.con = .standingBy
    ∃ t, exec (.conRequestInput dt on) s = .next t ∧ t.clock = s.later dt ∧ t.lines = s.lines.set 0 on ∧
      (claims → silent s (s.later dt) → takes s t dt) ∧
      (∀ h, claims → heard s (s.later dt) h → s.QueueFree →
        Queued
          { kind := .con, cls := 1, entered := s.later dt,
            content := some (.con .request
              { target := h, epoch := s.demand.view.epoch, thrust := BitVec.ofInt 16 s.helm.live.thrust,
                turn := BitVec.ofInt 16 s.helm.live.turn }) }
          { s.advance dt with
            lines := s.lines.set 0 on,
            helm := { s.helm with con := .requesting, requestTimer := startTimer (s.later dt) (sec 3),
                                  requestedOf := some h } }
          t) ∧
      (¬ claims → OnlyTouches [.clock, .lines] s t) ∧
      OnlyTouches [.clock, .lines, .present, .alerts, .link, .demand, .helm, .account, .view] s t) ∧
  (∀ (s : State) (dt : Micros), s.isHelm = true → s.helm.con = .requesting →
    due s.helm.requestTimer (s.later dt) = true →
    ∃ t, exec (.requestTimerExpiry dt) s = .next t ∧ t.clock = s.later dt ∧
      (silent s (s.later dt) → takes s t dt) ∧
      (∀ h, heard s (s.later dt) h →
        t = { s.advance dt with helm := { s.helm with con := .standingBy, requestTimer := none,
                                                      requestedOf := none } }) ∧
      OnlyTouches [.clock, .present, .alerts, .link, .demand, .helm, .account, .view] s t) ∧
  (∀ s : State, s.isHelm = true →
    (s.discrete 0 = true ↔ s.station.safe = false ∧ s.helm.con = .holding) ∧
    (s.discrete 1 = true ↔ s.station.safe = false ∧ s.helm.con = .requesting) ∧
    ∀ i : Fin 8, 1 < i.val → s.discrete i = false)

/-- R25, R26, R34: a change of the helm switches reads the mode, the economy cap and STOP_ALL into the live demand,
and a HOLDING helm whose live demand then differs enough renumbers it, with the lag starts of the entries; R35, R36:
the standby switch queues a STANDBY or a WAKE, or stays pending, and the roster clear input queues a ROSTER. That
the switches are read in every state from JOINING entry on is the model's inference (notes/assumptions/28.md), and
that several lines changing at one moment are read and tested once, and that a renumbering sets the lag start of an
entry that returned to LIVE in step with the old number, are its choices (61.md, 36.md). -/
def Obligations.HelmSwitches : Prop :=
  (∀ (s : State) (dt : Micros) (mode economy : BitVec 2) (stopAll : Bool),
    s.isHelm = true → s.station.joined = true →
    let level := economy.toNat
    let live := { s.helm.live with
      mode := if mode = 0 then .normal else if mode = 1 then .flanking else .midship,
      cap := if level = 0 then none
        else if s.param (Param.economyCap (level - 1)) = 0 then none
        else some (s.param (Param.economyCap (level - 1))),
      stopAll := stopAll }
    let c := s.helm.current
    let differs := 5 ≤ (live.thrust - c.thrust).natAbs ∨ 5 ≤ (live.turn - c.turn).natAbs ∨ live.mode ≠ c.mode ∨
      live.cap ≠ c.cap ∨ live.stopAll ≠ c.stopAll
    ∃ t, exec (.helmSwitchChange dt mode economy stopAll) s = .next t ∧ t.clock = s.later dt ∧
      t.line 3 = stopAll ∧ t.line 4 = mode.getLsbD 0 ∧ t.line 5 = mode.getLsbD 1 ∧
      t.line 6 = economy.getLsbD 0 ∧ t.line 7 = economy.getLsbD 1 ∧
      (∀ i : Fin 16, i.val < 3 ∨ 7 < i.val → t.line i = s.line i) ∧
      (t.lines = s.lines → OnlyTouches [.clock] s t) ∧
      (t.lines ≠ s.lines → t.helm.live = live) ∧
      (t.lines ≠ s.lines → s.helm.con ≠ .holding ∨ ¬ differs →
        t = { s.advance dt with lines := t.lines, helm := { s.helm with live := live } }) ∧
      (t.lines ≠ s.lines → s.helm.con = .holding → differs →
        t.helm.con = .holding ∧ t.helm.current = live ∧ t.helm.number = s.helm.number + 1 ∧
        t.demand.record = { demand := live, number := s.helm.number + 1, accepted := some (s.later dt),
                            state := .fresh } ∧
        t.demand.view = s.demand.view ∧ LagsRenumbered s t ∧
        (s.station.acting = true → s.QueueFree → t.waits .demand = true)) ∧
      OnlyTouches [.clock, .lines, .present, .alerts, .link, .demand, .helm] s t) ∧
  (∀ (s : State) (dt : Micros) (on : Bool), s.isHelm = true →
    let acts := s.station = .active ∧ s.helm.con = .holding
    let still := s.helm.current.thrust = 0 ∧ s.helm.current.turn = 0
    let u := { s.advance dt with lines := s.lines.set 2 on }
    let off := { u with helm := { s.helm with switchPending := false, standbyQueued := false } }
    ∃ t, exec (.standbySwitch dt on) s = .next t ∧
      (acts → s.line 2 = false → on = true → still → s.QueueFree →
        Queued { kind := .standby, cls := 1, entered := s.later dt, content := some (.standby s.demand.view.epoch) }
          { u with helm := { s.helm with switchPending := false, standbyQueued := true } } t) ∧
      (acts → s.line 2 = false → on = true → ¬ still →
        t = { u with helm := { s.helm with switchPending := true, standbyQueued := false } }) ∧
      (acts → s.line 2 = true → on = false → s.helm.standbyQueued = true → s.QueueFree →
        Queued { kind := .wake, cls := 1, entered := s.later dt, content := some (.wake s.demand.view.epoch) }
          off t) ∧
      (acts → s.line 2 = true → on = false → s.helm.standbyQueued = false → t = off) ∧
      (¬ acts ∨ s.line 2 = on → t = u)) ∧
  (∀ (s : State) (dt : Micros) (on : Bool), s.isHelm = true →
    let acts := s.line 12 = false ∧ on = true ∧ s.station = .active ∧ s.helm.con = .holding
    let u := { s.advance dt with lines := s.lines.set 12 on }
    ∃ t, exec (.rosterClearInput dt on) s = .next t ∧
      (acts → s.QueueFree →
        Queued { kind := .roster, cls := 2, entered := s.later dt, content := some (.roster s.demand.view.epoch) }
          u t) ∧
      (¬ acts → t = u))

/-- R127, R128: a tank-filled input turning on in ACTIVE makes the tank's convoy total its baseline, so that its
flag is set only where an allowance stands no higher than its reserve, and TANK_LOW follows the flags; at any other
change only the line moves. That such a flag is judged at a change of the total or a fill and not before is the
model's choice (notes/assumptions/57.md). -/
def Obligations.TankFillsSetTheBaseline : Prop :=
  ∀ (s : State) (dt : Micros) (tank : Fin 4) (on : Bool), s.isHelm = true →
    let i : Fin 16 := Fin.ofNat 16 (8 + tank.val)
    let fills := s.line i = false ∧ on = true ∧ s.station = .active
    let allowance := s.param (Param.tankAllowance tank)
    let account := { s.account with
      baselines := s.account.baselines.set tank (s.account.totals.get tank),
      low := s.account.low.set tank (decide (allowance ≠ 0 ∧ allowance ≤ s.param (Param.tankReserve tank))) }
    let anyLow := (∃ k, account.low.get k = true) ∨ ∃ flags k, account.holderLow = some flags ∧ flags.get k = true
    let u := { s.advance dt with lines := s.lines.set i on }
    ∃ t, exec (.tankFilledInput dt tank on) s = .next t ∧
      (fills → anyLow → Raised .tankLow { u with account := account } t) ∧
      (fills → ¬ anyLow → Ended .tankLow { u with account := account } t) ∧
      (¬ fills → t = u)

/-- R70, R74, R88, R102, R111, R135, R136, R137, R145: the local acknowledge input turning on. In LISTEN_ONLY and
HALTED, and in ACTIVE and STANDBY where no unacknowledged entry is of a latched code or CONFIG_CLAMPED, every
ACTIVE_UNACK entry becomes ACTIVE_ACKED, every CLEARED_UNACK entry leaves and no condition changes. The end of a
latched gear condition frees the gear or raises it anew by the feedbacks; that of OVERSPEED raises it anew above the
limit or finds availability again; that of RUDDER_INTERLOCK raises it anew with both senses on or takes the cause
away; that of PARTED raises it anew with IN0 on or judges the class afresh (and a standing request with it, R196);
that of WINCH_RUN lets the winch go once IN1 is off. A HOLDING helm requests every unacknowledged item of its view.
At any other change only the line moves. The order of the entries and of their owners' answers is the model's choice
(notes/assumptions/25.md). -/
def Obligations.LocalAcknowledgement : Prop :=
  let acked := fun (l : List AlertEntry) =>
    (l.filter (fun e => e.state != .clearedUnack)).map (fun e => { e with state := .activeAcked })
  let again := fun (c : AlertCode) (occ : Byte) =>
    [({ code := c, state := .activeUnack, occ := if occ = 255 then 1 else occ + 1 } : AlertEntry)]
  ∀ (s : State) (dt : Micros) (on : Bool) (r : Role), s.role = some r →
    let i : Fin 16 := if r = .helm then 1 else if r = .propulsion then 8 else 3
    let presses := s.line i = false ∧ on = true ∧ s.station.joined = true
    let noLatched := ∀ c, latchedCode c = true → s.has c = false ∧ ∀ e ∈ s.comms.alerts.list, e.code ≠ c
    ∃ t, exec (.acknowledgeInput dt on) s = .next t ∧ t.clock = s.later dt ∧ t.lines = s.lines.set i on ∧
      (¬ presses → OnlyTouches [.clock, .lines] s t) ∧
      (presses → AlertInv s → s.station = .listenOnly ∨ s.station = .halted →
        t.comms.alerts.list = acked s.comms.alerts.list ∧ t.comms.present = s.comms.present) ∧
      (presses → AlertInv s → s.station.acting = true → s.comms.link.queue.length ≤ 6 →
        (∀ e ∈ s.comms.alerts.list, e.state = .activeUnack →
          latchedCode e.code = false ∧ e.code ≠ .configClamped) →
        (∀ c, latchedCode c = true → s.has c = true → ∃ e ∈ s.comms.alerts.list, e.code = c) →
        t.comms.alerts.list = acked s.comms.alerts.list ∧ t.comms.present = s.comms.present) ∧
      (presses → r = .propulsion → s.station.acting = true → s.QueueFree → s.gear.supervised = true →
        s.gear.state = .gearFault → (∀ c, s.has c = true ↔ c = .gearInterlock) →
        ∀ occ, s.comms.alerts.list = [{ code := .gearInterlock, state := .activeUnack, occ := occ }] →
        (s.line 0 = false → s.line 1 = false →
          t.gear.state = .neutral ∧ t.has .gearInterlock = false ∧ t.comms.alerts.list = []) ∧
        (s.line 0 = true → s.line 1 = true →
          t.gear = s.gear ∧ t.has .gearInterlock = true ∧
          t.comms.alerts.list = [{ code := .gearInterlock, state := .activeUnack,
                                   occ := if occ = 255 then 1 else occ + 1 }]) ∧
        (s.line 0 ≠ s.line 1 →
          t.gear = s.gear ∧ t.has .gearInterlock = false ∧ t.has .gearTimeout = true ∧
          t.comms.alerts.list = [{ code := .gearTimeout, state := .activeUnack, occ := 1 }])) ∧
      (presses → r = .propulsion → s.station.acting = true → s.QueueFree → (∀ c, s.has c = true ↔ c = .overspeed) →
        ∀ occ, s.comms.alerts.list = [{ code := .overspeed, state := .activeUnack, occ := occ }] →
        let above := s.param Param.maxSpeed * 11 / 10 < s.gov.rpm
        let factor := if above ∨ s.gear.state = .gearFault ∨ s.line 2 = false then 0 else 1000
        t.thrust.factor = factor ∧ t.thrust.ahead = s.param Param.ratedThrust * factor / 1000 ∧
        t.thrust.astern = t.thrust.ahead * s.param Param.asternRatio / 1000 ∧
        (above → t.has .overspeed = true ∧ t.thrust.x = 0 ∧ t.comms.alerts.list = again .overspeed occ) ∧
        (¬ above → t.has .overspeed = false ∧ t.comms.alerts.list = [])) ∧
      (presses → r = .propulsion → s.station.acting = true → s.QueueFree →
        (∀ c, s.has c = true ↔ c = .rudderInterlock) →
        ∀ occ, s.comms.alerts.list = [{ code := .rudderInterlock, state := .activeUnack, occ := occ }] →
        let both := s.line 5 = true ∧ s.line 6 = true
        (both → t.steer = s.steer ∧ t.has .rudderInterlock = true ∧
          t.comms.alerts.list = again .rudderInterlock occ) ∧
        (¬ both → t.has .rudderInterlock = false ∧ t.comms.alerts.list = [] ∧
          t.steer = { s.steer with
            interlock := false,
            drive := if s.steer.drive = .inhibited ∧ s.steer.feedback = false then .stopped else s.steer.drive })) ∧
      (presses → r = .coupling → s.station.acting = true → s.comms.link.queue.length ≤ 5 → s.coup.cls = .parted →
        (∀ c, s.has c = true ↔ c = .parted) →
        ∀ occ, s.comms.alerts.list = [{ code := .parted, state := .activeUnack, occ := occ }] →
        let afresh := s.classRisen s.coup.filtered .slack
        t.waits .strain = true ∧
        (s.line 0 = true → t.has .parted = true ∧ t.comms.alerts.list = again .parted occ ∧ t.coup.cls = .parted ∧
          t.coup.partedLatch = s.coup.partedLatch ∧ t.coup.onset = some (s.later dt) ∧ t.station = s.station) ∧
        (s.line 0 = false → t.has .parted = false ∧ t.coup.partedLatch = false ∧ t.coup.cls = afresh ∧
          (afresh = .high → t.has .strainHigh = true ∧
            t.comms.alerts.list = [{ code := .strainHigh, state := .activeUnack, occ := 1 }]) ∧
          (afresh = .overload → t.has .overload = true ∧ t.coup.onset = some (s.later dt) ∧
            t.comms.alerts.list = [{ code := .overload, state := .activeUnack, occ := 1 }]) ∧
          (afresh ≠ .overload → t.coup.onset = s.coup.onset) ∧
          (afresh = .slack ∨ afresh = .taut → t.comms.alerts.list = [] ∧
            t.station = if s.start.request = true then .standby else s.station) ∧
          (afresh = .high ∨ afresh = .overload → t.station = .active))) ∧
      (presses → r = .coupling → s.station.acting = true → s.QueueFree → (∀ c, s.has c = true ↔ c = .winchRun) →
        ∀ occ, s.comms.alerts.list = [{ code := .winchRun, state := .activeUnack, occ := occ }] →
        let dwells := s.coup.supervised = true ∧ s.coup.cls = .slack ∧ s.permit = true
        t.has .winchRun = false ∧ t.comms.alerts.list = [] ∧
        (s.station = .standby → t.coup = s.coup) ∧
        (s.station = .active → s.coup.winch = .lockedOut → s.line 1 = true → t.coup.winch = .lockedOut) ∧
        (s.station = .active → s.coup.winch = .lockedOut → s.line 1 = false →
          t.coup = { s.coup with
            winch := .idle, runTimer := none, settleTimer := none,
            dwellTimer := if dwells then startTimer (s.later dt) (sec (s.param Param.slackDwell)) else none })) ∧
      (presses → r = .helm → s.helm.con = .holding →
        t.view.items = s.view.items.map (fun it =>
          if it.state = .activeAcked then it else { it with requested := true, sent := false }) ∧
        (noLatched → s.station.acting = true → s.comms.link.queue.length ≤ 6 →
          (∃ it ∈ s.view.items, it.state ≠ .activeAcked) → t.waits .ack = true)) ∧
      (r = .helm → noLatched → OnlyTouches [.clock, .lines, .present, .alerts, .link, .view] s t) ∧
      OnlyTouches [.clock, .lines, .station, .start, .present, .alerts, .link, .demand, .thrust, .gear, .gov, .steer,
        .coup, .meter, .view, .conv, .outputs] s t

/-! ## The control tick (chapters 2, 3, 4, 7 and 12) -/

/-- R115 to R118, R117: metering at a control tick, whatever the order of its parts. Every accepted edge of the tick
is booked once: what the selected tank takes, in µL, and the new residue make up the old residue, the net volume and
what the clamp at −1,000,000 µL writes off; the tank takes the whole millilitres of a residue of 1000 µL or more,
and nothing of a smaller one. No other tank changes. The order and the select lines as operands of the tick are the
model's (notes/assumptions/10.md, 9.md). -/
def Obligations.MeteringBooksEveryEdge : Prop :=
  ∀ (s : State) (dt : Micros) (order : List TickPart) (tank : BitVec 2),
    s.station.taking = true → due s.demand.tick (s.later dt) = true →
    let supplied := ((s.caps.get 1).count - s.meter.supplySnap).toNat * s.supplyFactor
    let returned := ((s.caps.get 2).count - s.meter.returnSnap).toNat * s.returnFactor
    let net : Int := (supplied : Int) - returned
    let clamps := s.meter.residue + net < -1000000
    ∃ t, exec (.controlTick dt order tank) s = .next t ∧ t.demand.tick = nextInterval s.demand.tick ∧
      (s.isProp = false → t.meter = s.meter ∧ t.lines = s.lines) ∧
      (s.isProp = true →
        twoLine (t.line 3) (t.line 4) = tank.toNat ∧
        t.meter.supplySnap = (s.caps.get 1).count ∧ t.meter.returnSnap = (s.caps.get 2).count ∧
        t.meter.secondNet = s.meter.secondNet + net ∧
        (∃ booked : Nat,
          (∀ k : Fin 4, t.meter.totals.get k = if k.val = tank.toNat
            then s.meter.totals.get k + BitVec.ofNat 32 booked else s.meter.totals.get k) ∧
          (clamps → booked = 0 ∧ t.meter.residue = -1000000) ∧
          (¬ clamps → booked = ((s.meter.residue + net) / 1000).toNat ∧
            1000 * (booked : Int) + t.meter.residue = s.meter.residue + net ∧
            -1000000 ≤ t.meter.residue ∧ t.meter.residue < 1000)) ∧
        t.meter.returnMark =
          (if clamps then true else if 0 ≤ s.meter.residue + net then false else s.meter.returnMark) ∧
        (s.station.acting = true → t.has .returnExceeds = t.meter.returnMark) ∧
        t.meter.window = s.meter.window ∧ t.meter.rate = s.meter.rate ∧ t.meter.rateSeries = s.meter.rateSeries)

/-- R22, R38 to R49, R23, R177: what a control tick does to the demand record and to X. A DECAYING record moves each
value 10 toward zero, where the demand timers run. In ACTIVE, with the parts in the order of their chapters, the
last target is the clamped sum of the economic share and the turn differential, and X moves toward the desired value
by at most the step; the duty is found again where X changes, and a changed duty gives the expected speed and is
written to the inactive bank of OUT0. The order as an operand of the tick is the model's inference
(notes/assumptions/10.md). -/
def Obligations.TickDecaysAndRamps : Prop :=
  (∀ (s : State) (dt : Micros) (order : List TickPart) (tank : BitVec 2),
    s.station.taking = true → due s.demand.tick (s.later dt) = true →
    let nearer := fun (v : Int) => if v.natAbs ≤ 10 then 0 else if 0 < v then v - 10 else v + 10
    let d := s.demand.record.demand
    ∃ t, exec (.controlTick dt order tank) s = .next t ∧ t.clock = s.later dt ∧
      (s.isProp = false ∨ s.start.request = false →
        t.demand.record = if s.station.timing = true ∧ s.demand.record.state = .decaying
          then { s.demand.record with demand := { d with thrust := nearer d.thrust, turn := nearer d.turn } }
          else s.demand.record) ∧
      t.demand.view = s.demand.view ∧
      OnlyTouches [.clock, .lines, .station, .present, .alerts, .link, .demand, .thrust, .gear, .gov, .coup, .meter,
        .outputs] s t) ∧
  (∀ (s : State) (dt : Micros) (tank : BitVec 2),
    s.isProp = true → s.station = .active → due s.demand.tick (s.later dt) = true →
    s.demand.record.state ≠ .decaying → s.start.request = false →
    let u := s.advance dt
    let d := s.demand.record.demand
    let request := Int.tdiv ((if d.stopAll then 0 else d.thrust) * u.rating) 1000
    let scaled := Int.tdiv (request * s.thrust.strain) 1000
    let a := s.thrust.ahead
    let b := s.thrust.astern
    let share : Int :=
      if 0 ≤ scaled then (if u.sumAhead = 0 then 0 else min a (scaled.natAbs * a / u.sumAhead))
      else (if u.sumAstern = 0 then 0 else -(min b (scaled.natAbs * b / u.sumAstern) : Nat))
    let delta : Int := Int.sign d.turn * (d.turn.natAbs * s.param Param.turnAuthority * s.param Param.ratedThrust
      / 1000000 : Nat) * (if s.side = .port then 1 else if s.side = .starboard then -1 else 0)
    let untrimmed := Int.tdiv (share * s.thrust.trim) 1000 + delta
    let target : Int := if untrimmed < -b then -b else if (a : Int) < untrimmed then a else untrimmed
    let wanted : Int :=
      if s.gear.state = .ahead ∧ d.stopAll = false ∧ 0 < target ∨
          s.gear.state = .astern ∧ d.stopAll = false ∧ target < 0 then target else 0
    let base := max 1 (s.param Param.rampRate / 10)
    let halved := if s.thrust.strain < 1000 then max 1 (base / 2) else base
    let step := if d.stopAll then 4 * halved else halved
    ∃ t, exec (.controlTick dt [.decay, .thrust, .gear, .metering, .standbyTest] tank) s = .next t ∧
      t.thrust.lastTarget = target ∧
      t.thrust.x = (if (wanted - s.thrust.x).natAbs ≤ step then wanted
        else if s.thrust.x < wanted then s.thrust.x + step else s.thrust.x - step) ∧
      (t.thrust.x ≠ s.thrust.x →
        t.thrust.duty = dutyOf s.gear.state t.thrust.x (s.param Param.ratedThrust)) ∧
      (ThrustInv s → t.thrust.x = s.thrust.x → t.thrust.duty = s.thrust.duty) ∧
      (t.thrust.duty ≠ s.thrust.duty →
        t.thrust.expected = s.expectedAt t.thrust.duty ∧ t.outputs.periods = s.outputs.periods ∧
        (t.outputs.outs.get 0).pending = true ∧ (t.outputs.outs.get 0).next = t.thrust.duty ∧
        (t.outputs.outs.get 0).inControl = (s.outputs.outs.get 0).inControl ∧
        (t.outputs.outs.get 0).driving = (s.outputs.outs.get 0).driving ∧
        ∀ i, i ≠ 0 → t.outputs.outs.get i = s.outputs.outs.get i) ∧
      (t.thrust.duty = s.thrust.duty → t.thrust.expected = s.thrust.expected ∧ t.outputs = s.outputs) ∧
      t.thrust.ahead = a ∧ t.thrust.astern = b ∧ t.thrust.trim = s.thrust.trim ∧ t.thrust.strain = s.thrust.strain)

/-- R48, R49, R177: the governor duty and the expected shaft speed: the square root law, its bound of 1000 in every
case, and the worked table. -/
def Obligations.DutyFollowsTheSquareRoot : Prop :=
  (∀ n : Nat, isqrt n * isqrt n ≤ n ∧ n < (isqrt n + 1) * (isqrt n + 1)) ∧
  (∀ (g : GearState) (x : Int) (rated : Nat),
    (g = .ahead ∨ g = .astern → x ≠ 0 → 1 ≤ rated → x.natAbs ≤ rated →
      dutyOf g x rated = isqrt (x.natAbs * 1000000 / rated)) ∧
    (g ≠ .ahead ∧ g ≠ .astern ∨ x = 0 → dutyOf g x rated = 0) ∧ dutyOf g x rated ≤ 1000) ∧
  (∀ (s : State) (duty : Nat), duty ≤ 1000 →
    (s.expectedAt duty : Int) = (s.param Param.idleSpeed : Int) +
      Int.tdiv (((s.param Param.maxSpeed : Int) - s.param Param.idleSpeed) * duty) 1000) ∧
  dutyOf .ahead 18 1800 = 100 ∧ dutyOf .ahead 450 1800 = 500 ∧ dutyOf .ahead 910 1800 = 711 ∧
  dutyOf .astern (-1800) 1800 = 1000 ∧ expectedSpeed 600 1800 0 = 600 ∧ expectedSpeed 600 1800 711 = 1453 ∧
  expectedSpeed 600 1800 1000 = 1800

/-- R62, R64, R65, R71, R195: what the gear and the standby test do at a control tick that follows its own
evaluation. In NEUTRAL a target engages; in AHEAD or ASTERN with X at 0 a cause begins the release, timed while
SHAFT_SIGNAL is present and otherwise ending at once where the shaft turns at or below the threshold; with no cause
a release is abandoned. A standing request with X at 0 takes the station to STANDBY. The order as an operand of the
tick is the model's inference (notes/assumptions/10.md). -/
def Obligations.TickWorksTheGear : Prop :=
  ∀ (s : State) (dt : Micros) (tank : BitVec 2),
    s.isProp = true → s.station = .active → s.gear.supervised = true → due s.demand.tick (s.later dt) = true →
    s.demand.record.state ≠ .decaying → ThrustInv s →
    let target := (s.advance dt).target
    let stop := s.demand.record.demand.stopAll
    let opposes := s.gear.state = .ahead ∧ target < 0 ∨ s.gear.state = .astern ∧ 0 < target
    let threshold := max (s.param Param.shiftSpeed) (s.param Param.idleSpeed)
    let turning := engaged s.gear.state = true
    let apart : GearState := if s.line 0 || s.line 1 then .disengaging else .dwell
    ∃ t, exec (.controlTick dt [.decay, .thrust, .gear, .metering, .standbyTest] tank) s = .next t ∧
      (s.gear.state = .neutral → target ≠ 0 → stop = false →
        t.gear = { s.gear with state := if 0 < target then .engagingAhead else .engagingAstern, release := .none,
                               releaseTimer := none, feedbackTimer := startTimer (s.later dt) (sec 3),
                               dwellTimer := none }) ∧
      (s.gear.state = .neutral → target = 0 ∨ stop = true → t.gear = s.gear) ∧
      (turning → t.thrust.x ≠ 0 ∨ ¬ (opposes ∨ stop = true) →
        t.gear = { s.gear with release := .none,
                               releaseTimer := if s.gear.release = .none then s.gear.releaseTimer else none }) ∧
      (turning → s.thrust.x = 0 → opposes ∨ stop = true → s.gear.release = .none → s.has .shaftSignal = true →
        t.gear = { s.gear with release := .timedWait, releaseTimer := startTimer (s.later dt) (sec 5) }) ∧
      (turning → s.thrust.x = 0 → opposes ∨ stop = true → s.gear.release = .none → s.has .shaftSignal = false →
        threshold < s.gov.rpm → t.gear = { s.gear with release := .speedWait }) ∧
      (turning → s.thrust.x = 0 → opposes ∨ stop = true →
        s.gear.release = .speedWait ∨ s.gear.release = .none ∧ s.has .shaftSignal = false →
        s.gov.rpm ≤ threshold →
        t.gear.state = apart ∧ t.gear.release = .none ∧ t.gear.releaseTimer = none ∧ t.thrust.x = 0 ∧
        t.thrust.duty = 0) ∧
      (turning → s.thrust.x = 0 → opposes ∨ stop = true → s.gear.release = .timedWait → t.gear = s.gear) ∧
      (s.gear.state = .engagingAhead ∨ s.gear.state = .engagingAstern ∨ s.gear.state = .disengaging ∨
        s.gear.state = .dwell ∨ s.gear.state = .gearFault → t.gear = s.gear) ∧
      (s.start.request = false → t.station = .active) ∧
      (s.start.request = true → t.thrust.x ≠ 0 → t.station = .active) ∧
      (s.start.request = true → t.thrust.x = 0 →
        t.station = .standby ∧ t.thrust.lastTarget = 0 ∧ t.thrust.economy = none ∧ t.thrust.stateSeries = none ∧
        t.meter.interval = none ∧ t.demand.timeout = none ∧ t.demand.hold = none ∧ t.has .engineNotReady = false ∧
        (s.comms.link.queue.length ≤ 5 → t.waits .propState = true ∧ t.waits .fuel = true))

/-! ## The machinery of a PROPULSION station (chapters 3 to 5 and 7) -/

/-- R55: the 1 s evaluation of E by the cap, the live availability and the fuel rate. R119: the 1 s rate of burn
over the last ten seconds. -/
def Obligations.TrimAndRateEvaluations : Prop :=
  (∀ (s : State) (dt : Micros), s.isProp = true → s.station = .active → due s.thrust.economy (s.later dt) = true →
    let sum := (s.advance dt).sumAhead
    let e := s.thrust.trim
    ∃ trim, exec (.economyTrimEvaluation dt) s = .next { s.advance dt with
        thrust := { s.thrust with economy := nextInterval s.thrust.economy, trim := trim } } ∧
      (s.demand.record.demand.cap = none → trim = if e < 1000 then min 1000 (e + 10) else e) ∧
      (∀ c, s.demand.record.demand.cap = some c → sum = 0 → trim = e) ∧
      (∀ c, s.demand.record.demand.cap = some c → sum ≠ 0 →
        let allowed := c * s.thrust.ahead / sum
        (allowed < s.meter.rate → trim = max 200 (e - 20)) ∧
        (s.meter.rate < allowed - allowed / 20 → trim = min 1000 (e + 10)) ∧
        (allowed - allowed / 20 ≤ s.meter.rate → s.meter.rate ≤ allowed → trim = e))) ∧
  (∀ (s : State) (dt : Micros), s.isProp = true → s.station.taking = true →
    due s.meter.rateSeries (s.later dt) = true → s.meter.window.length = 10 →
    ∃ t, exec (.fuelRateEvaluation dt) s = .next t ∧
      t = { s.advance dt with meter := { s.meter with window := t.meter.window, rate := t.meter.rate, secondNet := 0,
                                                      rateSeries := nextInterval s.meter.rateSeries } } ∧
      t.meter.window.length = 10 ∧ t.meter.window.getLast? = some s.meter.secondNet ∧
      (∀ i, i < 9 → t.meter.window[i]? = s.meter.window[i + 1]?) ∧
      (sumInt t.meter.window ≤ 0 → t.meter.rate = 0) ∧
      (0 < sumInt t.meter.window →
        t.meter.rate = min 65535 ((sumInt t.meter.window * 36 / 100000).toNat)))

/-- R50, R51, R52, R73, R75, R76: a change of the engine-ready input. It moves the availability factor, with the cut
of X, stops or restarts the governor monitor and, while the duty is above 0, the no-pulse watch, and raises or
clears ENGINE_NOT_READY. -/
def Obligations.EngineReadyMovesAvailability : Prop :=
  ∀ (s : State) (dt : Micros) (on : Bool), s.isProp = true → ThrustInv s →
    let factor := if s.gear.state = .gearFault ∨ s.has .overspeed = true ∨ on = false then 0
      else if s.has .governorFollow = true ∨ s.has .shaftSignal = true then 500 else 1000
    ∃ t, exec (.engineReadyChange dt on) s = .next t ∧ t.clock = s.later dt ∧ t.lines = s.lines.set 2 on ∧
      (s.line 2 = on → t = s.advance dt) ∧
      (s.line 2 ≠ on → s.station.taking = true →
        t.thrust.factor = factor ∧ t.thrust.ahead = s.param Param.ratedThrust * factor / 1000 ∧
        t.thrust.astern = t.thrust.ahead * s.param Param.asternRatio / 1000 ∧
        t.thrust.x = (if (t.thrust.ahead : Int) < s.thrust.x then (t.thrust.ahead : Int)
          else if s.thrust.x < -(t.thrust.astern : Int) then -(t.thrust.astern : Int) else s.thrust.x)) ∧
      (s.line 2 ≠ on → s.station.taking = false → t.thrust = s.thrust) ∧
      (s.line 2 ≠ on → on = false →
        t.gov.watch = none ∧ t.gov.settle = none ∧ t.gov.deviation = none ∧ t.gov.agreement = none ∧
        (s.station.taking = true → t.thrust.x = 0 ∧ t.thrust.duty = 0) ∧
        (s.station = .active → t.has .engineNotReady = true) ∧
        (s.station ≠ .active → t.has .engineNotReady = s.has .engineNotReady)) ∧
      (s.line 2 ≠ on → on = true →
        t.gov.deviation = none ∧ t.gov.agreement = none ∧
        t.gov.watch = (if s.station.acting = true ∧ 0 < t.thrust.duty then startTimer (s.later dt) (sec 2) else none) ∧
        (s.station.acting = true →
          t.gov.settle = startTimer (s.later dt) (sec 5) ∧ t.has .engineNotReady = false) ∧
        (s.station.acting = false → t.has .engineNotReady = s.has .engineNotReady)) ∧
      t.gear = s.gear ∧ t.gov.rpm = s.gov.rpm ∧ t.gov.noPulse = s.gov.noPulse ∧
      (∀ c, c ≠ .engineNotReady → c ≠ .txLoss → t.has c = s.has c) ∧
      OnlyTouches [.clock, .lines, .present, .alerts, .link, .thrust, .gear, .gov, .outputs] s t

/-- R63, R66, R68, R69: the judgement of a change of the gear feedbacks: the two faults, the three advances of the
gear and no change otherwise. That two feedbacks changing at one moment are judged once, by the reading after both,
is the model's choice (notes/assumptions/55.md). -/
def Obligations.GearFeedbackIsJudged : Prop :=
  ∀ (s : State) (dt : Micros) (a b : Bool), s.isProp = true → s.gear.supervised = true → s.station.acting = true →
    ThrustInv s → s.line 0 ≠ a ∨ s.line 1 ≠ b →
    let g := s.gear.state
    let interlock := a = true ∧ b = true ∨ (g = .neutral ∨ g = .dwell) ∧ (a = true ∨ b = true) ∨
      (g = .engagingAhead ∨ g = .ahead) ∧ b = true ∨ (g = .engagingAstern ∨ g = .astern) ∧ a = true
    let lost := (g = .ahead ∨ g = .astern) ∧ a = false ∧ b = false
    let u := { s.advance dt with lines := (s.lines.set 0 a).set 1 b }
    let rest := { s.gear with release := .none, releaseTimer := none, feedbackTimer := none, dwellTimer := none }
    ∃ t, exec (.gearFeedbackChange dt a b) s = .next t ∧ t.clock = s.later dt ∧
      t.lines = (s.lines.set 0 a).set 1 b ∧
      (interlock → t.has .gearInterlock = true) ∧ (lost → t.has .gearTimeout = true) ∧
      (interlock ∨ lost → t.gear = { rest with state := .gearFault } ∧
        (g ≠ .gearFault → t.thrust.factor = 0 ∧ t.thrust.ahead = 0 ∧ t.thrust.astern = 0 ∧ t.thrust.x = 0 ∧
          t.thrust.duty = 0)) ∧
      (g = .engagingAhead → a = true → b = false → t = { u with gear := { rest with state := .ahead } }) ∧
      (g = .engagingAstern → a = false → b = true → t = { u with gear := { rest with state := .astern } }) ∧
      (g = .disengaging → a = false → b = false →
        t = { u with gear := { rest with
          state := .dwell, dwellTimer := startTimer (s.later dt) (ms (s.param Param.neutralDwell)) } }) ∧
      (g = .gearFault → ¬ interlock → t = u) ∧
      (g = .disengaging → ¬ (a = true ∧ b = true) → a = true ∨ b = true → t = u) ∧
      (g = .ahead → a = true → b = false → t = u) ∧ (g = .astern → a = false → b = true → t = u) ∧
      ((g = .neutral ∨ g = .dwell ∨ g = .engagingAhead ∨ g = .engagingAstern) → a = false → b = false → t = u) ∧
      OnlyTouches [.clock, .lines, .present, .alerts, .link, .thrust, .gear, .gov, .outputs] s t

/-- R63, R65, R66, R69: at the expiry of the feedback timer GEAR_TIMEOUT is raised and the gear is in GEAR_FAULT; at
the end of a timed wait the gear is released, to DWELL where both feedbacks are off already. -/
def Obligations.GearTimersRunOut : Prop :=
  (∀ (s : State) (dt : Micros), s.isProp = true → s.gear.supervised = true → s.station.acting = true →
    due s.gear.feedbackTimer (s.later dt) = true →
    ∃ t, exec (.gearFeedbackTimerExpiry dt) s = .next t ∧ t.clock = s.later dt ∧ t.has .gearTimeout = true ∧
      t.gear = { s.gear with state := .gearFault, release := .none, releaseTimer := none, feedbackTimer := none,
                             dwellTimer := none } ∧
      (s.gear.state ≠ .gearFault → t.thrust.factor = 0 ∧ t.thrust.ahead = 0 ∧ t.thrust.astern = 0 ∧
        t.thrust.x = 0) ∧
      OnlyTouches [.clock, .present, .alerts, .link, .thrust, .gear, .gov, .outputs] s t) ∧
  (∀ (s : State) (dt : Micros), s.isProp = true → s.gear.supervised = true → s.station.acting = true →
    s.gear.release = .timedWait → engaged s.gear.state = true → due s.gear.releaseTimer (s.later dt) = true →
    ∃ t, exec (.releaseTimerExpiry dt) s = .next t ∧ t.clock = s.later dt ∧ t.thrust.x = 0 ∧
      (s.line 0 = true ∨ s.line 1 = true →
        t.gear = { s.gear with state := .disengaging, release := .none, releaseTimer := none,
                               feedbackTimer := startTimer (s.later dt) (sec 3), dwellTimer := none }) ∧
      (s.line 0 = false → s.line 1 = false →
        t.gear = { s.gear with
          state := .dwell, release := .none, releaseTimer := none, feedbackTimer := none,
          dwellTimer := startTimer (s.later dt) (ms (s.param Param.neutralDwell)) }) ∧
      t.comms = s.comms ∧ OnlyTouches [.clock, .thrust, .gear, .gov, .outputs] s t)

/-- R67. At the end of the dwell the gear goes to NEUTRAL in STANDBY, with STOP_ALL set or a last target of 0, and
otherwise engages the direction that the last target has at that moment, with the feedback timer started; both
solenoids are off while it waits. -/
def Obligations.DwellChoosesTheDirection : Prop :=
  ∀ (s : State) (dt : Micros), s.isProp = true → s.gear.supervised = true → s.station.acting = true → ThrustInv s →
    s.gear.state = .dwell → due s.gear.dwellTimer (s.later dt) = true →
    let next : GearState :=
      if s.station = .standby ∨ s.demand.record.demand.stopAll = true ∨ s.thrust.lastTarget = 0 then .neutral
      else if 0 < s.thrust.lastTarget then .engagingAhead else .engagingAstern
    s.discrete 0 = false ∧ s.discrete 1 = false ∧
    exec (.dwellExpiry dt) s = .next { s.advance dt with
      gear := { s.gear with
        state := next, release := .none, releaseTimer := none, dwellTimer := none,
        feedbackTimer := if next = .neutral then none else startTimer (s.later dt) (sec 3) } }

/-- R50, R72 to R76: the governor supervisor's timers. 2 s without an edge make the speed 0; the no-pulse watch
raises SHAFT_SIGNAL; the settle timer brings a judgement against the follow tolerance; 3 s of deviation raise
GOVERNOR_FOLLOW and 3 s of agreement clear it, with the availability found again. -/
def Obligations.GovernorTimersRunOut : Prop :=
  (∀ (s : State) (dt : Micros), s.isProp = true → s.station.joined = true →
    due s.gov.pulseTimer (s.later dt) = true →
    ∃ t, exec (.shaftPulseTimeout dt) s = .next t ∧ t.clock = s.later dt ∧ t.gov.rpm = 0 ∧
      t.gov.pulseTimer = none ∧ t.gov.lastPulse = s.gov.lastPulse ∧ t.comms = s.comms ∧
      (s.gov.rpm = 0 → t.meter = s.meter) ∧ (s.gov.rpm ≠ 0 → t.meter.flowWatch = none) ∧
      OnlyTouches [.clock, .gov, .meter] s t) ∧
  (∀ (s : State) (dt : Micros), s.isProp = true → s.station.acting = true → due s.gov.watch (s.later dt) = true →
    ∃ t, exec (.noPulseWatchExpiry dt) s = .next t ∧ t.clock = s.later dt ∧ t.has .shaftSignal = true ∧
      t.gov.noPulse = true ∧ t.thrust.factor ≤ (if s.has .shaftSignal then s.thrust.factor else 500) ∧
      (s.has .shaftSignal = false → t.thrust.ahead ≤ s.param Param.ratedThrust * 500 / 1000 ∧
        t.thrust.x ≤ t.thrust.ahead ∧ -(t.thrust.astern : Int) ≤ t.thrust.x) ∧
      (s.has .shaftSignal = true →
        t = { s.advance dt with gov := { s.gov with watch := none, noPulse := true } }) ∧
      t.gear = s.gear ∧
      OnlyTouches [.clock, .present, .alerts, .link, .thrust, .gear, .gov, .outputs] s t) ∧
  (∀ (s : State) (dt : Micros), s.isProp = true → s.station.acting = true → s.line 2 = true →
    due s.gov.settle (s.later dt) = true →
    let outside := s.param Param.followTolerance < ((s.gov.rpm : Int) - s.thrust.expected).natAbs
    let began := fun (start : Option Clock) => if start = none then some (s.later dt) else start
    ∃ deviation agreement, exec (.settleTimerExpiry dt) s = .next { s.advance dt with
        gov := { s.gov with settle := none, settled := true, deviation := deviation, agreement := agreement } } ∧
      (s.has .governorFollow = false → agreement = s.gov.agreement ∧
        (outside → deviation = began s.gov.deviation) ∧ (¬ outside → deviation = none)) ∧
      (s.has .governorFollow = true → deviation = s.gov.deviation ∧
        (¬ outside → agreement = began s.gov.agreement) ∧ (outside → agreement = none))) ∧
  (∀ (s : State) (dt : Micros) (since : Clock), s.isProp = true → s.station.acting = true → s.line 2 = true →
    s.has .governorFollow = false → s.gov.deviation = some since → 3000000 ≤ elapsed (s.later dt) since →
    ∃ t, exec (.deviationStartExpiry dt) s = .next t ∧ t.clock = s.later dt ∧ t.has .governorFollow = true ∧
      t.gov.deviation = none ∧
      t.thrust.factor = (if s.gear.state = .gearFault ∨ s.has .overspeed = true then 0 else 500) ∧
      t.thrust.x ≤ t.thrust.ahead ∧ -(t.thrust.astern : Int) ≤ t.thrust.x ∧ t.gear = s.gear ∧
      OnlyTouches [.clock, .present, .alerts, .link, .thrust, .gear, .gov, .outputs] s t) ∧
  (∀ (s : State) (dt : Micros) (since : Clock), s.isProp = true → s.station.acting = true → s.line 2 = true →
    s.has .governorFollow = true → s.gov.agreement = some since → 3000000 ≤ elapsed (s.later dt) since →
    ∃ t, exec (.agreementStartExpiry dt) s = .next t ∧ t.clock = s.later dt ∧ t.has .governorFollow = false ∧
      t.gov.agreement = none ∧
      t.thrust.factor = (if s.gear.state = .gearFault ∨ s.has .overspeed = true then 0
        else if s.has .shaftSignal = true then 500 else 1000) ∧
      (ThrustInv s → s.thrust.ahead ≤ t.thrust.ahead → s.thrust.astern ≤ t.thrust.astern → t.thrust.x = s.thrust.x) ∧
      t.gear = s.gear ∧
      OnlyTouches [.clock, .present, .alerts, .link, .thrust, .gear, .gov, .outputs] s t)

/-- R85, R87, R88, R178: both valve senses on at a change of either is an interlock: RUDDER_INTERLOCK is raised and
the drive is INHIBITED with both valve outputs at 0 at once. A change that leaves one off changes only the lines.
That two senses changing at one moment are judged once, by the reading after both, is the model's choice
(notes/assumptions/60.md). -/
def Obligations.ValveInterlockInhibits : Prop :=
  ∀ (s : State) (dt : Micros) (port starboard : Bool),
    s.isProp = true → s.steer.supervised = true → s.station.acting = true →
    s.line 5 ≠ port ∨ s.line 6 ≠ starboard →
    let u := { s.advance dt with lines := (s.lines.set 5 port).set 6 starboard }
    ∃ t, exec (.valveSenseChange dt port starboard) s = .next t ∧
      (port = false ∨ starboard = false → t = u) ∧
      (port = true → starboard = true →
        ∃ v, Raises .rudderInterlock u v ∧
          (s.steer.drive = .inhibited → t = { v with steer := { s.steer with interlock := true } }) ∧
          (s.steer.drive ≠ .inhibited →
            t = { v with
              steer := { s.steer with interlock := true, drive := .inhibited, valveDuty := 0, followTimer := none },
              outputs := t.outputs } ∧
            (t.outputs.outs.get 1).Closed ∧ (t.outputs.outs.get 2).Closed ∧
            t.outputs.outs.get 0 = s.outputs.outs.get 0 ∧ t.outputs.periods = s.outputs.periods))

/-- R79, R80 to R86, R89, R90: a supervised delivery of an in-range rudder result: the angle, the demand it is
steered to, the drive step by the first case that holds, the follow timer, the end of a feedback fault, and the
spread against the mean of the peers' angles. That a flanking rudder keeps −P in the release wait out of ASTERN is
the model's choice (notes/assumptions/64.md). -/
def Obligations.RudderDeliveryDrivesTheValve : Prop :=
  ∀ (s : State) (dt : Micros) (raw a1 reference l0 l1 l2 : Raw) (since : Clock),
    s.isProp = true → s.steer.supervised = true → s.station.acting = true →
    s.conv.state = .sequence since raw a1 reference → 80 ≤ elapsed (s.later dt) since →
    2008 ≤ reference.toNat → reference.toNat ≤ 2088 → 20 < raw.toNat → raw.toNat < 4075 →
    let angle := Int.tdiv (((raw.toNat : Int) - 2048) * s.param Param.angleSpan) 2047
    let d := s.demand.record.demand
    let p := Int.tdiv (d.turn * s.param Param.maxAngle) 1000
    let wanted : Int := if d.mode = .normal ∧ s.rudderType = .steering then p
      else if d.mode = .flanking ∧ s.rudderType = .flanking ∧ s.gear.state = .astern then -p else 0
    let e := wanted - angle
    let duty := max 300 (min 1000 (e.natAbs * s.param Param.valveGain / 10))
    let limit : Int := s.param Param.maxAngle + 30
    let follow := if s.has .rudderFollow then none else startTimer (s.later dt) (sec (s.param Param.followTime))
    let drive := if s.steer.feedback ∧ s.steer.drive = .inhibited ∧ s.steer.interlock = false then .stopped
      else s.steer.drive
    let atRest := fun (t : State) => t.steer.drive = drive ∧ t.outputs = s.outputs
    let starts := fun (t : State) (way : DriveState) (i : Fin 3) =>
      t.steer.drive = way ∧ t.steer.valveDuty = duty ∧ t.steer.followTimer = follow ∧
      t.outputs = { s.outputs with outs := s.outputs.outs.set i ((s.outputs.outs.get i).write duty) }
    let stops := fun (t : State) (i : Fin 3) =>
      t.steer.drive = .stopped ∧ t.steer.valveDuty = 0 ∧ t.steer.followTimer = none ∧
      t.outputs = { s.outputs with outs := s.outputs.outs.set i ((s.outputs.outs.get i).write 0) }
    let runs := fun (t : State) (i : Fin 3) (ahead : Bool) (beyond : Prop) =>
      (e.natAbs ≤ s.param Param.deadband / 2 → stops t i ∧ t.has .rudderFollow = false) ∧
      (s.param Param.deadband / 2 < e.natAbs → ahead = false ∨ beyond → stops t i) ∧
      (s.param Param.deadband / 2 < e.natAbs → ahead = true → ¬ beyond →
        t.steer.drive = drive ∧ t.steer.valveDuty = duty ∧ t.steer.followTimer = s.steer.followTimer ∧
        (duty = s.steer.valveDuty → t.outputs = s.outputs) ∧
        (duty ≠ s.steer.valveDuty →
          t.outputs = { s.outputs with outs := s.outputs.outs.set i ((s.outputs.outs.get i).write duty) }))
    let peers := s.peerAngles
    let spread := (angle - Int.tdiv (sumInt peers) peers.length).natAbs
    ∃ t, exec (.sequenceCompletion dt l0 l1 l2) s = .next t ∧ t.clock = s.later dt ∧
      t.steer.angle = angle ∧ t.steer.demand = wanted ∧ t.steer.feedback = false ∧
      t.steer.interlock = s.steer.interlock ∧ (s.steer.feedback = true → t.has .rudderFeedback = false) ∧
      (drive = .inhibited → atRest t) ∧
      (drive = .stopped → e.natAbs ≤ s.param Param.deadband → atRest t) ∧
      (drive = .stopped → s.param Param.deadband < e.natAbs → 0 < e → angle < limit → starts t .drivingStbd 2) ∧
      (drive = .stopped → s.param Param.deadband < e.natAbs → e < 0 → -limit < angle → starts t .drivingPort 1) ∧
      (drive = .stopped → 0 < e → limit ≤ angle → atRest t) ∧ (drive = .stopped → e < 0 → angle ≤ -limit → atRest t) ∧
      (drive = .drivingStbd → runs t 2 (decide (0 < e)) (limit ≤ angle)) ∧
      (drive = .drivingPort → runs t 1 (decide (e < 0)) (angle ≤ -limit)) ∧
      (peers = [] ∨ spread ≤ s.param Param.spreadLimit → t.steer.deviation = none ∧ t.has .rudderSpread = false) ∧
      (peers ≠ [] → s.param Param.spreadLimit < spread →
        t.steer.deviation = (if s.steer.deviation = none then some (s.later dt) else s.steer.deviation) ∧
        t.has .rudderSpread = s.has .rudderSpread) ∧
      OnlyTouches [.clock, .conv, .steer, .present, .alerts, .link, .outputs] s t

/-- R24, R26, R34, R79, R85, R181 to R185: the converter's series. A start begins a sequence or, while one is under
way, is skipped for overrun; one result is kept for each conversion of 40 µs that has ended; a completion judges the
reference and each channel, keeps the results as the latest values and delivers them: the levers of a HELM station,
with their dead band and their signal fault and, where it is HOLDING, the renumbering test with the lag starts, and
the rudder feedback of a PROPULSION station, whose first fault inhibits a supervised drive and whose further ones
change nothing. That a start reads the levels of the inputs, and that a completion's operands are the levels from
then on, is the model's choice (notes/assumptions/20.md), and so is that a renumbering sets the lag start of an
entry that returned to LIVE in step with the old number (36.md). -/
def Obligations.SequencesStartAndComplete : Prop :=
  let good := fun (raw : Raw) => 20 < raw.toNat ∧ raw.toNat < 4075
  let sound := fun (reference : Raw) => 2008 ≤ reference.toNat ∧ reference.toNat ≤ 2088
  let lever := fun (raw : Raw) =>
    let v := max (-1000) (min 1000 (Int.tdiv (((raw.toNat : Int) - 2048) * 1000) 2047))
    if v.natAbs ≤ 20 then 0 else v
  let differs := fun (live c : Demand) =>
    5 ≤ (live.thrust - c.thrust).natAbs ∨ 5 ≤ (live.turn - c.turn).natAbs ∨ live.mode ≠ c.mode ∨ live.cap ≠ c.cap ∨
      live.stopAll ≠ c.stopAll
  (∀ (s : State) (dt : Micros) (last : Clock), s.station.joined = true →
    s.conv.series = some last → s.conv.interval ≤ elapsed (s.later dt) last →
    let next := some (last + BitVec.ofNat 32 s.conv.interval)
    let u := { s.advance dt with conv := { s.conv with series := next, lastOverrun := some (s.later dt) } }
    ∃ t, exec (.sequenceStart dt) s = .next t ∧
      (s.conv.state = .idle → t.sequenceResults = [] ∧ t = { s.advance dt with conv := { s.conv with
        series := next,
        state := .sequence (s.later dt) s.conv.levels.a0 s.conv.levels.a1 s.conv.levels.reference } }) ∧
      (s.conv.state ≠ .idle → s.station.reporting = true → Raised .converterOverrun u t) ∧
      (s.conv.state ≠ .idle → s.station.reporting = false → t = u)) ∧
  (∀ (s : State) (a0 a1 reference : Raw) (since : Clock) (r : Role), s.role = some r →
    s.conv.state = .sequence since a0 a1 reference → ∃ t, step { s with pending := [] } = .next t ∧
    let channels := if r = .helm then [a0, a1, reference] else [a0, reference]
    t.sequenceResults <+: channels ∧
    t.sequenceResults.length = min channels.length (elapsed t.clock since / 40)) ∧
  (∀ (s : State) (dt : Micros) (l : Levels), s.conv.state = .idle →
    exec (.sequenceCompletion dt l.a0 l.a1 l.reference) s =
      .next { s.advance dt with conv := { s.conv with levels := l } }) ∧
  (∀ (s : State) (dt : Micros) (a0 a1 reference : Raw) (l : Levels) (since : Clock) (r : Role), s.role = some r →
    s.station.joined = true → s.conv.state = .sequence since a0 a1 reference →
    (if r = .helm then 120 else 80) ≤ elapsed (s.later dt) since →
    ∃ t, exec (.sequenceCompletion dt l.a0 l.a1 l.reference) s = .next t ∧ t.clock = s.later dt ∧
      t.conv.state = .idle ∧ t.conv.levels = l ∧ t.sequenceResults = [] ∧ t.conv.latestRef = some reference ∧
      t.conv.lastOverrun = s.conv.lastOverrun ∧
      (r ≠ .coupling → t.conv.interval = s.conv.interval ∧ t.conv.series = s.conv.series) ∧
      t.conv.latest.get 0 = some a0 ∧
      (t.conv.range.get 0 = if sound reference ∧ good a0 then some .inRange else some .fault) ∧
      (r = .helm → t.conv.latest.get 1 = some a1 ∧
        t.conv.range.get 1 = if sound reference ∧ good a1 then some .inRange else some .fault) ∧
      (∀ i : Fin 8, 0 < i.val → r ≠ .helm ∨ 1 < i.val →
        t.conv.latest.get i = s.conv.latest.get i ∧ t.conv.range.get i = s.conv.range.get i) ∧
      (r = .helm → s.station.timing = true →
        t.helm.live.thrust = (if sound reference ∧ good a0 then lever a0 else s.helm.live.thrust) ∧
        t.helm.live.turn = (if sound reference ∧ good a1 then lever a1 else s.helm.live.turn) ∧
        t.helm.live.mode = s.helm.live.mode ∧ t.helm.live.cap = s.helm.live.cap ∧
        t.helm.live.stopAll = s.helm.live.stopAll ∧
        (s.station.helmReporting = true →
          (t.has .leverSignal = true ↔ ¬ (sound reference ∧ good a0 ∧ good a1))) ∧
        (s.helm.con ≠ .holding ∨ ¬ differs t.helm.live s.helm.current →
          t.helm = { s.helm with live := t.helm.live, thrustFault := t.helm.thrustFault,
                                 turnFault := t.helm.turnFault } ∧
          t.demand = s.demand) ∧
        (s.helm.con = .holding → differs t.helm.live s.helm.current →
          (s.station.acting = true → s.comms.link.queue.length ≤ 5 → t.waits .demand = true) ∧ LagsRenumbered s t ∧
          t.helm.current = t.helm.live ∧ t.helm.number = s.helm.number + 1 ∧
          t.demand.record = { demand := t.helm.live, number := s.helm.number + 1, accepted := some (s.later dt),
                              state := .fresh })) ∧
      (r = .helm → OnlyTouches [.clock, .conv, .helm, .demand, .present, .alerts, .link] s t) ∧
      (r = .propulsion → sound reference → good a0 →
        t.steer.angle = Int.tdiv (((a0.toNat : Int) - 2048) * s.param Param.angleSpan) 2047) ∧
      (r = .propulsion → ¬ (sound reference ∧ good a0) → t.steer.angle = s.steer.angle ∧
        (s.steer.supervised = true → s.station.acting = true → s.steer.feedback = false →
          t.has .rudderFeedback = true ∧ t.steer.feedback = true ∧ t.steer.drive = .inhibited ∧
          t.steer.deviation = none ∧
          (s.steer.drive ≠ .inhibited →
            t.steer.followTimer = none ∧ (t.outputs.outs.get 1).Closed ∧ (t.outputs.outs.get 2).Closed)) ∧
        (s.steer.feedback = true → t.steer = s.steer ∧ t.comms = s.comms ∧ t.outputs = s.outputs)) ∧
      (r = .propulsion → s.steer.supervised = false → t.comms = s.comms ∧ t.outputs = s.outputs ∧
        t.steer.drive = s.steer.drive) ∧
      (r = .propulsion → OnlyTouches [.clock, .conv, .steer, .present, .alerts, .link, .outputs] s t))

/-! ## The machinery of a COUPLING station (chapter 6) -/

/-- R96 to R101, R105, R107, R108, R140, R196: a delivery of the tension bridge. An in-range result enters the peaks
and the window and, with the latch clear, moves the class by the three boundaries, or by rising steps from SLACK
until the class is taken, which it is from the first window of four values, the latch set or not; rising steps also
after a latch ended by acknowledgement before that are the model's inference (notes/assumptions/46.md). A fall from
HIGH to under the parted level is a PARTED onset. A heave goes on while the class is SLACK or TAUT, until the
filtered tension reaches the taut level and the hysteresis and the winch is HOLDING; any other class ends it in IDLE
(all said with no start request standing, which a report of the onset would serve: R196). The slack dwell of an IDLE
winch starts when its last condition comes to hold. A fault raises TENSION_SIGNAL and ends a heave. -/
def Obligations.TensionMovesTheClass : Prop :=
  ∀ (s : State) (dt : Micros) (raw a1 reference l0 l1 l2 : Raw) (since : Clock),
    s.isCoup = true → s.station.taking = true → s.conv.state = .sequence since raw a1 reference →
    80 ≤ elapsed (s.later dt) since →
    let sound := 2008 ≤ reference.toNat ∧ reference.toNat ≤ 2088 ∧ 20 < raw.toNat ∧ raw.toNat < 4075
    let tension := raw.toNat * 2000 / 4095
    let window := (s.coup.window ++ [tension]).drop (s.coup.window.length + 1 - 4)
    let filtered := sumNat window / window.length
    let raised := fun (peak : Option Nat) => if peak = none then some tension else peak.map (max tension)
    let taken := s.coup.classTaken
    let parts := s.coup.supervised = true ∧ taken = true ∧ tension < s.param Param.partedLevel ∧
      s.param Param.highLevel ≤ s.coup.filtered
    let cls := if taken then s.classFallen filtered (s.classRisen filtered s.coup.cls)
      else s.classRisen filtered .slack
    ∃ t, exec (.sequenceCompletion dt l0 l1 l2) s = .next t ∧ t.clock = s.later dt ∧
      (sound →
        t.coup.window = window ∧ t.coup.filtered = filtered ∧ t.coup.peak = raised s.coup.peak ∧
        t.coup.peakSince = raised s.coup.peakSince ∧
        (s.coup.supervised = true → t.has .tensionSignal = false) ∧
        (parts → t.coup.cls = .parted ∧ t.coup.partedLatch = true ∧ t.has .parted = true ∧
          t.coup.onset = some (s.later dt)) ∧
        t.coup.classTaken = (taken || decide (window.length = 4)) ∧
        (¬ parts → s.coup.partedLatch = true → t.coup.cls = s.coup.cls ∧ t.coup.partedLatch = true ∧
          t.coup.onset = s.coup.onset) ∧
        (¬ parts → s.coup.partedLatch = false →
          t.coup.cls = cls ∧ t.coup.partedLatch = false ∧
          (s.coup.supervised = true → cls ≠ s.coup.cls →
            (cls = .high → t.has .strainHigh = true) ∧ (s.coup.cls = .high → t.has .strainHigh = false) ∧
            (cls = .overload → t.has .overload = true ∧ t.coup.onset = some (s.later dt)) ∧
            (s.coup.cls = .overload → t.has .overload = false) ∧
            (s.station.acting = true → s.comms.link.queue.length ≤ 6 → t.waits .strain = true)) ∧
          (s.coup.supervised = false ∨ cls = s.coup.cls →
            t.has .strainHigh = s.has .strainHigh ∧ t.has .overload = s.has .overload ∧
            t.coup.onset = s.coup.onset) ∧
          (s.coup.supervised = true → s.station = .standby → cls ≠ s.coup.cls →
            cls = .high ∨ cls = .overload → t.station = .active ∧ t.RepeatsAfresh))) ∧
      (¬ sound →
        t.coup.window = s.coup.window ∧ t.coup.filtered = s.coup.filtered ∧ t.coup.cls = s.coup.cls ∧
        t.coup.peak = s.coup.peak ∧ t.coup.peakSince = s.coup.peakSince ∧ t.coup.partedLatch = s.coup.partedLatch ∧
        t.station = s.station ∧
        (s.coup.supervised = true → t.has .tensionSignal = true) ∧
        (s.coup.supervised = true → s.station = .active → t.coup.winch ≠ .heaving) ∧
        (s.coup.supervised = false → t.coup = s.coup ∧ t.comms = s.comms)) ∧
      (sound → s.coup.supervised = true → s.station = .active → s.coup.winch = .heaving → s.permit = true →
        s.coup.partedLatch = false → s.start.request = false →
        let low := ¬ parts ∧ (cls = .slack ∨ cls = .taut)
        let taut := s.param Param.tautLevel + s.param Param.hysteresis ≤ filtered
        (low → taut → t.coup.winch = .holding ∧ t.coup.settleTimer = startTimer (s.later dt) (sec 5) ∧
          t.coup.runTimer = none ∧ t.coup.dwellTimer = none) ∧
        (low → ¬ taut → t.coup.winch = .heaving ∧ t.coup.runTimer = s.coup.runTimer ∧
          t.coup.drumSnap = s.coup.drumSnap ∧ t.coup.drumCount = s.coup.drumCount ∧ outputChanges s t = []) ∧
        (¬ low → t.coup.winch = .idle ∧ t.coup.runTimer = none) ∧
        (¬ low ∨ taut → outputChanges s t = [((0 : Fin 8), false), ((1 : Fin 8), false)])) ∧
      DwellJudged s t ∧
      (s.coup.supervised = false → t.coup.winch = s.coup.winch ∨ t.coup.winch = .holding) ∧
      (s.station ≠ .active → s.station ≠ .standby → t.coup.winch = s.coup.winch) ∧
      OnlyTouches [.clock, .conv, .coup, .station, .demand, .present, .alerts, .link] s t

/-- R100, R104, R105, R107, R109 to R112: the other events of the coupling and its winch: the wire-broken input
makes a PARTED onset; IN1 locks the winch out and lets it go; the slack dwell ends in a heave; a heave too long ends
in LOCKED_OUT with WINCH_RUN; the settled winch is idle, with the slack dwell judged anew. That the two output lines
change in the order of R105 within one step is the model's `outputChanges`, its choice (notes/assumptions/23.md). -/
def Obligations.WireAndWinchEvents : Prop :=
  let dwells := fun (s : State) (now : Clock) =>
    if s.coup.supervised = true ∧ s.coup.cls = .slack ∧ s.permit = true ∧ s.has .tensionSignal = false
    then startTimer now (sec (s.param Param.slackDwell)) else none
  (∀ (s : State) (dt : Micros) (on : Bool), s.isCoup = true →
    let parts := s.line 0 = false ∧ on = true ∧ s.coup.supervised = true ∧ s.station.acting = true
    ∃ t, exec (.wireBrokenInput dt on) s = .next t ∧ t.clock = s.later dt ∧ t.lines = s.lines.set 0 on ∧
      (¬ parts → t = { s.advance dt with lines := s.lines.set 0 on }) ∧
      (parts → t.coup.cls = .parted ∧ t.coup.partedLatch = true ∧ t.coup.onset = some (s.later dt) ∧
        t.has .parted = true ∧ t.coup.winch ≠ .heaving ∧
        (s.coup.cls = .high → t.has .strainHigh = false) ∧ (s.coup.cls = .overload → t.has .overload = false) ∧
        t.station = .active ∧ (s.comms.link.queue.length ≤ 6 → t.waits .strain = true)) ∧
      OnlyTouches [.clock, .lines, .present, .alerts, .link, .coup, .station, .demand, .conv] s t) ∧
  (∀ (s : State) (dt : Micros) (on : Bool), s.isCoup = true →
    let u := { s.advance dt with lines := s.lines.set 1 on }
    let held := { s.coup with dwellTimer := none, runTimer := none, settleTimer := none }
    ∃ t, exec (.winchLockoutInput dt on) s = .next t ∧
      (s.line 1 = on ∨ s.station ≠ .active → t = u) ∧
      (s.line 1 = false → on = true → s.station = .active →
        t = { u with coup := { held with winch := .lockedOut } }) ∧
      (s.line 1 = true → on = false → s.station = .active → s.coup.winch ≠ .lockedOut ∨ s.has .winchRun = true →
        t = u) ∧
      (s.line 1 = true → on = false → s.station = .active → s.coup.winch = .lockedOut → s.has .winchRun = false →
        t = { u with coup := { held with winch := .idle, dwellTimer := dwells s (s.later dt) } })) ∧
  (∀ (s : State) (dt : Micros), s.isCoup = true → s.station = .active → s.coup.winch = .idle →
    due s.coup.dwellTimer (s.later dt) = true →
    let t := { s.advance dt with coup := { s.coup with
      winch := .heaving, dwellTimer := none, runTimer := startTimer (s.later dt) (sec (s.param Param.maxRunTime)),
      drumSnap := (s.caps.get 0).count, drumCount := 0 } }
    exec (.slackDwellExpiry dt) s = .next t ∧
    outputChanges s t = [((1 : Fin 8), true), ((0 : Fin 8), true)]) ∧
  (∀ (s : State) (dt : Micros), s.isCoup = true → s.station = .active → s.coup.winch = .heaving →
    due s.coup.runTimer (s.later dt) = true →
    ∃ t, exec (.runTimerExpiry dt) s = .next t ∧
      Raises .winchRun
        { s.advance dt with coup := { s.coup with winch := .lockedOut, dwellTimer := none, runTimer := none,
                                                  settleTimer := none } } t ∧
      outputChanges s t = [((0 : Fin 8), false), ((1 : Fin 8), false)]) ∧
  (∀ (s : State) (dt : Micros), s.isCoup = true → s.station = .active → s.coup.winch = .holding →
    due s.coup.settleTimer (s.later dt) = true →
    exec (.winchSettleExpiry dt) s = .next { s.advance dt with coup := { s.coup with
      winch := .idle, dwellTimer := dwells s (s.later dt), runTimer := none, settleTimer := none } })

/-! ## Capture channels and PWM outputs (chapter 10) -/

/-- R72 to R74, R109, R120, R170 to R177: a capture edge is accepted against the minimum interval, with its stamps,
its count and its owner's use of it, or rejected as noise; the noise timer and the stamp expiry end what they hold;
a period start brings a pending bank into control and drives its duty: the output is high for duty × 2 µs of its
period and low for the rest, low throughout at 0 and high throughout at 1000. The speed of a period of 0 µs is left
open (notes/assumptions/6.md); that a stamp of START gives a period, and that a period of exactly 2,000,000 µs gives
a speed of 0, are the model's inferences (35.md, 53.md). -/
def Obligations.CapturesAndPeriods : Prop :=
  (∀ (s : State) (dt : Micros) (ch : Fin 4),
    let c := s.caps.get ch
    let shortest := s.param (Param.minInterval ch)
    let accepts := ∀ stamp, c.stamp = some stamp → shortest ≤ elapsed (s.later dt) stamp
    let rejects := ∃ stamp, c.stamp = some stamp ∧ elapsed (s.later dt) stamp < shortest
    ∃ t, exec (.captureEdge dt ch) s = .next t ∧ t.clock = s.later dt ∧
      (∀ k, k ≠ ch → t.caps.get k = s.caps.get k) ∧
      (accepts → t.caps.get ch = { c with
        stamp := some (s.later dt), previous := c.stamp, count := c.count + 1,
        expiryTimer := startTimer (s.later dt) 2147483648 }) ∧
      (rejects → t.caps.get ch = { c with noise := true, noiseTimer := startTimer (s.later dt) (sec 2) } ∧
        t.gov.rpm = s.gov.rpm ∧ t.coup = s.coup ∧ t.meter = s.meter ∧
        (s.isProp = true → s.station.acting = true →
          (ch = 0 → t.has .shaftSignal = true) ∧ (ch = 1 ∨ ch = 2 → t.has .flowSignal = true))) ∧
      (s.isHelm = true ∨ ch = 3 → OnlyTouches [.clock, .caps] s t) ∧
      (accepts → s.isProp = true → s.station.joined = true → ch = 0 →
        t.gov.lastPulse = some (s.later dt) ∧ t.gov.pulseTimer = startTimer (s.later dt) (sec 2) ∧
        t.gov.noPulse = false ∧ (c.stamp = none → t.gov.rpm = s.gov.rpm) ∧
        (∀ stamp, c.stamp = some stamp → 0 < elapsed (s.later dt) stamp →
          t.gov.rpm = if elapsed (s.later dt) stamp < 2000000
            then 60000000 / (elapsed (s.later dt) stamp * s.param Param.pulsesPerRev) else 0) ∧
        (s.station.acting = true → t.has .shaftSignal = c.noise ∧
          (t.gov.rpm ≠ s.gov.rpm → s.param Param.maxSpeed * 11 / 10 < t.gov.rpm →
            t.has .overspeed = true ∧ (s.has .overspeed = false → t.thrust.factor = 0 ∧ t.thrust.x = 0)))) ∧
      (accepts → s.isProp = true → ch = 1 → t.meter.noSupply = false ∧
        (s.station.acting = true → t.has .flowSignal = (c.noise || (s.caps.get 2).noise))) ∧
      (accepts → s.isCoup = true → ch = 0 → s.station = .active → s.coup.winch = .heaving →
        let pulses := (c.count + 1 - s.coup.drumSnap).toNat
        t.coup.drumCount = pulses ∧
        (pulses ≤ s.param Param.maxDrumCount → t.coup = { s.coup with drumCount := pulses } ∧ t.comms = s.comms) ∧
        (s.param Param.maxDrumCount < pulses → t.coup.winch = .lockedOut ∧ t.coup.runTimer = none ∧
          t.has .winchRun = true)) ∧
      OnlyTouches [.clock, .caps, .present, .alerts, .link, .thrust, .gear, .gov, .outputs, .meter, .coup] s t) ∧
  (∀ (s : State) (dt : Micros) (ch : Fin 4), due (s.caps.get ch).noiseTimer (s.later dt) = true →
    ∃ t, exec (.noiseTimerExpiry dt ch) s = .next t ∧ t.clock = s.later dt ∧
      t.caps = s.caps.set ch { s.caps.get ch with noise := false, noiseTimer := none } ∧
      (s.isProp = true → s.station.acting = true →
        (ch = 0 → t.has .shaftSignal = s.gov.noPulse) ∧
        (ch = 1 → t.has .flowSignal = (s.meter.noSupply || (s.caps.get 2).noise)) ∧
        (ch = 2 → t.has .flowSignal = (s.meter.noSupply || (s.caps.get 1).noise))) ∧
      (s.isProp = false ∨ s.station.acting = false ∨ ch = 3 → OnlyTouches [.clock, .caps] s t) ∧
      OnlyTouches [.clock, .caps, .present, .alerts, .link, .thrust, .gear, .gov, .outputs] s t) ∧
  (∀ (s : State) (dt : Micros) (ch : Fin 4), due (s.caps.get ch).expiryTimer (s.later dt) = true →
    exec (.stampExpiry dt ch) s = .next { s.advance dt with
      caps := s.caps.set ch { s.caps.get ch with stamp := none, previous := none, expiryTimer := none } }) ∧
  (∀ (s : State) (dt : Micros), due (some s.outputs.periods) (s.later dt) = true →
    ∃ t, exec (.periodStart dt) s = .next t ∧ t.clock = s.later dt ∧
      t.outputs.periods = { s.outputs.periods with
        since := s.outputs.periods.since + BitVec.ofNat 32 s.outputs.periods.span } ∧
      (∀ i, let p := s.outputs.outs.get i
        let q := t.outputs.outs.get i
        q.pending = false ∧ q.bankA = p.bankA ∧ q.bankB = p.bankB ∧
        (p.pending = false → q.inControl = p.inControl) ∧ (p.pending = true → q.inControl ≠ p.inControl) ∧
        (q.inControl = .a → q.driving = p.bankA) ∧ (q.inControl = .b → q.driving = p.bankB)) ∧
      OnlyTouches [.clock, .outputs] s t) ∧
  (∀ (s : State) (i : Fin 3),
    let duty := (s.outputs.outs.get i).driving
    let into := elapsed s.clock s.outputs.periods.since
    (duty = 0 → s.pwmLevel i = false) ∧ (1000 ≤ duty → s.pwmLevel i = true) ∧
    (0 < duty → duty < 1000 → (s.pwmLevel i = true ↔ into < 2 * duty)))

/-! ## Invariants that every step keeps -/

/-- R131, R133, R139: no step of the station breaks the alert list: at most 16 entries, one for each code, and every
present trip-class condition has an active entry. TRIP is asserted just while the list holds an active trip-class
entry, and in FAILED; WARN just while it holds an unacknowledged entry, but not in FAILED, where no list is kept by
the model's inference (notes/assumptions/17.md). -/
def Obligations.EveryStepKeepsTheAlertList : Prop :=
  (∀ s t : State, AlertInv s → TripInv s → step s = .next t → AlertInv t ∧ TripInv t) ∧
  (∀ s : State,
    (s.trip = true ↔ s.station = .failed ∨ ∃ e ∈ s.comms.alerts.list, tripClass e.code = true ∧
      (e.state = .activeUnack ∨ e.state = .activeAcked)) ∧
    (s.warn = true ↔ s.station ≠ .failed ∧ ∃ e ∈ s.comms.alerts.list,
      e.state = .activeUnack ∨ e.state = .clearedUnack)) ∧
  (∀ c : AlertCode, tripClass c = true ↔
    c ∈ [AlertCode.duplicateAddress, .configCorrupt, .gearInterlock, .gearTimeout, .overspeed, .rudderInterlock,
      .rudderFeedback, .overload, .parted])

/-- R162, R163, R168: no step breaks the transmit queue: at most 8 frames and at most one of each coalescing kind,
and a station that may not send holds none and is IDLE. -/
def Obligations.EveryStepKeepsTheQueue : Prop :=
  ∀ s t : State, QueueInv s → SilentInv s → step s = .next t → QueueInv t ∧ SilentInv t

/-- R60, R82, R83, R105, R178, R179, R180: while the safe state stands every PWM output is as its immediate write
left it, each valve's next duty is 0 unless the drive runs that way, so the two are never both nonzero, and no step
turns a running drive round. Every discrete output is off in the safe state; outside it the ahead solenoid DO0 is on
just in ENGAGING_AHEAD and AHEAD and the astern solenoid DO1 just in ENGAGING_ASTERN and ASTERN, never both, and the
heave contactor DO0 and the brake release DO1 of a COUPLING station are on just while its winch heaves. -/
def Obligations.EveryStepKeepsTheValves : Prop :=
  (∀ s t : State, SafeInv s → ValveInv s → step s = .next t → SafeInv t ∧ ValveInv t) ∧
  (∀ s : State, ValveInv s → (s.outputs.outs.get 1).next = 0 ∨ (s.outputs.outs.get 2).next = 0) ∧
  (∀ s t : State, step s = .next t →
    (s.steer.drive = .drivingPort → t.steer.drive ≠ .drivingStbd) ∧
    (s.steer.drive = .drivingStbd → t.steer.drive ≠ .drivingPort)) ∧
  (∀ s : State, s.isProp = true →
    (s.discrete 0 = true ↔ s.station.safe = false ∧ (s.gear.state = .engagingAhead ∨ s.gear.state = .ahead)) ∧
    (s.discrete 1 = true ↔ s.station.safe = false ∧ (s.gear.state = .engagingAstern ∨ s.gear.state = .astern)) ∧
    ¬ (s.discrete 0 = true ∧ s.discrete 1 = true)) ∧
  (∀ s : State, s.isCoup = true →
    (s.discrete 0 = true ↔ s.station.safe = false ∧ s.coup.winch = .heaving) ∧ s.discrete 1 = s.discrete 0) ∧
  (∀ s : State, s.isHelm = false → ∀ i : Fin 8, 1 < i.val → s.discrete i = false) ∧
  (∀ s : State, s.station.safe = true → ∀ i : Fin 8, s.discrete i = false) ∧
  (∀ s : State, s.station.safe = true ↔
    s.station = .start ∨ s.station = .failed ∨ s.station = .joining ∨ s.station = .listenOnly ∨ s.station = .halted)

/-- R38, R48, R51, R53, R55, R177: no step takes X off 0 outside an engaged gear in ACTIVE and STANDBY or beyond the
availability in its direction, nor the duty above 1000; the duty is the one that OUT0 drives once a pending write is
taken; F stands at the least factor of the coupling entries, so at no more than any one's; E stays in its range. -/
def Obligations.EveryStepKeepsTheThrust : Prop :=
  (∀ s t : State, ThrustInv s → StrainInv s → TrimInv s → step s = .next t →
    ThrustInv t ∧ StrainInv t ∧ TrimInv t) ∧
  (∀ s t : State, ThrustInv s → GovernorInv s → step s = .next t → GovernorInv t) ∧
  (∀ (s : State) (a : Addr) (e : Entry) (joint : Nat) (refresh : Bool) (record : StrainRecord),
    StrainInv s → s.isProp = true → s.station.taking = true → a ≠ s.address → s.peers.entries.get a = some e →
    e.body = .coupling joint refresh record →
    s.thrust.strain ≤ classFactor record.cls ∧ (e.liveness = .silent → s.thrust.strain ≤ 750))

/-- R19, R32, R126, R143, R194: no step breaks what a HELM station keeps: a helm in HOLDING is the holder in its own
view and never stands by; every demand stays in its range; the view holds at most 48 items, one for each station and
code; the convoy totals are the sums of the records, and only a reset lowers one. That no total ever falls holds
because the totals and the carried values are unbounded numbers, the model's choice (notes/assumptions/27.md). -/
def Obligations.EveryStepKeepsTheHelm : Prop :=
  (∀ s t : State, ConInv s → HelmAwake s → DemandInv s → step s = .next t →
    ConInv t ∧ HelmAwake t ∧ DemandInv t) ∧
  (∀ s t : State, ViewInv s → step s = .next t → ViewInv t) ∧
  (∀ s t : State, AccountInv s → step s = .next t → AccountInv t) ∧
  (∀ (c : Instr) (s t : State), AccountInv s → isReset c = false → exec c s = .next t →
    ∀ k, s.account.totals.get k ≤ t.account.totals.get k)

/-- R105, R107, R108, R111: no step but a CONFIG_WATCH that carries damage breaks the winch of a COUPLING station:
the slack dwell runs just while the station is ACTIVE, the winch IDLE, the class SLACK, the permit true and no
tension fault present, and a dwell that a step starts runs its full length from that step's moment; the winch heaves
only with the permit true, the class SLACK or TAUT and no tension fault; and in ACTIVE it is LOCKED_OUT just while
IN1 is on or WINCH_RUN is present. Every CONFIG_WATCH with damage is left aside, due or not: that damage comes as an
operand and at once, so that a word of the image may move a level that the winch rests on before the run that finds
it, is the model's choice (notes/assumptions/21.md). -/
def Obligations.EveryStepKeepsTheWinch : Prop :=
  ∀ s t : State, WinchInv s →
    (∀ dt damage rest, s.pending = .configWatch dt damage :: rest → damage = []) →
    step s = .next t →
      WinchInv t ∧ (t.isCoup = true → t.coup.dwellTimer = none ∨ t.coup.dwellTimer = s.coup.dwellTimer ∨
        t.coup.dwellTimer = startTimer t.clock (sec (t.param Param.slackDwell)))
end

