-- ==== Sys2Proof/Laws/Line.lean ====
section
/-! SUPPORT. The half-bit levels of what a station sends: how many there are, and which one a bit has. The receive
residue of what it takes. -/

namespace Sys2Proof.Machine

theorem codeLevels_length (bits : List Bool) : (codeLevels bits).length = 2 * bits.length := by
  induction bits with
  | nil => rfl
  | cons b bs ih => simp only [codeLevels, List.flatMap_cons, List.length_append, bitLevels, List.length_cons,
      List.length_nil] at *; omega

theorem codeLevels_first (bits : List Bool) : ∀ n, (codeLevels bits)[2 * n]? = bits[n]?.map (!·) := by
  induction bits with
  | nil => intro n; simp [codeLevels]
  | cons b bs ih =>
    intro n
    cases n with
    | zero => rfl
    | succ n => simpa [codeLevels, bitLevels, Nat.mul_add] using ih n

theorem codeLevels_second (bits : List Bool) : ∀ n, (codeLevels bits)[2 * n + 1]? = bits[n]? := by
  induction bits with
  | nil => intro n; simp [codeLevels]
  | cons b bs ih =>
    intro n
    cases n with
    | zero => rfl
    | succ n => simpa [codeLevels, bitLevels, Nat.mul_add] using ih n

theorem preambleBits_length : preambleBits.length = 16 := rfl

theorem endLevels_length : endLevels.length = 4 := rfl

/-- After a whole preamble the receive residue is that of the later bits. -/
@[simp] theorem takenResidue_preamble (bits : List Bool) (r : Word) :
    takenResidue (preambleBits ++ bits) r = crcBits crcSeed bits := rfl

/-- Before the preamble has ended the receive residue stands. -/
theorem takenResidue_short {bits : List Bool} (h : bits.length < 16) (r : Word) : takenResidue bits r = r :=
  if_neg fun e => absurd (congrArg List.length e) (by simp only [List.length_take, preambleBits_length]; omega)

end Sys2Proof.Machine
end

