-- ==== Sys2Proof/Laws/Touches.lean ====
section
/-! SUPPORT. What each shared operation leaves alone: one frame lemma for each, in terms of the parts of a station. -/

namespace Sys2Proof.Machine

-- One theorem at a time: elaborated in parallel, these would each hold a thread while waiting for the ones before.
set_option Elab.async false

/-! ## The calculus of frames -/

theorem OnlyTouches.of {ps : List Part} {s t : State} (h : ∀ p, p ∈ ps ∨ p.same s t) : OnlyTouches ps s t :=
  fun p hp => (h p).resolve_left hp

theorem OnlyTouches.refl (ps : List Part) (s : State) : OnlyTouches ps s s :=
  fun p _ => by cases p <;> rfl

theorem Part.same_trans {p : Part} {s t u : State} (h : p.same s t) (k : p.same t u) : p.same s u := by
  cases p <;> exact Eq.trans k h

theorem OnlyTouches.trans {ps : List Part} {s t u : State} (h : OnlyTouches ps s t) (k : OnlyTouches ps t u) :
    OnlyTouches ps s u :=
  fun p hp => Part.same_trans (h p hp) (k p hp)

theorem OnlyTouches.mono {ps qs : List Part} {s t : State} (h : OnlyTouches ps s t)
    (sub : ∀ p ∈ ps, p ∈ qs := by decide) : OnlyTouches qs s t :=
  fun p hp => h p (fun hq => hp (sub p hq))

theorem OnlyTouches.ite {ps : List Part} {s t u : State} {c : Prop} [Decidable c]
    (h : OnlyTouches ps s t) (k : OnlyTouches ps s u) : OnlyTouches ps s (if c then t else u) := by
  split <;> assumption

theorem whenever_touches {ps : List Part} {f : State → State} (s : State) (p : Bool)
    (h : OnlyTouches ps s (f s)) : OnlyTouches ps s (s.whenever p f) := by
  unfold State.whenever; split
  · exact h
  · exact .refl _ _

/-! ## Lists of parts -/

/-- The parts that raises, clears and offered frames touch. -/
abbrev commsParts : List Part := [.present, .alerts, .link]
/-- The parts of the drive: thrust unit, gear, governor supervisor, outputs. -/
abbrev driveParts : List Part := [.thrust, .gear, .gov, .outputs]
/-- The drive with its reports. -/
abbrev driveComms : List Part := [.present, .alerts, .link, .thrust, .gear, .gov, .outputs]
/-- The steering unit with its outputs and reports. -/
abbrev steerComms : List Part := [.present, .alerts, .link, .steer, .outputs]
/-- The coupling unit with its reports and the standby that its class brings. -/
abbrev coupComms : List Part := [.present, .alerts, .link, .coup, .station, .demand, .conv]
/-- What an entry to STANDBY or a return from it touches. -/
abbrev standParts : List Part :=
  [.present, .alerts, .link, .station, .start, .demand, .thrust, .meter, .coup, .conv]
/-- What the con state machine touches. -/
abbrev conParts : List Part := [.present, .alerts, .link, .helm, .demand, .view, .account]

/-! ## Reports (sections 8.2, 9.6) -/

theorem advance_touches (s : State) (dt : Micros) : OnlyTouches [.clock] s (s.advance dt) :=
  .of fun p => by cases p <;> first | exact .inl (by decide) | exact .inr rfl

theorem raise_touches (s : State) (c : AlertCode) : OnlyTouches commsParts s (s.raise c) :=
  .of fun p => by cases p <;> first | exact .inl (by decide) | exact .inr rfl

theorem raiseNew_touches (s : State) (c : AlertCode) : OnlyTouches commsParts s (s.raiseNew c) :=
  .of fun p => by cases p <;> first | exact .inl (by decide) | exact .inr rfl

theorem clear_touches (s : State) (c : AlertCode) : OnlyTouches commsParts s (s.clear c) :=
  .of fun p => by cases p <;> first | exact .inl (by decide) | exact .inr rfl

theorem follow_touches (s : State) (c : AlertCode) (b : Bool) : OnlyTouches commsParts s (s.follow c b) :=
  .ite (raiseNew_touches s c) (clear_touches s c)

theorem relist_touches (s : State) (l : List AlertEntry) : OnlyTouches commsParts s (s.relist l) :=
  .of fun p => by cases p <;> first | exact .inl (by decide) | exact .inr rfl

theorem offer_touches (s : State) (k : FrameKind) (c : Fin 4) : OnlyTouches commsParts s (s.offer k c) :=
  .of fun p => by cases p <;> first | exact .inl (by decide) | exact .inr rfl

theorem offerWith_touches (s : State) (c : Fin 4) (p : Payload) : OnlyTouches commsParts s (s.offerWith c p) :=
  .of fun p => by cases p <;> first | exact .inl (by decide) | exact .inr rfl

theorem offerAlert_touches (s : State) : OnlyTouches commsParts s s.offerAlert := offer_touches s _ _

theorem setLine_touches (s : State) (i : Fin 16) (on : Bool) : OnlyTouches [.lines] s (s.setLine i on) :=
  .of fun p => by cases p <;> first | exact .inl (by decide) | exact .inr rfl

theorem selectTank_touches (s : State) (v : BitVec 2) : OnlyTouches [.lines] s (s.selectTank v) :=
  .ite ((setLine_touches _ _ _).trans (setLine_touches _ _ _)) (.refl _ _)

/-! ## Outputs (section 10.4) -/

theorem writeDuty_touches (s : State) (i : Fin 3) (d : Nat) : OnlyTouches [.outputs] s (s.writeDuty i d) :=
  .of fun p => by cases p <;> first | exact .inl (by decide) | exact .inr rfl

theorem closeValves_touches (s : State) : OnlyTouches [.outputs] s s.closeValves :=
  .of fun p => by cases p <;> first | exact .inl (by decide) | exact .inr rfl

theorem applySafe_touches (s : State) : OnlyTouches [.outputs] s s.applySafe :=
  .of fun p => by cases p <;> first | exact .inl (by decide) | exact .inr rfl

/-! ## Peer table (chapter 1) -/

theorem followChange_touches (s : State) (c : AlertCode) (was b : Bool) :
    OnlyTouches commsParts s (s.followChange c was b) :=
  .ite (.refl _ _) (follow_touches s c b)

theorem judgeConflict_touches (s : State) (was : Bool) : OnlyTouches commsParts s (s.judgeConflict was) :=
  .of fun p => by cases p <;> first | exact .inl (by decide) | exact .inr rfl

theorem judgeSilent_touches (s : State) (was : Bool) : OnlyTouches commsParts s (s.judgeSilent was) :=
  .of fun p => by cases p <;> first | exact .inl (by decide) | exact .inr rfl

theorem recordConflict_touches (s : State) (a : Addr) :
    OnlyTouches [.present, .alerts, .link, .peers] s (s.recordConflict a) :=
  .of fun p => by cases p <;> first | exact .inl (by decide) | exact .inr rfl

theorem updateEntry_touches (s : State) (f : Frame) : OnlyTouches [.peers] s (s.updateEntry f) :=
  .of fun p => by cases p <;> first | exact .inl (by decide) | exact .inr rfl

theorem sweepTable_touches (s : State) : OnlyTouches [.peers] s s.sweepTable :=
  .of fun p => by cases p <;> first | exact .inl (by decide) | exact .inr rfl

theorem forgetEntries_touches (s : State) : OnlyTouches [.peers] s s.forgetEntries :=
  .of fun p => by cases p <;> first | exact .inl (by decide) | exact .inr rfl

/-! ## Thrust unit and gear (chapters 3 and 4) -/

theorem setDrive_touches (s : State) (x : Int) (g : GearState) : OnlyTouches driveParts s (s.setDrive x g) :=
  .of fun p => by cases p <;> first | exact .inl (by decide) | exact .inr rfl

theorem setX_touches (s : State) (x : Int) : OnlyTouches driveParts s (s.setX x) := setDrive_touches s _ _

theorem thrust_touches (s : State) (u : ThrustUnit) : OnlyTouches [.thrust] s { s with thrust := u } :=
  .of fun p => by cases p <;> first | exact .inl (by decide) | exact .inr rfl

theorem gear_touches (s : State) (u : GearUnit) : OnlyTouches [.gear] s { s with gear := u } :=
  .of fun p => by cases p <;> first | exact .inl (by decide) | exact .inr rfl

theorem gov_touches (s : State) (u : GovernorUnit) : OnlyTouches [.gov] s { s with gov := u } :=
  .of fun p => by cases p <;> first | exact .inl (by decide) | exact .inr rfl

theorem thrustTick_touches (s : State) : OnlyTouches driveParts s s.thrustTick :=
  (thrust_touches s _).mono.trans (setX_touches _ _)

theorem refreshAvailability_touches (s : State) : OnlyTouches driveParts s s.refreshAvailability :=
  .ite ((thrust_touches s _).mono.trans (setX_touches _ _)) (.refl _ _)

theorem setGear_touches (s : State) (g : GearState) : OnlyTouches driveParts s (s.setGear g) :=
  .ite (setDrive_touches _ _ _) ((setDrive_touches _ _ _).trans (refreshAvailability_touches _))

theorem refreshStrain_touches (s : State) : OnlyTouches driveParts s s.refreshStrain :=
  .ite (.ite ((thrust_touches s _).mono.trans (setX_touches _ _)) (thrust_touches s _).mono) (.refl _ _)

theorem evaluateTrim_touches (s : State) : OnlyTouches [.thrust] s s.evaluateTrim := thrust_touches s _

theorem judgeEngine_touches (s : State) : OnlyTouches commsParts s s.judgeEngine :=
  .of fun p => by cases p <;> first | exact .inl (by decide) | exact .inr rfl

theorem enterGear_touches (s : State) (g : GearState) : OnlyTouches driveParts s (s.enterGear g) :=
  (gear_touches s _).mono.trans (setGear_touches _ _)

theorem disengage_touches (s : State) : OnlyTouches driveParts s s.disengage :=
  (enterGear_touches s _).trans (.ite (enterGear_touches _ _) (.refl _ _))

theorem faultGear_touches (s : State) (c : AlertCode) : OnlyTouches driveComms s (s.faultGear c) :=
  (raise_touches s c).mono.trans (enterGear_touches _ _).mono

theorem beginRelease_touches (s : State) : OnlyTouches driveParts s s.beginRelease :=
  .ite (gear_touches s _).mono (.ite (disengage_touches s) (gear_touches s _).mono)

theorem abandonRelease_touches (s : State) : OnlyTouches [.gear] s s.abandonRelease := gear_touches s _

theorem gearAction_touches (s : State) : OnlyTouches driveParts s s.gearAction := by
  unfold State.gearAction
  split
  · exact .ite (enterGear_touches _ _) (.refl _ _)
  · split
    · exact .ite (beginRelease_touches _) (.refl _ _)
    · exact .ite (abandonRelease_touches s).mono (.ite (disengage_touches _) (.refl _ _))
    · exact .ite (.refl _ _) (abandonRelease_touches s).mono
  · split
    · exact .ite (beginRelease_touches _) (.refl _ _)
    · exact .ite (abandonRelease_touches s).mono (.ite (disengage_touches _) (.refl _ _))
    · exact .ite (.refl _ _) (abandonRelease_touches s).mono
  all_goals exact .refl _ _

theorem gearTick_touches (s : State) : OnlyTouches driveParts s s.gearTick :=
  whenever_touches s _ (gearAction_touches s)

theorem judgeFeedback_touches (s : State) : OnlyTouches driveComms s s.judgeFeedback := by
  unfold State.judgeFeedback
  split
  · exact faultGear_touches s _
  · exact faultGear_touches s _
  · exact (enterGear_touches s _).mono
  · exact .refl _ _

theorem gearFeedback_touches (s : State) (a b : Bool) :
    OnlyTouches (.lines :: driveComms) s (s.gearFeedback a b) :=
  (setLine_touches s _ _).mono.trans ((setLine_touches _ _ _).mono.trans
    (whenever_touches _ _ (judgeFeedback_touches _).mono))

theorem gearFeedbackExpiry_touches (s : State) : OnlyTouches driveComms s s.gearFeedbackExpiry :=
  whenever_touches s _ (faultGear_touches s _)

theorem releaseExpiry_touches (s : State) : OnlyTouches driveParts s s.releaseExpiry :=
  whenever_touches s _ (disengage_touches s)

theorem dwellEnd_touches (s : State) : OnlyTouches driveParts s s.dwellEnd :=
  whenever_touches s _ (enterGear_touches s _)

theorem superviseGear_touches (s : State) : OnlyTouches driveComms s s.superviseGear := by
  unfold State.superviseGear
  refine (gear_touches s { s.gear with supervised := true }).mono.trans ?_
  dsimp only
  split
  · exact (enterGear_touches _ _).mono
  · exact faultGear_touches _ _
  · exact (enterGear_touches _ _).mono
  · exact (enterGear_touches _ _).mono

theorem gearAnswer_touches (s : State) : OnlyTouches driveComms s s.gearAnswer := by
  unfold State.gearAnswer
  split
  · split
    · exact (enterGear_touches _ _).mono
    · exact (raise_touches _ _).mono
    · exact (raise_touches _ _).mono
    · exact (raise_touches _ _).mono
  · exact .refl _ _

/-! ## Governor supervisor (section 4.7) -/

theorem followAvail_touches (s : State) (c : AlertCode) (b : Bool) :
    OnlyTouches driveComms s (s.followAvail c b) :=
  .ite (.refl _ _) ((follow_touches s c b).mono.trans (refreshAvailability_touches _).mono)

theorem raiseAvail_touches (s : State) (c : AlertCode) : OnlyTouches driveComms s (s.raiseAvail c) :=
  (raise_touches s c).mono.trans (refreshAvailability_touches _).mono

theorem judgeShaft_touches (s : State) : OnlyTouches driveComms s s.judgeShaft :=
  whenever_touches s _ (followAvail_touches s _ _)

theorem followJudgement_touches (s : State) : OnlyTouches [.gov] s s.followJudgement := gov_touches s _

theorem settleExpiry_touches (s : State) : OnlyTouches [.gov] s s.settleExpiry :=
  whenever_touches s _ ((gov_touches s _).trans (followJudgement_touches _))

theorem deviationExpiry_touches (s : State) : OnlyTouches driveComms s s.deviationExpiry :=
  whenever_touches s _ ((gov_touches s _).mono.trans (followAvail_touches _ _ _))

theorem agreementExpiry_touches (s : State) : OnlyTouches driveComms s s.agreementExpiry :=
  whenever_touches s _ ((gov_touches s _).mono.trans (followAvail_touches _ _ _))

theorem judgeOverspeed_touches (s : State) : OnlyTouches driveComms s s.judgeOverspeed :=
  whenever_touches s _ (raiseAvail_touches s _)

theorem meter_touches (s : State) (u : MeterUnit) : OnlyTouches [.meter] s { s with meter := u } :=
  .of fun p => by cases p <;> first | exact .inl (by decide) | exact .inr rfl

theorem govMeter_touches (s : State) (u : GovernorUnit) (v : MeterUnit) :
    OnlyTouches [.gov, .meter] s { s with gov := u, meter := v } :=
  .of fun p => by cases p <;> first | exact .inl (by decide) | exact .inr rfl

theorem setSpeed_touches (s : State) (r : Nat) : OnlyTouches (.meter :: driveComms) s (s.setSpeed r) :=
  .ite (.refl _ _) ((govMeter_touches s _ _).mono.trans
    ((judgeOverspeed_touches _).mono.trans (whenever_touches _ _ (followJudgement_touches _).mono)))

theorem pulseTimeout_touches (s : State) : OnlyTouches (.meter :: driveComms) s s.pulseTimeout :=
  whenever_touches s _ ((gov_touches s _).mono.trans (setSpeed_touches _ _))

theorem shaftEdge_touches (s : State) (p : Option Nat) :
    OnlyTouches (.meter :: driveComms) s (s.shaftEdge p) := by
  cases p
  · exact (gov_touches s _).mono.trans (judgeShaft_touches _).mono
  · exact (gov_touches s _).mono.trans ((judgeShaft_touches _).mono.trans (setSpeed_touches _ _))

theorem watchExpiry_touches (s : State) : OnlyTouches driveComms s s.watchExpiry :=
  whenever_touches s _ ((gov_touches s _).mono.trans (judgeShaft_touches _))

theorem judgeReady_touches (s : State) (on : Bool) : OnlyTouches commsParts s (s.judgeReady on) :=
  .ite (whenever_touches s _ (clear_touches s _)) (whenever_touches s _ (raiseNew_touches s _))

theorem readyChange_touches (s : State) (on : Bool) :
    OnlyTouches (.lines :: driveComms) s (s.readyChange on) :=
  .ite (.refl _ _) ((setLine_touches s _ _).mono.trans ((gov_touches _ _).mono.trans
    ((judgeReady_touches _ _).mono.trans (refreshAvailability_touches _).mono)))

theorem superviseGovernor_touches (s : State) : OnlyTouches driveComms s s.superviseGovernor :=
  (gov_touches s _).mono.trans ((judgeShaft_touches _).trans (judgeOverspeed_touches _))

theorem overspeedAnswer_touches (s : State) : OnlyTouches driveComms s s.overspeedAnswer :=
  .ite (raiseAvail_touches s _) (refreshAvailability_touches s).mono

/-! ## Steering unit (chapter 5) -/

theorem steer_touches (s : State) (u : SteeringUnit) : OnlyTouches [.steer] s { s with steer := u } :=
  .of fun p => by cases p <;> first | exact .inl (by decide) | exact .inr rfl

theorem startDrive_touches (s : State) (b : Bool) (d : Nat) :
    OnlyTouches [.outputs, .steer] s (s.startDrive b d) :=
  .of fun p => by cases p <;> first | exact .inl (by decide) | exact .inr rfl

theorem stopDrive_touches (s : State) (b : Bool) : OnlyTouches [.outputs, .steer] s (s.stopDrive b) :=
  .of fun p => by cases p <;> first | exact .inl (by decide) | exact .inr rfl

theorem driveStopped_touches (s : State) : OnlyTouches [.outputs, .steer] s s.driveStopped :=
  .ite (.refl _ _) (.ite (.refl _ _) (startDrive_touches s _ _))

theorem steerWrite_touches (s : State) (i : Fin 3) (d : Nat) (u : SteeringUnit) :
    OnlyTouches [.outputs, .steer] s { s with outputs := (s.writeDuty i d).outputs, steer := u } :=
  .of fun p => by cases p <;> first | exact .inl (by decide) | exact .inr rfl

theorem driveRunning_touches (s : State) (b : Bool) : OnlyTouches steerComms s (s.driveRunning b) :=
  .ite ((stopDrive_touches s b).mono.trans (clear_touches _ _).mono)
    (.ite (stopDrive_touches s b).mono (.ite (stopDrive_touches s b).mono
      (.ite (.refl _ _) (steerWrite_touches s _ _ _).mono)))

theorem driveStep_touches (s : State) : OnlyTouches steerComms s s.driveStep := by
  unfold State.driveStep
  split
  · exact (driveStopped_touches s).mono
  · exact driveRunning_touches s _
  · exact driveRunning_touches s _
  · exact .refl _ _

theorem inhibitDrive_touches (s : State) : OnlyTouches [.outputs, .steer] s s.inhibitDrive :=
  .ite (.refl _ _) (.of fun p => by cases p <;> first | exact .inl (by decide) | exact .inr rfl)

theorem feedbackFault_touches (s : State) : OnlyTouches steerComms s s.feedbackFault :=
  .ite (.refl _ _) ((raiseNew_touches s _).mono.trans ((steer_touches _ _).mono.trans
    (inhibitDrive_touches _).mono))

theorem valveInterlock_touches (s : State) : OnlyTouches steerComms s s.valveInterlock :=
  (raise_touches s _).mono.trans ((steer_touches _ _).mono.trans (inhibitDrive_touches _).mono)

theorem feedbackEnd_touches (s : State) : OnlyTouches steerComms s s.feedbackEnd :=
  .ite ((clear_touches s _).mono.trans (steer_touches _ _).mono) (.refl _ _)

theorem interlockAnswer_touches (s : State) : OnlyTouches steerComms s s.interlockAnswer :=
  .ite (raise_touches s _).mono (steer_touches s _).mono

theorem valveSense_touches (s : State) (a b : Bool) : OnlyTouches (.lines :: steerComms) s (s.valveSense a b) :=
  (setLine_touches s _ _).mono.trans ((setLine_touches _ _ _).mono.trans
    (whenever_touches _ _ (valveInterlock_touches _).mono))

theorem spreadStep_touches (s : State) : OnlyTouches steerComms s s.spreadStep := by
  unfold State.spreadStep
  split
  · exact (steer_touches s _).mono
  · exact (steer_touches s _).mono.trans (clear_touches _ _).mono
  · exact (steer_touches s _).mono.trans (clear_touches _ _).mono

theorem spreadExpiry_touches (s : State) : OnlyTouches commsParts s s.spreadExpiry :=
  whenever_touches s _ (raiseNew_touches s _)

theorem followExpiry_touches (s : State) : OnlyTouches steerComms s s.followExpiry :=
  whenever_touches s _ ((steer_touches s _).mono.trans (raiseNew_touches _ _).mono)

theorem findRudderDemand_touches (s : State) : OnlyTouches [.steer] s s.findRudderDemand := steer_touches s _

theorem rudderStep_touches (s : State) : OnlyTouches steerComms s s.rudderStep :=
  (feedbackEnd_touches s).trans ((findRudderDemand_touches _).mono.trans
    ((driveStep_touches _).trans (spreadStep_touches _)))

theorem rudderFault_touches (s : State) : OnlyTouches steerComms s s.rudderFault :=
  .ite (.refl _ _) ((feedbackFault_touches s).trans (findRudderDemand_touches _).mono)

theorem rudderDelivery_touches (s : State) (r : Raw) (ok : Bool) :
    OnlyTouches steerComms s (s.rudderDelivery r ok) :=
  .ite ((steer_touches s _).mono.trans (whenever_touches _ _ (rudderStep_touches _)))
    (whenever_touches s _ (rudderFault_touches s))

theorem superviseSteering_touches (s : State) : OnlyTouches steerComms s s.superviseSteering :=
  (steer_touches s _).mono.trans (.ite
    ((OnlyTouches.ite (valveInterlock_touches _) (.refl _ _)).trans (feedbackFault_touches _))
    (OnlyTouches.ite (valveInterlock_touches _) (.refl _ _)))

end Sys2Proof.Machine
end

