-- ==== Sys2Proof/Laws/Reports.lean ====
section
/-! SUPPORT. What a raise, a clear, a change of the list and an offered frame can do, said once for each. -/

namespace Sys2Proof.Machine

/-! ## Tables -/

theorem Tab.get_set_self {n : Nat} {α : Type} (t : Tab n α) (i : Fin n) (a : α) : (t.set i a).get i = a := by
  simp [Tab.get, Tab.set]

theorem Tab.get_set_ne {n : Nat} {α : Type} (t : Tab n α) {i j : Fin n} (a : α) (h : j ≠ i) :
    (t.set i a).get j = t.get j := by
  have hv : i.val ≠ j.val := fun e => h (Fin.ext e.symm)
  simp [Tab.get, Tab.set, hv]

/-- Codes have places of their own. -/
theorem alertIndex_inj {c d : AlertCode} (h : alertIndex c = alertIndex d) : c = d := by
  cases c <;> cases d <;> first | rfl | exact absurd h (by decide)

theorem has_set_self (m : Comms) (c : AlertCode) (b : Bool) :
    Comms.has { m with present := m.present.set (alertIndex c) b } c = b :=
  Tab.get_set_self _ _ _

theorem has_set_ne (m : Comms) {c d : AlertCode} (b : Bool) (h : d ≠ c) :
    Comms.has { m with present := m.present.set (alertIndex c) b } d = m.has d :=
  Tab.get_set_ne _ _ (fun e => h (alertIndex_inj e))

/-! ## The queue -/

theorem promoteAlert_length (l : List AlertEntry) (q : List Waiting) : (promoteAlert l q).length = q.length := by
  unfold promoteAlert; split <;> simp

theorem promoteAlert_waits (l : List AlertEntry) (q : List Waiting) (k : FrameKind) :
    (promoteAlert l q).any (fun w => w.kind == k) = q.any (fun w => w.kind == k) := by
  unfold promoteAlert
  split
  · rw [List.any_map]
    congr 1
    funext w
    simp only [Function.comp]
    split <;> rfl
  · rfl

theorem offerQueue_free {w : Waiting} {q : List Waiting} (h : q.length < 8) :
    offerQueue w q = if coalesced w q then q else q ++ [w] := by
  unfold offerQueue; simp [h]

theorem offerLoses_free {w : Waiting} {q : List Waiting} (h : q.length < 8) : offerLoses w q = false := by
  unfold offerLoses; simp; omega

theorem offerLoses_full {w : Waiting} {q : List Waiting} (h : offerLoses w q = true) : ¬ q.length < 8 := by
  unfold offerLoses at h; simp at h; omega

theorem wakeTx_or (q : List Waiting) (x : Transmitter) :
    wakeTx q x = x ∨ (x = .idle ∧ wakeTx q x = .deferring) := by
  cases x <;> simp [wakeTx]
  cases q <;> simp

theorem wakeTx_eq (q : List Waiting) (x : Transmitter) :
    wakeTx q x = if x = .idle ∧ q ≠ [] then .deferring else x := by
  cases x <;> simp [wakeTx]

/-! ## Steps of a report, at the level of the reports' own state -/

/-- `ReportOnly` without the rest of the station. -/
structure Comms.Kept (m n : Comms) : Prop where
  link : n.link = { m.link with queue := n.link.queue, tx := n.link.tx, lastLoss := n.link.lastLoss }
  tx : n.link.tx = m.link.tx ∨ (m.link.tx = .idle ∧ n.link.tx = .deferring)
  part : n.alerts.part1Due = m.alerts.part1Due

theorem Comms.Kept.refl (m : Comms) : Comms.Kept m m := ⟨rfl, .inl rfl, rfl⟩

theorem Comms.Kept.trans {m n o : Comms} (h : Comms.Kept m n) (k : Comms.Kept n o) : Comms.Kept m o := by
  refine ⟨?_, ?_, k.part.trans h.part⟩
  · rw [k.link, h.link]
  · rcases h.tx with h1 | ⟨h1, h2⟩ <;> rcases k.tx with k1 | ⟨k1, k2⟩
    · exact .inl (k1.trans h1)
    · exact .inr ⟨h1 ▸ k1, k2⟩
    · exact .inr ⟨h1, k1.trans h2⟩
    · rw [h2] at k1; cases k1

theorem setList_kept (m : Comms) (st : StationState) (now : Clock) (l : List AlertEntry) :
    Comms.Kept m (m.setList st now l) := by
  unfold Comms.setList
  split
  · exact .refl m
  · refine ⟨?_, ?_, rfl⟩
    · dsimp only; split <;> rfl
    · dsimp only
      split
      · exact wakeTx_or _ _
      · exact .inl rfl

theorem setList_present (m : Comms) (st : StationState) (now : Clock) (l : List AlertEntry) :
    (m.setList st now l).present = m.present := by
  unfold Comms.setList; split <;> rfl

theorem setList_list (m : Comms) (st : StationState) (now : Clock) (l : List AlertEntry) :
    (m.setList st now l).alerts.list = l := by
  unfold Comms.setList
  split
  · rename_i h; exact h.symm
  · rfl

/-- A repeat timer that stands as an entry to ACTIVE at this moment leaves it goes on so over a change of the list. -/
theorem setList_afresh {m : Comms} {st : StationState} {now : Clock} (l : List AlertEntry)
    (h : m.alerts.repeatTimer = repeatAfter st now m.alerts.list none) :
    (m.setList st now l).alerts.repeatTimer = repeatAfter st now (m.setList st now l).alerts.list none := by
  unfold Comms.setList
  split
  · exact h
  · simp only [AlertUnit.changedTo, h, repeatAfter]
    by_cases hu : (st.acting && l.any fun e => isUnack e.state) = true
    · simp only [hu, if_true]
      split <;> simp_all [startTimer]
    · simp only [hu]
      rfl

/-- The restart of the repeat timer leaves it as an entry to ACTIVE does (R140). -/
theorem restartRepeat_afresh (s : State) (h : s.station.acting = true) : s.restartRepeat.RepeatsAfresh := by
  have u : (fun e : AlertEntry => isUnack e.state) = fun e => e.state != .activeAcked := by
    funext e
    cases e.state <;> rfl
  simp [State.RepeatsAfresh, State.restartRepeat, AlertUnit.restartRepeat, repeatAfter, h, u]

theorem setListLoses_full {m : Comms} {st : StationState} {now : Clock} {l : List AlertEntry}
    (h : m.setListLoses st now l = true) : ¬ m.link.queue.length < 8 := by
  unfold Comms.setListLoses at h
  simp only [Bool.and_eq_true] at h
  rw [← promoteAlert_length l]
  exact offerLoses_full h.2

theorem setList_waits {m : Comms} {st : StationState} {now : Clock} {l : List AlertEntry}
    (h : l ≠ m.alerts.list) (ha : st.acting = true) (hf : m.link.queue.length < 8) :
    (m.setList st now l).link.queue.any (fun w => w.kind == .alert) = true := by
  unfold Comms.setList
  rw [if_neg h]
  dsimp only
  rw [if_pos ha]
  dsimp only [LinkUnit.put]
  rw [offerQueue_free (by rw [promoteAlert_length]; exact hf)]
  split
  · rename_i hc
    unfold coalesced at hc
    simp only [Bool.and_eq_true] at hc
    exact hc.2
  · simp [alertFrame]

theorem promoteAlert_eq (l : List AlertEntry) (q : List Waiting) :
    promoteAlert l q = q.map (fun w => if tripUnack l && w.kind == .alert && w.cls == 3 then { w with cls := 2 } else w) := by
  unfold promoteAlert
  split
  · rename_i h; simp [h]
  · rename_i h
    rw [Bool.not_eq_true] at h
    simp [h]

/-- What a change of the list does to a queue with a free place (R140, R141, R163). -/
theorem setList_queue {s : State} {m : Comms} (hl : m.link = s.comms.link) (ha : m.alerts = s.comms.alerts)
    (hf : s.QueueFree) (l : List AlertEntry) :
    (m.setList s.station s.clock l).link.queue = s.queueAfter l ∧
      (m.setList s.station s.clock l).link.lastLoss = s.comms.link.lastLoss := by
  unfold Comms.setList State.queueAfter
  rw [ha, hl]
  split
  · exact ⟨by rw [hl], by rw [hl]⟩
  · have free : (promoteAlert l s.comms.link.queue).length < 8 := by rw [promoteAlert_length]; exact hf
    have e := promoteAlert_eq l s.comms.link.queue
    have w := promoteAlert_waits l s.comms.link.queue .alert
    have lossless := offerLoses_free (w := alertFrame s.clock l) free
    dsimp only [tripUnack] at e
    cases hs : s.station.acting
    · simp only [Bool.false_eq_true, if_false, Bool.false_and]
      exact ⟨e, trivial⟩
    · simp only [if_true, Bool.true_and]
      dsimp only [LinkUnit.put]
      rw [offerQueue_free free]
      cases hw : s.waits .alert
      · have hc : coalesced (alertFrame s.clock l) (promoteAlert l s.comms.link.queue) = false := by
          unfold coalesced; dsimp only [alertFrame, coalescing]; rw [Bool.true_and, w]; exact hw
        simp only [hc, lossless, Bool.not_false, if_true, Bool.false_eq_true, if_false]
        exact ⟨by rw [e]; rfl, trivial⟩
      · have hc : coalesced (alertFrame s.clock l) (promoteAlert l s.comms.link.queue) = true := by
          unfold coalesced; dsimp only [alertFrame, coalescing]; rw [Bool.true_and, w]; exact hw
        simp only [hc, lossless, Bool.not_true, if_true, Bool.false_eq_true, if_false]
        exact ⟨e, trivial⟩

theorem raiseOnce_kept (m : Comms) (st : StationState) (now : Clock) (c : AlertCode) :
    Comms.Kept m (m.raiseOnce st now c) :=
  let k := setList_kept m st now (raiseList c m.alerts.list)
  ⟨k.link, k.tx, k.part⟩

theorem raiseOnce_list (m : Comms) (st : StationState) (now : Clock) (c : AlertCode) :
    (m.raiseOnce st now c).alerts.list = raiseList c m.alerts.list := setList_list _ _ _ _

theorem raiseOnce_has_self (m : Comms) (st : StationState) (now : Clock) (c : AlertCode) :
    (m.raiseOnce st now c).has c = true := Tab.get_set_self _ _ _

theorem raiseOnce_has_ne (m : Comms) (st : StationState) (now : Clock) {c d : AlertCode} (h : d ≠ c) :
    (m.raiseOnce st now c).has d = m.has d := Tab.get_set_ne _ _ (fun e => h (alertIndex_inj e))

theorem afterLoss_kept (m : Comms) (b : Bool) (st : StationState) (now : Clock) :
    Comms.Kept m (m.afterLoss b st now) := by
  unfold Comms.afterLoss
  split
  · exact raiseOnce_kept _ _ _ _
  · exact .refl m

theorem afterLoss_false (m : Comms) (st : StationState) (now : Clock) : m.afterLoss false st now = m := by
  unfold Comms.afterLoss; simp

theorem afterLoss_list (m : Comms) (b : Bool) (st : StationState) (now : Clock) :
    (m.afterLoss b st now).alerts.list = m.alerts.list ∨
      (b = true ∧ (m.afterLoss b st now).alerts.list = raiseList .txLoss m.alerts.list) := by
  unfold Comms.afterLoss
  split
  · rename_i h
    simp only [Bool.and_eq_true] at h
    exact .inr ⟨h.1.1, raiseOnce_list _ _ _ _⟩
  · exact .inl rfl

theorem afterLoss_has (m : Comms) (b : Bool) (st : StationState) (now : Clock) {d : AlertCode}
    (h : d ≠ .txLoss ∨ b = false) : (m.afterLoss b st now).has d = m.has d := by
  rcases h with h | rfl
  · unfold Comms.afterLoss
    split
    · exact raiseOnce_has_ne _ _ _ h
    · rfl
  · rw [afterLoss_false]

theorem afterLoss_keeps_has (m : Comms) (b : Bool) (st : StationState) (now : Clock) {d : AlertCode}
    (h : m.has d = true) : (m.afterLoss b st now).has d = true := by
  by_cases e : d = .txLoss
  · subst e
    unfold Comms.afterLoss
    split
    · exact raiseOnce_has_self _ _ _ _
    · exact h
  · rw [afterLoss_has _ _ _ _ (.inl e)]; exact h

/-! ## The reports -/

theorem loses_of_free {m : Comms} {st : StationState} {now : Clock} {l : List AlertEntry}
    (h : m.link.queue.length < 8) : m.setListLoses st now l = false := by
  cases e : m.setListLoses st now l
  · rfl
  · exact absurd h (setListLoses_full e)

/-- Everything a raise can do. -/
theorem raise_raises (s : State) (c : AlertCode) : Raises c s (s.raise c) := by
  have k := (raiseOnce_kept s.comms s.station s.clock c).trans (afterLoss_kept (s.comms.raiseOnce s.station s.clock c)
    (s.comms.setListLoses s.station s.clock (raiseList c s.comms.alerts.list)) s.station s.clock)
  have free : s.QueueFree → (s.raise c).comms = s.comms.raiseOnce s.station s.clock c := by
    intro hf
    show Comms.raise _ _ _ _ = _
    unfold Comms.raise
    rw [loses_of_free hf, afterLoss_false]
  refine ⟨⟨raise_touches s c, k.link, k.tx, k.part, ?_, ?_⟩, ?_, ?_, ?_⟩
  · intro hl ha hf
    have e := free hf
    show (s.raise c).comms.link.queue.any _ = true
    rw [e] at hl ⊢
    rw [raiseOnce_list] at hl
    exact setList_waits hl ha hf
  · intro hf
    rw [free hf, raiseOnce_list]
    exact setList_queue rfl rfl hf _
  · exact afterLoss_keeps_has _ _ _ _ (raiseOnce_has_self _ _ _ _)
  · intro d hd ht
    refine (afterLoss_has _ _ _ _ ?_).trans (raiseOnce_has_ne _ _ _ hd)
    rcases ht with ht | hf
    · exact .inl ht
    · exact .inr (loses_of_free hf)
  · rcases afterLoss_list (s.comms.raiseOnce s.station s.clock c)
      (s.comms.setListLoses s.station s.clock (raiseList c s.comms.alerts.list)) s.station s.clock with h | ⟨h, h'⟩
    · exact .inl (h.trans (raiseOnce_list _ _ _ _))
    · refine .inr ⟨setListLoses_full h, ?_⟩
      rw [raiseOnce_list] at h'
      exact h'

theorem raiseNew_raised (s : State) (c : AlertCode) : Raised c s (s.raiseNew c) := by
  unfold Raised State.raiseNew
  split
  · rfl
  · exact raise_raises s c

/-- Everything a change of the list can do. -/
theorem relist_kept (m : Comms) (st : StationState) (now : Clock) (l : List AlertEntry) :
    Comms.Kept m (m.relist st now l) :=
  (setList_kept m st now l).trans (afterLoss_kept _ _ _ _)

theorem relist_waits {m : Comms} {st : StationState} {now : Clock} {l : List AlertEntry}
    (h : (m.relist st now l).alerts.list ≠ m.alerts.list) (ha : st.acting = true) (hf : m.link.queue.length < 8) :
    (m.relist st now l).link.queue.any (fun w => w.kind == .alert) = true := by
  unfold Comms.relist at h ⊢
  rw [loses_of_free hf, afterLoss_false] at h ⊢
  rw [setList_list] at h
  exact setList_waits h ha hf

theorem relist_queue {s : State} {m : Comms} (hl : m.link = s.comms.link) (ha : m.alerts = s.comms.alerts)
    (hf : s.QueueFree) (l : List AlertEntry) :
    (m.relist s.station s.clock l).link.queue = s.queueAfter (m.relist s.station s.clock l).alerts.list ∧
      (m.relist s.station s.clock l).link.lastLoss = s.comms.link.lastLoss := by
  unfold Comms.relist
  rw [loses_of_free (by rw [hl]; exact hf), afterLoss_false, setList_list]
  exact setList_queue hl ha hf l

theorem relist_list (m : Comms) (st : StationState) (now : Clock) (l : List AlertEntry) :
    (m.relist st now l).alerts.list = l ∨
      (¬ m.link.queue.length < 8 ∧ (m.relist st now l).alerts.list = raiseList .txLoss l) := by
  rcases afterLoss_list (m.setList st now l) (m.setListLoses st now l) st now with h | ⟨h, h'⟩
  · exact .inl (h.trans (setList_list _ _ _ _))
  · rw [setList_list] at h'
    exact .inr ⟨setListLoses_full h, h'⟩

theorem relist_has {m : Comms} {st : StationState} {now : Clock} {l : List AlertEntry} {d : AlertCode}
    (h : d ≠ .txLoss ∨ m.link.queue.length < 8) : (m.relist st now l).has d = m.has d := by
  refine (afterLoss_has _ _ _ _ ?_).trans (by unfold Comms.has; rw [setList_present])
  rcases h with h | h
  · exact .inl h
  · exact .inr (loses_of_free h)

theorem relist_relisted (s : State) (l : List AlertEntry) : Relisted l s (s.relist l) :=
  ⟨⟨relist_touches s l, (relist_kept s.comms _ _ _).link, (relist_kept s.comms _ _ _).tx,
      (relist_kept s.comms _ _ _).part, fun h ha hf => relist_waits h ha hf, fun hf => relist_queue rfl rfl hf l⟩,
    fun _ h => relist_has h, relist_list _ _ _ _⟩

/-- Everything a clear of a present condition can do. -/
theorem clear_clears {s : State} {c : AlertCode} (h : s.has c = true) : Clears c s (s.clear c) := by
  have e : (s.clear c).comms =
      Comms.relist { s.comms with present := s.comms.present.set (alertIndex c) false } s.station s.clock
        (clearList c s.comms.alerts.list) := by
    show (if s.has c then _ else _) = _
    rw [if_pos h]; rfl
  refine ⟨⟨clear_touches s c, ?_, ?_, ?_, ?_, ?_⟩, ?_, ?_, ?_⟩
  · rw [e]; exact (relist_kept _ _ _ _).link
  · rw [e]; exact (relist_kept _ _ _ _).tx
  · rw [e]; exact (relist_kept _ _ _ _).part
  · intro hl ha hf
    unfold State.waits
    rw [e] at hl ⊢
    exact relist_waits hl ha hf
  · intro hf
    rw [e]
    exact relist_queue (m := { s.comms with present := s.comms.present.set (alertIndex c) false }) rfl rfl hf _
  · intro hc
    unfold State.has
    rw [e]
    exact (relist_has (m := { s.comms with present := s.comms.present.set (alertIndex c) false }) hc).trans
      (has_set_self _ _ _)
  · intro d hd ht
    unfold State.has
    rw [e]
    exact (relist_has (m := { s.comms with present := s.comms.present.set (alertIndex c) false }) ht).trans
      (has_set_ne _ _ hd)
  · rw [e]; exact relist_list _ _ _ _

theorem clear_ended (s : State) (c : AlertCode) : Ended c s (s.clear c) := by
  unfold Ended
  split
  · exact clear_clears ‹_›
  · unfold State.clear; rw [if_neg ‹_›]

theorem follow_follows (s : State) (c : AlertCode) (b : Bool) : Follows c b s (s.follow c b) := by
  unfold Follows State.follow
  split
  · exact raiseNew_raised s c
  · exact clear_ended s c

/-- What an owner that acts at the changes of its test alone can do. -/
theorem followChange_follows (s : State) (c : AlertCode) (was b : Bool) :
    if was = b then s.followChange c was b = s else Follows c b s (s.followChange c was b) := by
  unfold State.followChange
  split
  · rfl
  · exact follow_follows s c b

/-- The condition after it: as the test stands where the test has changed. -/
theorem followChange_has (s : State) {c : AlertCode} (was b : Bool) (h : c ≠ .txLoss) :
    (s.followChange c was b).has c = if was = b then s.has c else b := by
  have hf := followChange_follows s c was b
  split at hf
  · rw [if_pos ‹_›, hf]
  · rw [if_neg ‹_›]
    unfold Follows at hf
    split at hf
    · subst b
      unfold Raised at hf
      split at hf
      · rw [hf]; assumption
      · exact hf.2.1
    · rename_i hb
      unfold Ended at hf
      split at hf
      · rw [hf.2.1 (.inl h)]; simpa using hb
      · rw [hf]; simp_all

/-- A frame offered in a state that takes frames, with a free place. -/
theorem offered_queued {s : State} (w : Waiting) (ha : s.station.acting = true) (hf : s.QueueFree) :
    Queued w s { s with comms := s.comms.offer s.station s.clock w } := by
  unfold Queued Comms.offer
  rw [if_pos ha, offerLoses_free hf, afterLoss_false]
  dsimp only [LinkUnit.put]
  rw [offerQueue_free hf, offerLoses_free hf, wakeTx_eq]
  unfold coalesced State.waits
  rfl

theorem offer_queued {s : State} (k : FrameKind) (c : Fin 4) (ha : s.station.acting = true) (hf : s.QueueFree) :
    Queued ⟨k, c, s.clock, none⟩ s (s.offer k c) := offered_queued _ ha hf

theorem offerWith_queued {s : State} (c : Fin 4) (p : Payload) (ha : s.station.acting = true) (hf : s.QueueFree) :
    Queued ⟨payloadKind p, c, s.clock, some p⟩ s (s.offerWith c p) := offered_queued _ ha hf

end Sys2Proof.Machine
end

