-- ==== Sys2Proof/Laws/State.lean ====
section
/-! SUPPORT. What each base update leaves in each field, true by rfl, and the first lemmas about roles, `whenever`,
the drive and the outputs. -/

namespace Sys2Proof.Machine

/-! ## The clock and the lines -/

@[simp] theorem advance_clock (s : State) (dt : Micros) : (s.advance dt).clock = s.later dt := rfl
@[simp] theorem advance_lines (s : State) (dt : Micros) : (s.advance dt).lines = s.lines := rfl
@[simp] theorem advance_station (s : State) (dt : Micros) : (s.advance dt).station = s.station := rfl
@[simp] theorem advance_role (s : State) (dt : Micros) : (s.advance dt).role = s.role := rfl
@[simp] theorem advance_address (s : State) (dt : Micros) : (s.advance dt).address = s.address := rfl
@[simp] theorem advance_start (s : State) (dt : Micros) : (s.advance dt).start = s.start := rfl
@[simp] theorem advance_comms (s : State) (dt : Micros) : (s.advance dt).comms = s.comms := rfl
@[simp] theorem advance_peers (s : State) (dt : Micros) : (s.advance dt).peers = s.peers := rfl
@[simp] theorem advance_demand (s : State) (dt : Micros) : (s.advance dt).demand = s.demand := rfl
@[simp] theorem advance_helm (s : State) (dt : Micros) : (s.advance dt).helm = s.helm := rfl
@[simp] theorem advance_thrust (s : State) (dt : Micros) : (s.advance dt).thrust = s.thrust := rfl
@[simp] theorem advance_gear (s : State) (dt : Micros) : (s.advance dt).gear = s.gear := rfl
@[simp] theorem advance_gov (s : State) (dt : Micros) : (s.advance dt).gov = s.gov := rfl
@[simp] theorem advance_steer (s : State) (dt : Micros) : (s.advance dt).steer = s.steer := rfl
@[simp] theorem advance_coup (s : State) (dt : Micros) : (s.advance dt).coup = s.coup := rfl
@[simp] theorem advance_meter (s : State) (dt : Micros) : (s.advance dt).meter = s.meter := rfl
@[simp] theorem advance_account (s : State) (dt : Micros) : (s.advance dt).account = s.account := rfl
@[simp] theorem advance_view (s : State) (dt : Micros) : (s.advance dt).view = s.view := rfl
@[simp] theorem advance_conv (s : State) (dt : Micros) : (s.advance dt).conv = s.conv := rfl
@[simp] theorem advance_caps (s : State) (dt : Micros) : (s.advance dt).caps = s.caps := rfl
@[simp] theorem advance_outputs (s : State) (dt : Micros) : (s.advance dt).outputs = s.outputs := rfl
@[simp] theorem advance_pending (s : State) (dt : Micros) : (s.advance dt).pending = s.pending := rfl

@[simp] theorem setLine_same (s : State) (i : Fin 16) (on : Bool) : (s.setLine i on).line i = on :=
  Tab.get_set_self _ _ _
theorem setLine_ne (s : State) {i j : Fin 16} (on : Bool) (h : j ≠ i) : (s.setLine i on).line j = s.line j :=
  Tab.get_set_ne _ _ h

@[simp] theorem noteWindow_coup (s : State) :
    s.noteWindow.coup = { s.coup with classTaken := s.coup.classTaken || s.coup.window.length == 4 } := rfl
@[simp] theorem noteWindow_comms (s : State) : s.noteWindow.comms = s.comms := rfl
@[simp] theorem noteWindow_station (s : State) : s.noteWindow.station = s.station := rfl
@[simp] theorem counted_state (c : Converter) : c.counted.state = c.state := rfl
@[simp] theorem counted_latest (c : Converter) : c.counted.latest = c.latest := rfl
@[simp] theorem counted_interval (c : Converter) : c.counted.interval = c.interval := rfl
@[simp] theorem restart_state (c : Converter) (now : Clock) (i : Micros) : (c.restart now i).state = c.state := rfl
@[simp] theorem restart_interval (c : Converter) (now : Clock) (i : Micros) : (c.restart now i).interval = i := rfl

/-! ## Steps under a test -/

theorem whenever_pos {s : State} {b : Bool} {f : State → State} (h : b = true) : s.whenever b f = f s := by
  unfold State.whenever; rw [h]; rfl

theorem whenever_neg {s : State} {b : Bool} {f : State → State} (h : b = false) : s.whenever b f = s := by
  unfold State.whenever; rw [h]; rfl

/-! ## The two conditions of the peer table -/

theorem judgeConflict_has (s : State) (was : Bool) :
    (s.judgeConflict was).has .addressConflict =
      if s.station.reporting ∧ was ≠ s.anyConflict then s.anyConflict else s.has .addressConflict := by
  have h := followChange_has s was s.anyConflict (show AlertCode.addressConflict ≠ .txLoss by decide)
  unfold State.judgeConflict
  by_cases hr : s.station.reporting = true <;> by_cases hw : was = s.anyConflict <;>
    simp_all [State.has]

theorem judgeSilent_has (s : State) (was : Bool) :
    (s.judgeSilent was).has .peerSilent =
      if s.station.reporting ∧ (s.isHelm ∨ s.isProp) ∧ was ≠ s.anySilentWorker then s.anySilentWorker
      else s.has .peerSilent := by
  have h := followChange_has s was s.anySilentWorker (show AlertCode.peerSilent ≠ .txLoss by decide)
  unfold State.judgeSilent
  by_cases hr : s.station.reporting = true <;> by_cases hp : (s.isHelm || s.isProp) = true <;>
    by_cases hw : was = s.anySilentWorker <;> simp_all [State.has]

/-! ## Roles -/

theorem isHelm_iff (s : State) : s.isHelm = true ↔ s.role = some .helm := by
  unfold State.isHelm
  cases s.role with
  | none => decide
  | some r => cases r <;> decide

theorem isProp_iff (s : State) : s.isProp = true ↔ s.role = some .propulsion := by
  unfold State.isProp
  cases s.role with
  | none => decide
  | some r => cases r <;> decide

theorem isCoup_iff (s : State) : s.isCoup = true ↔ s.role = some .coupling := by
  unfold State.isCoup
  cases s.role with
  | none => decide
  | some r => cases r <;> decide

theorem isProp_of_helm {s : State} (h : s.isHelm = true) : s.isProp = false := by
  unfold State.isProp; rw [(isHelm_iff s).mp h]; rfl
theorem isCoup_of_helm {s : State} (h : s.isHelm = true) : s.isCoup = false := by
  unfold State.isCoup; rw [(isHelm_iff s).mp h]; rfl
theorem isHelm_of_prop {s : State} (h : s.isProp = true) : s.isHelm = false := by
  unfold State.isHelm; rw [(isProp_iff s).mp h]; rfl
theorem isCoup_of_prop {s : State} (h : s.isProp = true) : s.isCoup = false := by
  unfold State.isCoup; rw [(isProp_iff s).mp h]; rfl
theorem isHelm_of_coup {s : State} (h : s.isCoup = true) : s.isHelm = false := by
  unfold State.isHelm; rw [(isCoup_iff s).mp h]; rfl
theorem isProp_of_coup {s : State} (h : s.isCoup = true) : s.isProp = false := by
  unfold State.isProp; rw [(isCoup_iff s).mp h]; rfl

/-! ## Frames read at a part -/

theorem OnlyTouches.clock {ps : List Part} {s t : State} (h : OnlyTouches ps s t) (n : Part.clock ∉ ps) :
    t.clock = s.clock := h .clock n
theorem OnlyTouches.lines {ps : List Part} {s t : State} (h : OnlyTouches ps s t) (n : Part.lines ∉ ps) :
    t.lines = s.lines := h .lines n
theorem OnlyTouches.station {ps : List Part} {s t : State} (h : OnlyTouches ps s t) (n : Part.station ∉ ps) :
    t.station = s.station := h .station n
theorem OnlyTouches.role {ps : List Part} {s t : State} (h : OnlyTouches ps s t) (n : Part.role ∉ ps) :
    t.role = s.role := h .role n
theorem OnlyTouches.address {ps : List Part} {s t : State} (h : OnlyTouches ps s t) (n : Part.address ∉ ps) :
    t.address = s.address := h .address n
theorem OnlyTouches.start {ps : List Part} {s t : State} (h : OnlyTouches ps s t) (n : Part.start ∉ ps) :
    t.start = s.start := h .start n
theorem OnlyTouches.present {ps : List Part} {s t : State} (h : OnlyTouches ps s t) (n : Part.present ∉ ps) :
    t.comms.present = s.comms.present := h .present n
theorem OnlyTouches.alerts {ps : List Part} {s t : State} (h : OnlyTouches ps s t) (n : Part.alerts ∉ ps) :
    t.comms.alerts = s.comms.alerts := h .alerts n
theorem OnlyTouches.link {ps : List Part} {s t : State} (h : OnlyTouches ps s t) (n : Part.link ∉ ps) :
    t.comms.link = s.comms.link := h .link n
theorem OnlyTouches.peers {ps : List Part} {s t : State} (h : OnlyTouches ps s t) (n : Part.peers ∉ ps) :
    t.peers = s.peers := h .peers n
theorem OnlyTouches.demand {ps : List Part} {s t : State} (h : OnlyTouches ps s t) (n : Part.demand ∉ ps) :
    t.demand = s.demand := h .demand n
theorem OnlyTouches.helm {ps : List Part} {s t : State} (h : OnlyTouches ps s t) (n : Part.helm ∉ ps) :
    t.helm = s.helm := h .helm n
theorem OnlyTouches.thrust {ps : List Part} {s t : State} (h : OnlyTouches ps s t) (n : Part.thrust ∉ ps) :
    t.thrust = s.thrust := h .thrust n
theorem OnlyTouches.gear {ps : List Part} {s t : State} (h : OnlyTouches ps s t) (n : Part.gear ∉ ps) :
    t.gear = s.gear := h .gear n
theorem OnlyTouches.gov {ps : List Part} {s t : State} (h : OnlyTouches ps s t) (n : Part.gov ∉ ps) :
    t.gov = s.gov := h .gov n
theorem OnlyTouches.steer {ps : List Part} {s t : State} (h : OnlyTouches ps s t) (n : Part.steer ∉ ps) :
    t.steer = s.steer := h .steer n
theorem OnlyTouches.coup {ps : List Part} {s t : State} (h : OnlyTouches ps s t) (n : Part.coup ∉ ps) :
    t.coup = s.coup := h .coup n
theorem OnlyTouches.meter {ps : List Part} {s t : State} (h : OnlyTouches ps s t) (n : Part.meter ∉ ps) :
    t.meter = s.meter := h .meter n
theorem OnlyTouches.account {ps : List Part} {s t : State} (h : OnlyTouches ps s t) (n : Part.account ∉ ps) :
    t.account = s.account := h .account n
theorem OnlyTouches.view {ps : List Part} {s t : State} (h : OnlyTouches ps s t) (n : Part.view ∉ ps) :
    t.view = s.view := h .view n
theorem OnlyTouches.conv {ps : List Part} {s t : State} (h : OnlyTouches ps s t) (n : Part.conv ∉ ps) :
    t.conv = s.conv := h .conv n
theorem OnlyTouches.caps {ps : List Part} {s t : State} (h : OnlyTouches ps s t) (n : Part.caps ∉ ps) :
    t.caps = s.caps := h .caps n
theorem OnlyTouches.outputs {ps : List Part} {s t : State} (h : OnlyTouches ps s t) (n : Part.outputs ∉ ps) :
    t.outputs = s.outputs := h .outputs n
theorem OnlyTouches.pending {ps : List Part} {s t : State} (h : OnlyTouches ps s t) (n : Part.pending ∉ ps) :
    t.pending = s.pending := h .pending n

/-! ## The drive (R46 to R51) -/

theorem setX_self (s : State) : s.setX s.thrust.x = s := by
  unfold State.setX State.setDrive
  simp

theorem within_zero (a b : Nat) : withinAvailability 0 a b = 0 := by
  unfold withinAvailability
  split
  · omega
  · split <;> omega

theorem setDrive_x (s : State) (x : Int) (g : GearState) : (s.setDrive x g).thrust.x = x := rfl

theorem setDrive_gear (s : State) (x : Int) (g : GearState) :
    (s.setDrive x g).gear = { s.gear with state := g } := rfl

theorem setX_gear (s : State) (x : Int) : (s.setX x).gear = s.gear := rfl

theorem refreshAvailability_other {s : State} (h : s.isProp = false) : s.refreshAvailability = s := by
  unfold State.refreshAvailability; rw [h]; rfl

theorem refreshAvailability_gear (s : State) : s.refreshAvailability.gear = s.gear := by
  unfold State.refreshAvailability; split <;> rfl

theorem setGear_gear (s : State) (g : GearState) : (s.setGear g).gear = { s.gear with state := g } := by
  unfold State.setGear
  dsimp only
  split
  · rfl
  · rw [refreshAvailability_gear]; rfl

theorem refreshStrain_other {s : State} (h : s.isProp = false) : s.refreshStrain = s := by
  unfold State.refreshStrain; rw [h]; rfl

theorem refreshStrain_gear (s : State) : s.refreshStrain.gear = s.gear := by
  unfold State.refreshStrain; dsimp only; split
  · split <;> rfl
  · rfl

/-- F does not read the own entry of a PROPULSION station but for its role. -/
theorem strain_congr {s t : State} (hr : s.isProp = true) (h1 : t.role = s.role)
    (h2 : t.peers.entries = s.peers.entries) (h3 : t.address = s.address) :
    t.strainFactorNow = s.strainFactorNow := by
  have own : ∀ u : State, u.role = s.role → entryFactor u.ownEntry = none := by
    intro u hu
    unfold State.ownEntry
    rw [hu, (isProp_iff s).mp hr]
    split <;> rfl
  unfold State.strainFactorNow State.table
  simp only [Tab.set, List.map_set]
  rw [own t h1, own s rfl, h2, h3]

/-! ## Outputs (R178) -/

theorem immediate_closed (o : OutputUnit) : ∀ i, ((o.outs.map Pwm.immediate).get i).Closed := by
  intro i
  simp [Tab.get, Tab.map, Pwm.immediate, Pwm.Closed]

end Sys2Proof.Machine
end

