-- ==== Sys2Proof/Laws/TouchesUnits.lean ====
section
/-! SUPPORT. Frame lemmas of the winch, the standby, the coupling unit, the fuel unit, the alert view, the helm, the start
unit, the transmitter, acknowledgement and the receiver. -/

namespace Sys2Proof.Machine

-- One theorem at a time: elaborated in parallel, these would each hold a thread while waiting for the ones before.
set_option Elab.async false

/-! ## Winch (section 6.6) -/

theorem coup_touches (s : State) (u : CouplingUnit) : OnlyTouches [.coup] s { s with coup := u } :=
  .of fun p => by cases p <;> first | exact .inl (by decide) | exact .inr rfl

theorem winchStep_touches (s : State) : OnlyTouches [.coup] s s.winchStep := coup_touches s _

theorem judgeWinch_touches (s : State) : OnlyTouches [.coup] s s.judgeWinch :=
  whenever_touches s _ (winchStep_touches s)

theorem winchCauses_touches (s : State) : OnlyTouches [.coup] s s.winchCauses :=
  .ite (coup_touches s _) ((coup_touches s _).trans (judgeWinch_touches _))

theorem dwellExpiry_touches (s : State) : OnlyTouches [.coup] s s.dwellExpiry :=
  whenever_touches s _ (coup_touches s _)

theorem winchRun_touches (s : State) : OnlyTouches (.coup :: commsParts) s s.winchRun :=
  (coup_touches s _).mono.trans (raise_touches _ _).mono

theorem runExpiry_touches (s : State) : OnlyTouches (.coup :: commsParts) s s.runExpiry :=
  whenever_touches s _ (winchRun_touches s)

theorem drumEdge_touches (s : State) : OnlyTouches (.coup :: commsParts) s s.drumEdge :=
  whenever_touches s _ ((coup_touches s _).mono.trans (whenever_touches _ _ (winchRun_touches _)))

theorem settleEnd_touches (s : State) : OnlyTouches [.coup] s s.settleEnd :=
  whenever_touches s _ ((coup_touches s _).trans (judgeWinch_touches _))

theorem unlockWinch_touches (s : State) : OnlyTouches [.coup] s s.unlockWinch :=
  whenever_touches s _ ((coup_touches s _).trans (judgeWinch_touches _))

theorem lockoutChange_touches (s : State) (on : Bool) : OnlyTouches [.lines, .coup] s (s.lockoutChange on) :=
  .ite (.refl _ _) (.ite ((setLine_touches s _ _).mono.trans (whenever_touches _ _ (coup_touches _ _).mono))
    ((setLine_touches s _ _).mono.trans (unlockWinch_touches _).mono))

theorem hauledTaut_touches (s : State) : OnlyTouches [.coup] s s.hauledTaut :=
  whenever_touches s _ (coup_touches s _)

/-! ## Standing by (section 12.5) -/

theorem start_touches (s : State) (u : StartUnit) : OnlyTouches [.start] s { s with start := u } :=
  .of fun p => by cases p <;> first | exact .inl (by decide) | exact .inr rfl

theorem propEntry_touches (s : State) (a : StationState) (d : DemandUnit) (u : ThrustUnit) (m : MeterUnit) :
    OnlyTouches [.station, .demand, .thrust, .meter] s
      { s with station := a, demand := d, thrust := u, meter := m } :=
  .of fun p => by cases p <;> first | exact .inl (by decide) | exact .inr rfl

theorem propStandby_touches (s : State) :
    OnlyTouches [.present, .alerts, .link, .station, .demand, .thrust, .meter] s s.propStandby :=
  (clear_touches s _).mono.trans ((propEntry_touches _ _ _ _ _).mono.trans
    ((offer_touches _ _ _).mono.trans (offer_touches _ _ _).mono))

theorem startPropSeries_touches (s : State) : OnlyTouches [.thrust, .meter] s s.startPropSeries :=
  .of fun p => by cases p <;> first | exact .inl (by decide) | exact .inr rfl

theorem returnEntry_touches (s : State) (a : StationState) (d : DemandUnit) :
    OnlyTouches [.station, .demand] s { s with station := a, demand := d } :=
  .of fun p => by cases p <;> first | exact .inl (by decide) | exact .inr rfl

theorem restartRepeat_touches (s : State) : OnlyTouches [.alerts] s s.restartRepeat :=
  .of fun p => by cases p <;> first | exact .inl (by decide) | exact .inr rfl

theorem propReturn_touches (s : State) :
    OnlyTouches [.present, .alerts, .link, .station, .demand, .thrust, .meter] s s.propReturn :=
  (returnEntry_touches s _ _).mono.trans ((restartRepeat_touches _).mono.trans ((startPropSeries_touches _).mono.trans
    ((offer_touches _ _ _).mono.trans (judgeEngine_touches _).mono)))

theorem standbyTest_touches (s : State) :
    OnlyTouches [.present, .alerts, .link, .station, .demand, .thrust, .meter] s s.standbyTest :=
  whenever_touches s _ (propStandby_touches s)

theorem offerStrain_touches (s : State) : OnlyTouches commsParts s s.offerStrain := offer_touches s _ _

theorem coupEntry_touches (s : State) (a : StationState) (d : DemandUnit) (u : CouplingUnit) (c : Converter) :
    OnlyTouches [.station, .demand, .coup, .conv] s { s with station := a, demand := d, coup := u, conv := c } :=
  .of fun p => by cases p <;> first | exact .inl (by decide) | exact .inr rfl

theorem coupStandby_touches (s : State) : OnlyTouches coupComms s s.coupStandby :=
  (coupEntry_touches s _ _ _ _).mono.trans (offerStrain_touches _).mono

theorem coupReturn_touches (s : State) : OnlyTouches coupComms s s.coupReturn :=
  (coupEntry_touches s _ _ _ _).mono.trans ((restartRepeat_touches _).mono.trans
    ((offerStrain_touches _).mono.trans (winchCauses_touches _).mono))

theorem judgeCoupStandby_touches (s : State) : OnlyTouches coupComms s s.judgeCoupStandby :=
  whenever_touches s _ (coupStandby_touches s)

theorem standbyByClass_touches (s : State) : OnlyTouches coupComms s s.standbyByClass :=
  .ite (coupReturn_touches s) (judgeCoupStandby_touches s)

theorem setRequest_touches (s : State) : OnlyTouches (.start :: coupComms) s s.setRequest :=
  .ite (.refl _ _) ((start_touches s _).mono.trans (judgeCoupStandby_touches _).mono)

theorem clearRequest_touches (s : State) : OnlyTouches standParts s s.clearRequest :=
  .ite (.ite ((start_touches s _).mono.trans (propReturn_touches _).mono)
    (.ite ((start_touches s _).mono.trans (coupReturn_touches _).mono) (start_touches s _).mono))
    (start_touches s _).mono

theorem wakeChange_touches (s : State) (i : Fin 16) (on : Bool) :
    OnlyTouches (.lines :: standParts) s (s.wakeChange i on) :=
  (setLine_touches s _ _).mono.trans (whenever_touches _ _ (clearRequest_touches _).mono)

/-! ## Coupling unit (chapter 6) -/

theorem markOnset_touches (s : State) : OnlyTouches [.coup, .link] s s.markOnset :=
  .of fun p => by cases p <;> first | exact .inl (by decide) | exact .inr rfl

theorem clearClass_touches (s : State) (c : StrainClass) : OnlyTouches commsParts s (s.clearClass c) := by
  unfold State.clearClass; split
  · exact clear_touches s _
  · exact .refl _ _

theorem raiseClass_touches (s : State) (c : StrainClass) : OnlyTouches commsParts s (s.raiseClass c) := by
  unfold State.raiseClass; split
  · exact raiseNew_touches s _
  · exact .refl _ _

theorem reportClass_touches (s : State) : OnlyTouches coupComms s s.reportClass :=
  (offerStrain_touches s).mono.trans ((judgeWinch_touches _).mono.trans (standbyByClass_touches _))

theorem changeClass_touches (s : State) (c : StrainClass) : OnlyTouches coupComms s (s.changeClass c) :=
  .ite (.refl _ _) ((clearClass_touches s _).mono.trans ((coup_touches _ _).mono.trans
    ((raiseClass_touches _ _).mono.trans
      ((OnlyTouches.ite (markOnset_touches _).mono (.refl _ _)).trans (reportClass_touches _)))))

theorem partedOnset_touches (s : State) : OnlyTouches coupComms s s.partedOnset :=
  (OnlyTouches.ite (.refl _ _) (clearClass_touches s _).mono).trans ((coup_touches _ _).mono.trans
    ((raise_touches _ _).mono.trans ((markOnset_touches _).mono.trans (reportClass_touches _))))

theorem partedAnswer_touches (s : State) : OnlyTouches coupComms s s.partedAnswer :=
  .ite ((raise_touches s _).mono.trans ((markOnset_touches _).mono.trans (offerStrain_touches _).mono))
    ((coup_touches s _).mono.trans (changeClass_touches _ _))

theorem wireChange_touches (s : State) (on : Bool) : OnlyTouches (.lines :: coupComms) s (s.wireChange on) :=
  (setLine_touches s _ _).mono.trans (whenever_touches _ _ (partedOnset_touches _).mono)

theorem noteWindow_touches (s : State) : OnlyTouches [.coup] s s.noteWindow := coup_touches s _

theorem judgeClass_touches (s : State) : OnlyTouches coupComms s s.judgeClass :=
  .ite ((noteWindow_touches s).mono.trans (changeClass_touches _ _)) ((noteWindow_touches s).mono.trans
    (coup_touches _ _).mono)

theorem tensionInRange_touches (s : State) (t : Nat) : OnlyTouches coupComms s (s.tensionInRange t) :=
  (whenever_touches s _ (clear_touches s _).mono).trans ((coup_touches _ _).mono.trans
    ((OnlyTouches.ite (partedOnset_touches _) (.ite (noteWindow_touches _).mono (judgeClass_touches _))).trans
      ((judgeWinch_touches _).mono.trans (hauledTaut_touches _).mono)))

theorem tensionFault_touches (s : State) : OnlyTouches coupComms s s.tensionFault :=
  whenever_touches s _ ((raiseNew_touches s _).mono.trans (judgeWinch_touches _).mono)

theorem tensionDelivery_touches (s : State) (r : Raw) (ok : Bool) :
    OnlyTouches coupComms s (s.tensionDelivery r ok) :=
  whenever_touches s _ (.ite (tensionInRange_touches s _) (tensionFault_touches s))

theorem superviseClass_touches (s : State) : OnlyTouches coupComms s s.superviseClass :=
  .ite ((raiseClass_touches s _).mono.trans ((markOnset_touches _).mono.trans (offerStrain_touches _).mono))
    (raiseClass_touches s _).mono

theorem superviseCoupling_touches (s : State) : OnlyTouches coupComms s s.superviseCoupling :=
  (coup_touches s _).mono.trans ((OnlyTouches.ite (raiseNew_touches _ _).mono (.refl _ _)).trans
    ((superviseClass_touches _).trans ((OnlyTouches.ite (partedOnset_touches _) (.refl _ _)).trans
      (winchCauses_touches _).mono)))

theorem strainExpiry_touches (s : State) : OnlyTouches (.coup :: commsParts) s s.strainExpiry :=
  whenever_touches s _ ((coup_touches s _).mono.trans (offerStrain_touches _).mono)

/-! ## Fuel unit (chapter 7) -/

theorem meterTick_touches (s : State) : OnlyTouches (.meter :: commsParts) s s.meterTick :=
  whenever_touches s _ ((meter_touches s _).mono.trans (whenever_touches _ _ (follow_touches _ _ _).mono))

theorem rateEvent_touches (s : State) : OnlyTouches [.meter] s s.rateEvent :=
  whenever_touches s _ (meter_touches s _)

theorem judgeFlow_touches (s : State) : OnlyTouches commsParts s s.judgeFlow :=
  whenever_touches s _ (follow_touches s _ _)

theorem supplyEdge_touches (s : State) : OnlyTouches (.meter :: commsParts) s s.supplyEdge :=
  (meter_touches s _).mono.trans (judgeFlow_touches _).mono

theorem flowExpiry_touches (s : State) : OnlyTouches (.meter :: commsParts) s s.flowExpiry :=
  whenever_touches s _ ((meter_touches s _).mono.trans (judgeFlow_touches _).mono)

theorem fuelExpiry_touches (s : State) : OnlyTouches (.meter :: commsParts) s s.fuelExpiry :=
  whenever_touches s _ ((meter_touches s _).mono.trans (offer_touches _ _ _).mono)

theorem superviseFuel_touches (s : State) : OnlyTouches (.meter :: commsParts) s s.superviseFuel :=
  (whenever_touches s _ (raiseNew_touches s _).mono).trans ((meter_touches _ _).mono.trans
    (judgeFlow_touches _).mono)

theorem account_touches (s : State) (u : AccountUnit) : OnlyTouches [.account] s { s with account := u } :=
  .of fun p => by cases p <;> first | exact .inl (by decide) | exact .inr rfl

theorem judgeTankLow_touches (s : State) : OnlyTouches commsParts s s.judgeTankLow :=
  whenever_touches s _ (follow_touches s _ _)

theorem setHolderLow_touches (s : State) (h : Option (Tab 4 Bool)) :
    OnlyTouches (.account :: commsParts) s (s.setHolderLow h) :=
  (account_touches s _).mono.trans (judgeTankLow_touches _).mono

theorem discontinuity_touches (s : State) : OnlyTouches (.account :: commsParts) s s.discontinuity := by
  unfold State.discontinuity
  refine (account_touches s { s.account with lastDisc := some s.clock }).mono.trans ?_
  dsimp only
  exact whenever_touches _ _ (raiseNew_touches _ _).mono

theorem takeFuel_touches (s : State) (a : Addr) (p : FuelFields) :
    OnlyTouches (.account :: commsParts) s (s.takeFuel a p) :=
  whenever_touches s _ ((account_touches s _).mono.trans
    ((OnlyTouches.ite (discontinuity_touches _) (.refl _ _)).trans (judgeTankLow_touches _).mono))

theorem markRestart_touches (s : State) (a : Addr) : OnlyTouches [.account] s (s.markRestart a) :=
  whenever_touches s _ (account_touches s _)

theorem takeAccount_touches (s : State) (a : Addr) (p : AccountFields) :
    OnlyTouches (.account :: commsParts) s (s.takeAccount a p) :=
  whenever_touches s _ (setHolderLow_touches s _)

theorem recordFill_touches (s : State) (k : Fin 4) : OnlyTouches (.account :: commsParts) s (s.recordFill k) :=
  (account_touches s _).mono.trans (judgeTankLow_touches _).mono

theorem fillChange_touches (s : State) (k : Fin 4) (on : Bool) :
    OnlyTouches (.lines :: .account :: commsParts) s (s.fillChange k on) := by
  unfold State.fillChange
  refine (setLine_touches s (Fin.ofNat 16 (8 + k.val)) on).mono.trans ?_
  dsimp only
  exact whenever_touches _ _ (recordFill_touches _ k).mono

theorem discontinuityExpiry_touches (s : State) : OnlyTouches commsParts s s.discontinuityExpiry :=
  whenever_touches s _ (clear_touches s _)

theorem accountExpiry_touches (s : State) : OnlyTouches (.account :: commsParts) s s.accountExpiry :=
  whenever_touches s _ ((account_touches s _).mono.trans (offer_touches _ _ _).mono)

theorem superviseAccount_touches (s : State) : OnlyTouches (.account :: commsParts) s s.superviseAccount :=
  (whenever_touches s _ (raiseNew_touches s _).mono).trans ((judgeTankLow_touches _).mono.trans
    (account_touches _ _).mono)

/-! ## Convoy alert view (section 8.6) -/

theorem view_touches (s : State) (u : ViewUnit) : OnlyTouches [.view] s { s with view := u } :=
  .of fun p => by cases p <;> first | exact .inl (by decide) | exact .inr rfl

theorem judgeViewRoom_touches (s : State) : OnlyTouches commsParts s s.judgeViewRoom :=
  whenever_touches s _ (clear_touches s _)

theorem takeAlert_touches (s : State) (a : Addr) (p : AlertFields) :
    OnlyTouches (.view :: commsParts) s (s.takeAlert a p) :=
  whenever_touches s _ ((view_touches s _).mono.trans
    ((whenever_touches _ _ (raiseNew_touches _ _).mono).trans
      ((judgeViewRoom_touches _).mono.trans (whenever_touches _ _ (offer_touches _ _ _).mono))))

theorem forgetItems_touches (s : State) (l : List Nat) :
    OnlyTouches (.view :: commsParts) s (s.forgetItems l) :=
  whenever_touches s _ ((view_touches s _).mono.trans (judgeViewRoom_touches _).mono)

theorem restartItems_touches (s : State) (a : Addr) : OnlyTouches [.view] s (s.restartItems a) :=
  whenever_touches s _ (view_touches s _)

theorem requestView_touches (s : State) : OnlyTouches (.view :: commsParts) s s.requestView :=
  whenever_touches s _ ((view_touches s _).mono.trans (whenever_touches _ _ (offer_touches _ _ _).mono))

theorem nextAck_touches (s : State) : OnlyTouches commsParts s s.nextAck :=
  whenever_touches s _ (offer_touches s _ _)

/-! ## Demand unit (chapter 2) -/

theorem demand_touches (s : State) (u : DemandUnit) : OnlyTouches [.demand] s { s with demand := u } :=
  .of fun p => by cases p <;> first | exact .inl (by decide) | exact .inr rfl

theorem helm_touches (s : State) (u : HelmUnit) : OnlyTouches [.helm] s { s with helm := u } :=
  .of fun p => by cases p <;> first | exact .inl (by decide) | exact .inr rfl

theorem foundDemand_touches (s : State) : OnlyTouches commsParts s s.foundDemand :=
  whenever_touches s _ (clear_touches s _)

theorem acceptDemand_touches (s : State) (p : DemandFields) : OnlyTouches standParts s (s.acceptDemand p) :=
  (demand_touches s _).mono.trans ((foundDemand_touches _).mono.trans
    (whenever_touches _ _ (clearRequest_touches _)))

theorem timeoutExpiry_touches (s : State) :
    OnlyTouches (.demand :: .coup :: commsParts) s s.timeoutExpiry :=
  whenever_touches s _ ((demand_touches s _).mono.trans
    ((whenever_touches _ _ (raiseNew_touches _ _).mono).trans (judgeWinch_touches _).mono))

theorem holdExpiry_touches (s : State) : OnlyTouches [.demand, .coup] s s.holdExpiry :=
  whenever_touches s _ ((demand_touches s _).mono.trans (judgeWinch_touches _).mono)

theorem decayTick_touches (s : State) : OnlyTouches [.demand, .coup] s s.decayTick :=
  whenever_touches s _ ((demand_touches s _).mono.trans (judgeWinch_touches _).mono)

theorem judgeLagEnd_touches (s : State) : OnlyTouches commsParts s s.judgeLagEnd :=
  whenever_touches s _ (clear_touches s _)

theorem lagAll_touches (s : State) : OnlyTouches (.helm :: commsParts) s s.lagAll :=
  (helm_touches s _).mono.trans (judgeLagEnd_touches _).mono

theorem lagRenumber_touches (s : State) (n : Byte) : OnlyTouches (.helm :: commsParts) s (s.lagRenumber n) :=
  (helm_touches s _).mono.trans (judgeLagEnd_touches _).mono

theorem lagOne_touches (s : State) (a : Addr) : OnlyTouches (.helm :: commsParts) s (s.lagOne a) :=
  whenever_touches s _ ((helm_touches s _).mono.trans (judgeLagEnd_touches _).mono)

theorem pruneLag_touches (s : State) : OnlyTouches (.helm :: commsParts) s s.pruneLag :=
  whenever_touches s _ ((helm_touches s _).mono.trans (judgeLagEnd_touches _).mono)

theorem lagExpiry_touches (s : State) : OnlyTouches commsParts s s.lagExpiry :=
  whenever_touches s _ (raiseNew_touches s _)

theorem queueStandby_touches (s : State) : OnlyTouches (.helm :: commsParts) s s.queueStandby :=
  (helm_touches s _).mono.trans (offerWith_touches _ _ _).mono

theorem switchOn_touches (s : State) : OnlyTouches (.helm :: commsParts) s s.switchOn :=
  .ite (queueStandby_touches s) (helm_touches s _).mono

theorem switchOff_touches (s : State) : OnlyTouches (.helm :: commsParts) s s.switchOff :=
  .ite ((helm_touches s _).mono.trans (offerWith_touches _ _ _).mono) (helm_touches s _).mono

theorem takeLive_touches (s : State) (n : Byte) : OnlyTouches [.helm, .demand] s (s.takeLive n) :=
  .of fun p => by cases p <;> first | exact .inl (by decide) | exact .inr rfl

theorem renumber_touches (s : State) : OnlyTouches (.helm :: .demand :: commsParts) s s.renumber :=
  (takeLive_touches s _).mono.trans ((offer_touches _ _ _).mono.trans ((lagRenumber_touches _ _).mono.trans
    (whenever_touches _ _ (queueStandby_touches _).mono)))

theorem testNumber_touches (s : State) : OnlyTouches (.helm :: .demand :: commsParts) s s.testNumber :=
  whenever_touches s _ (renumber_touches s)

theorem demandIntervalEnd_touches (s : State) : OnlyTouches (.helm :: commsParts) s s.demandIntervalEnd :=
  whenever_touches s _ ((helm_touches s _).mono.trans (offer_touches _ _ _).mono)

theorem leverDelivery_touches (s : State) (a b : Raw) (x y : Bool) :
    OnlyTouches (.helm :: .demand :: commsParts) s (s.leverDelivery a b x y) :=
  whenever_touches s _ ((helm_touches s _).mono.trans
    ((whenever_touches _ _ (follow_touches _ _ _).mono).trans (testNumber_touches _)))

theorem readSwitches_touches (s : State) : OnlyTouches [.helm] s s.readSwitches := helm_touches s _

theorem setSwitches_touches (s : State) (m e : BitVec 2) (b : Bool) :
    OnlyTouches [.lines] s (s.setSwitches m e b) :=
  (setLine_touches s _ _).trans ((setLine_touches _ _ _).trans ((setLine_touches _ _ _).trans
    ((setLine_touches _ _ _).trans (setLine_touches _ _ _))))

theorem switchChange_touches (s : State) (m e : BitVec 2) (b : Bool) :
    OnlyTouches (.lines :: .helm :: .demand :: commsParts) s (s.switchChange m e b) := by
  unfold State.switchChange
  refine (setSwitches_touches s m e b).mono.trans ?_
  dsimp only
  exact whenever_touches _ _ ((readSwitches_touches _).mono.trans (testNumber_touches _).mono)

theorem enterHolding_touches (s : State) :
    OnlyTouches (.helm :: .demand :: .account :: commsParts) s s.enterHolding :=
  (takeLive_touches s _).mono.trans ((helm_touches _ _).mono.trans ((foundDemand_touches _).mono.trans
    ((clear_touches _ _).mono.trans ((setHolderLow_touches _ _).mono.trans ((offer_touches _ _ _).mono.trans
      ((lagAll_touches _).mono.trans (whenever_touches _ _ (switchOn_touches _).mono)))))))

theorem leaveParts_touches (s : State) (h : HelmUnit) (d : DemandUnit) (v : ViewUnit) :
    OnlyTouches [.helm, .demand, .view] s { s with helm := h, demand := d, view := v } :=
  .of fun p => by cases p <;> first | exact .inl (by decide) | exact .inr rfl

theorem leaveHolding_touches (s : State) :
    OnlyTouches (.helm :: .demand :: .view :: commsParts) s s.leaveHolding :=
  (leaveParts_touches s _ _ _).mono.trans (clear_touches _ _).mono

theorem conAfterView_touches (s : State) (h : Addr) :
    OnlyTouches (.helm :: .demand :: .view :: commsParts) s (s.conAfterView h) := by
  unfold State.conAfterView
  split
  · exact .ite (.refl _ _) ((leaveHolding_touches s).trans (whenever_touches _ _ (raiseNew_touches _ _).mono))
  · exact .ite (.refl _ _) (helm_touches s _).mono
  · exact .refl _ _

theorem offerView_touches (s : State) (h : Addr) (e : Byte) : OnlyTouches conParts s (s.offerView h e) :=
  .ite ((demand_touches s _).mono.trans (whenever_touches _ _
    ((setHolderLow_touches _ _).mono.trans (conAfterView_touches _ _).mono))) (.refl _ _)

theorem takeCon_touches (s : State) : OnlyTouches conParts s s.takeCon :=
  (offerWith_touches s _ _).mono.trans ((offerView_touches _ _ _).trans (enterHolding_touches _).mono)

theorem requestCon_touches (s : State) (h : Addr) : OnlyTouches conParts s (s.requestCon h) :=
  (helm_touches s _).mono.trans (offerWith_touches _ _ _).mono

theorem claimCon_touches (s : State) : OnlyTouches conParts s s.claimCon := by
  unfold State.claimCon
  split
  · exact takeCon_touches s
  · exact .ite (takeCon_touches s) (requestCon_touches s _)

theorem conRequestChange_touches (s : State) (on : Bool) :
    OnlyTouches (.lines :: conParts) s (s.conRequestChange on) :=
  (setLine_touches s _ _).mono.trans (whenever_touches _ _ (claimCon_touches _).mono)

theorem requestExpiry_touches (s : State) : OnlyTouches conParts s s.requestExpiry :=
  whenever_touches s _ (.ite ((helm_touches s _).mono.trans (takeCon_touches _)) (helm_touches s _).mono)

theorem grantCon_touches (s : State) (a : Addr) : OnlyTouches conParts s (s.grantCon a) :=
  (offerWith_touches s _ _).mono.trans ((leaveHolding_touches _).mono.trans (offerView_touches _ _ _))

theorem declineCon_touches (s : State) (a : Addr) : OnlyTouches commsParts s (s.declineCon a) :=
  offerWith_touches s _ _

theorem routeRequest_touches (s : State) (a : Addr) (p : ConFields) :
    OnlyTouches conParts s (s.routeRequest a p) :=
  whenever_touches s _ (.ite (grantCon_touches s a) (declineCon_touches s a).mono)

theorem routeGrant_touches (s : State) (p : ConFields) : OnlyTouches conParts s (s.routeGrant p) :=
  (offerView_touches s _ _).trans (whenever_touches _ _ (enterHolding_touches _).mono)

theorem routeDecline_touches (s : State) (a : Addr) (p : ConFields) : OnlyTouches [.helm] s (s.routeDecline a p) :=
  whenever_touches s _ (helm_touches s _)

/-- What a DEMAND touches once it is routed. -/
abbrev demandParts : List Part :=
  [.present, .alerts, .link, .helm, .demand, .view, .account, .station, .start, .thrust, .meter, .coup, .conv]

theorem routeDemand_touches (s : State) (a : Addr) (p : DemandFields) :
    OnlyTouches demandParts s (s.routeDemand a p) := by
  unfold State.routeDemand
  refine (offerView_touches s a p.epoch).mono.trans ?_
  dsimp only
  exact whenever_touches _ _ (acceptDemand_touches _ p).mono

theorem standbySwitchChange_touches (s : State) (on : Bool) :
    OnlyTouches (.lines :: .helm :: commsParts) s (s.standbySwitchChange on) :=
  (setLine_touches s _ _).mono.trans (whenever_touches _ _
    (.ite (switchOn_touches _).mono (switchOff_touches _).mono))

theorem rosterClearChange_touches (s : State) (on : Bool) :
    OnlyTouches (.lines :: commsParts) s (s.rosterClearChange on) :=
  (setLine_touches s _ _).mono.trans (whenever_touches _ _ (offerWith_touches _ _ _).mono)

theorem superviseHelm_touches (s : State) : OnlyTouches conParts s s.superviseHelm := by
  unfold State.superviseHelm
  refine (whenever_touches (f := fun s => s.raiseNew .leverSignal) s
    (s.helm.thrustFault || s.helm.turnFault) (raiseNew_touches s .leverSignal).mono).trans ?_
  dsimp only
  split
  · exact .ite (takeCon_touches _) (.refl _ _)
  · exact .ite (enterHolding_touches _).mono (.refl _ _)

theorem leaveCon_touches (s : State) : OnlyTouches conParts s s.leaveCon :=
  (OnlyTouches.ite (leaveHolding_touches s).mono (.refl _ _)).trans (helm_touches _ _).mono

/-! ## Start unit (chapter 12) -/

theorem failedParts_touches (s : State) (a : StationState) (u : StartUnit) (c : Converter) (m : AlertUnit) :
    OnlyTouches [.station, .start, .conv, .alerts] s
      { s with station := a, start := u, conv := c, comms := { s.comms with alerts := m } } :=
  .of fun p => by cases p <;> first | exact .inl (by decide) | exact .inr rfl

/-- What a failed load touches. -/
abbrev failParts : List Part := [.station, .start, .conv, .present, .alerts, .link, .outputs]

theorem enterFailed_touches (s : State) :
    OnlyTouches [.station, .start, .conv, .alerts, .outputs] s s.enterFailed :=
  (failedParts_touches s _ _ _ _).mono.trans (applySafe_touches _).mono

theorem conv_touches (s : State) (u : Converter) : OnlyTouches [.conv] s { s with conv := u } :=
  .of fun p => by cases p <;> first | exact .inl (by decide) | exact .inr rfl

/-- The periods of a read that began at a moment. -/
theorem memoryPeriods_of_reading {s : State} {since : Clock} (h : s.start.reading = some since) :
    s.memoryPeriods = min 1048 (elapsed s.clock since) := by
  simp [State.memoryPeriods, h, readPeriods]

/-- A read ends no sooner than 1048 periods after its beginning. -/
theorem readDue_iff {s : State} {since : Clock} (h : s.start.reading = some since) :
    s.readDue = true ↔ 1048 ≤ elapsed s.clock since := by
  simp only [State.readDue, memoryPeriods_of_reading h, readPeriods, decide_eq_true_eq]
  exact ⟨fun e => e.symm.trans_le (Nat.min_le_right _ _), fun e => Nat.min_eq_left e⟩

theorem readComplete_touches (s : State) (bytes : List Byte) : OnlyTouches failParts s (s.readComplete bytes) := by
  unfold State.readComplete
  split
  · exact .refl _ _
  · exact .ite ((start_touches s _).mono.trans ((whenever_touches _ _ (raise_touches _ _).mono).trans
      (conv_touches _ _).mono)) ((start_touches s _).mono.trans (enterFailed_touches _).mono)

theorem configRead_touches (s : State) (bytes : List Byte) : OnlyTouches failParts s (s.configRead bytes) :=
  whenever_touches s _ (readComplete_touches s _)

/-- What the entry to JOINING touches. -/
abbrev joinParts : List Part :=
  [.station, .start, .demand, .peers, .meter, .conv, .thrust, .link, .helm, .gear, .gov, .outputs]

theorem startJoining_touches (s : State) : OnlyTouches joinParts s s.startJoining :=
  .of fun p => by cases p <;> first | exact .inl (by decide) | exact .inr rfl

theorem enterJoining_touches (s : State) : OnlyTouches joinParts s s.enterJoining :=
  (startJoining_touches s).trans ((whenever_touches _ _ (readSwitches_touches _).mono).trans
    ((refreshAvailability_touches _).mono.trans ((refreshStrain_touches _).mono.trans
      (applySafe_touches _).mono)))

theorem referenceDone_touches (s : State) (r : Raw) :
    OnlyTouches (.alerts :: joinParts) s (s.referenceDone r) :=
  whenever_touches s _ (.ite ((conv_touches s _).mono.trans (enterJoining_touches _).mono)
    ((conv_touches s _).mono.trans (enterFailed_touches _).mono))

theorem entryDemand_touches (s : State) : OnlyTouches commsParts s s.entryDemand :=
  whenever_touches s _ (raiseNew_touches s _)

theorem entryHelm_touches (s : State) : OnlyTouches conParts s s.entryHelm := by
  unfold State.entryHelm
  refine (superviseHelm_touches s).trans ((superviseAccount_touches _).mono.trans ?_)
  dsimp only
  exact whenever_touches _ _ (raiseNew_touches _ _).mono

/-- What a PROPULSION station's first entry to ACTIVE touches. -/
abbrev propEntryParts : List Part :=
  [.present, .alerts, .link, .thrust, .gear, .gov, .outputs, .steer, .meter]

theorem entryProp_touches (s : State) : OnlyTouches propEntryParts s s.entryProp :=
  (judgeEngine_touches s).mono.trans ((startPropSeries_touches _).mono.trans
    ((superviseGear_touches _).mono.trans ((superviseGovernor_touches _).mono.trans
      ((superviseSteering_touches _).mono.trans (superviseFuel_touches _).mono))))

/-- What the units of a role touch at the first entry to ACTIVE. -/
abbrev entryParts : List Part :=
  [.present, .alerts, .link, .thrust, .gear, .gov, .outputs, .steer, .meter, .helm, .demand, .view, .account,
   .coup, .station, .conv]

theorem entryUnits_touches (s : State) : OnlyTouches entryParts s s.entryUnits := by
  unfold State.entryUnits
  split
  · exact (entryHelm_touches s).mono
  · exact (entryProp_touches s).mono
  · exact (superviseCoupling_touches s).mono
  · exact .refl _ _

theorem entryCommon_touches (s : State) : OnlyTouches commsParts s s.entryCommon := by
  unfold State.entryCommon
  refine (whenever_touches (f := fun s => s.raiseNew .rxError) s s.comms.link.errorMark
    (raiseNew_touches s _)).trans ?_
  dsimp only
  exact whenever_touches _ _ (raiseNew_touches _ _)

theorem alertUnit_touches (s : State) (u : AlertUnit) :
    OnlyTouches [.alerts] s { s with comms := { s.comms with alerts := u } } :=
  .of fun p => by cases p <;> first | exact .inl (by decide) | exact .inr rfl

theorem link_touches (s : State) (u : LinkUnit) :
    OnlyTouches [.link] s { s with comms := { s.comms with link := u } } :=
  .of fun p => by cases p <;> first | exact .inl (by decide) | exact .inr rfl

theorem entryAlert_touches (s : State) : OnlyTouches commsParts s s.entryAlert :=
  (alertUnit_touches s _).mono.trans (whenever_touches _ _ (offerAlert_touches _))

theorem stationStart_touches (s : State) (a : StationState) (u : StartUnit) :
    OnlyTouches [.station, .start] s { s with station := a, start := u } :=
  .of fun p => by cases p <;> first | exact .inl (by decide) | exact .inr rfl

theorem enterActive_touches (s : State) : OnlyTouches (.start :: entryParts) s s.enterActive :=
  (stationStart_touches s _ _).mono.trans ((judgeConflict_touches _ _).mono.trans
    ((judgeSilent_touches _ _).mono.trans ((entryDemand_touches _).mono.trans
      ((entryUnits_touches _).mono.trans ((entryCommon_touches _).mono.trans
        ((entryAlert_touches _).mono.trans (judgeCoupStandby_touches _).mono))))))

theorem joinExpiry_touches (s : State) : OnlyTouches (.start :: entryParts) s s.joinExpiry :=
  whenever_touches s _ (enterActive_touches s)

/-- What the entry to LISTEN_ONLY or HALTED touches. -/
abbrev leaveParts : List Part :=
  [.station, .start, .present, .alerts, .link, .demand, .peers, .thrust, .gear, .gov, .steer, .coup, .meter,
   .account, .helm, .view, .outputs]

theorem leaveUnits_touches (s : State) (a : StationState) (b : StartUnit) (c : Comms) (d : DemandUnit)
    (e : PeerTable) (f : ThrustUnit) (g : GearUnit) (h : GovernorUnit) (i : SteeringUnit) (j : CouplingUnit)
    (k : MeterUnit) (l : AccountUnit) :
    OnlyTouches leaveParts s
      { s with station := a, start := b, comms := c, demand := d, peers := e, thrust := f, gear := g, gov := h,
               steer := i, coup := j, meter := k, account := l } :=
  .of fun p => by cases p <;> first | exact .inl (by decide) | exact .inr rfl

theorem leaveService_touches (s : State) (b : Bool) : OnlyTouches leaveParts s (s.leaveService b) :=
  (leaveUnits_touches s _ _ _ _ _ _ _ _ _ _ _ _).trans ((leaveCon_touches _).mono.trans
    (applySafe_touches _).mono)

theorem duplicateAddress_touches (s : State) : OnlyTouches leaveParts s s.duplicateAddress :=
  (raise_touches s _).mono.trans (leaveService_touches _ _)

theorem forceAlert_touches (s : State) : OnlyTouches [.link] s s.forceAlert := link_touches s _

theorem configCorrupt_touches (s : State) : OnlyTouches leaveParts s s.configCorrupt :=
  (raise_touches s _).mono.trans ((leaveService_touches _ _).trans (forceAlert_touches _).mono)

theorem watchRun_touches (s : State) (d : List (Nat × Word)) : OnlyTouches leaveParts s (s.watchRun d) := by
  unfold State.watchRun
  refine (start_touches s { s.start with image := damageImage s.start.image d }).mono.trans ?_
  dsimp only
  refine whenever_touches _ _ ((start_touches _ { s.start with
    image := damageImage s.start.image d, watch := nextInterval s.start.watch }).mono.trans ?_)
  exact whenever_touches _ _ (configCorrupt_touches _)

/-! ## Transmitter (sections 9.5 and 9.6) -/

theorem noteAssembly_touches (s : State) (p : Payload) : OnlyTouches [.coup, .alerts] s (s.noteAssembly p) := by
  unfold State.noteAssembly
  split
  · exact (coup_touches s _).mono
  · exact .ite (.refl _ _) (alertUnit_touches s _).mono
  all_goals exact .refl _ _

theorem attempt_touches (s : State) (p : Payload) (c : Fin 4) (n : Nat) :
    OnlyTouches [.coup, .alerts, .link] s (s.attempt p c n) := by
  unfold State.attempt
  split
  · exact .refl _ _
  · exact (noteAssembly_touches s p).mono.trans (link_touches _ _).mono

theorem dropHead_touches (s : State) : OnlyTouches [.link] s s.dropHead := link_touches s _

theorem startHead_touches (n : Nat) : ∀ s : State, OnlyTouches [.coup, .alerts, .link] s (s.startHead n) := by
  induction n with
  | zero => intro s; exact .refl _ _
  | succ n ih =>
    intro s
    unfold State.startHead
    split
    · exact .refl _ _
    · split
      · split
        · exact (dropHead_touches s).mono.trans (ih _)
        · exact (dropHead_touches s).mono.trans (attempt_touches _ _ _ _)
      · exact .refl _ _

theorem transmitStart_touches (s : State) : OnlyTouches [.coup, .alerts, .link] s s.transmitStart :=
  whenever_touches s _ (startHead_touches _ s)

theorem collide_touches (s : State) : OnlyTouches [.link] s s.collide := by
  unfold State.collide
  split
  · exact whenever_touches s _ (link_touches s _)
  all_goals exact .refl _ _

/-- What a forget touches. -/
abbrev forgetParts : List Part :=
  [.peers, .present, .alerts, .link, .view, .helm, .thrust, .gear, .gov, .outputs, .coup]

theorem forget_touches (s : State) : OnlyTouches forgetParts s s.forget :=
  (forgetEntries_touches s).mono.trans ((judgeConflict_touches _ _).mono.trans
    ((judgeSilent_touches _ _).mono.trans ((forgetItems_touches _ _).mono.trans
      ((pruneLag_touches _).mono.trans ((refreshStrain_touches _).mono.trans (judgeWinch_touches _).mono)))))

theorem alertEnd_touches (s : State) (a : AlertFields) (b : Bool) : OnlyTouches commsParts s (s.alertEnd a b) :=
  .ite ((alertUnit_touches s _).mono.trans (whenever_touches _ _ (offerAlert_touches _)))
    (.ite ((alertUnit_touches s _).mono.trans (offerAlert_touches _)) (.refl _ _))

theorem tellOwner_touches (s : State) (h : InHand) (b : Bool) : OnlyTouches forgetParts s (s.tellOwner h b) := by
  unfold State.tellOwner
  split
  · exact .ite (coup_touches s _).mono (.refl _ _)
  · exact (alertEnd_touches s _ _).mono
  · exact (OnlyTouches.ite (view_touches s _).mono (.refl _ _)).trans (nextAck_touches _).mono
  · exact .ite (forget_touches s) (.refl _ _)
  all_goals exact .refl _ _

theorem endTold_touches (s : State) (h : InHand) (b : Bool) : OnlyTouches forgetParts s (s.endTold h b) :=
  whenever_touches s _ (tellOwner_touches s h b)

theorem handOver_touches (s : State) : OnlyTouches [.link] s s.handOver := link_touches s _

theorem lose_touches (s : State) : OnlyTouches commsParts s s.lose := by
  unfold State.lose
  refine (link_touches s { s.comms.link with lastLoss := some s.clock }).mono.trans ?_
  dsimp only
  exact whenever_touches _ _ (raiseNew_touches _ _)

theorem discardHand_touches (s : State) (h : InHand) : OnlyTouches forgetParts s (s.discardHand h) :=
  (handOver_touches s).mono.trans ((lose_touches _).mono.trans (endTold_touches _ _ _))

theorem drawBackoff_touches (s : State) (h : InHand) : OnlyTouches [.link] s (s.drawBackoff h) := link_touches s _

theorem releaseLine_touches (s : State) : OnlyTouches [.link] s s.releaseLine := link_touches s _

theorem jamEnd_touches (s : State) : OnlyTouches forgetParts s s.jamEnd := by
  unfold State.jamEnd
  split
  · exact whenever_touches s _ (.ite ((releaseLine_touches s).mono.trans (drawBackoff_touches _ _).mono)
      ((releaseLine_touches s).mono.trans (discardHand_touches _ _)))
  all_goals exact .refl _ _

theorem retry_touches (s : State) (h : InHand) : OnlyTouches [.coup, .alerts, .link] s (s.retry h) := by
  unfold State.retry
  split
  · exact (handOver_touches s).mono
  · exact attempt_touches s _ _ _

theorem backoffEnd_touches (s : State) : OnlyTouches [.coup, .alerts, .link] s s.backoffEnd := by
  unfold State.backoffEnd
  split
  · exact whenever_touches s _ (retry_touches s _)
  all_goals exact .refl _ _

theorem transmitFault_touches (s : State) : OnlyTouches forgetParts s s.transmitFault := by
  unfold State.transmitFault
  split
  · exact whenever_touches s _ ((link_touches s _).mono.trans ((handOver_touches _).mono.trans
      ((whenever_touches _ _ (raiseNew_touches _ _).mono).trans (endTold_touches _ _ _))))
  all_goals exact .refl _ _

theorem sentLink_touches (s : State) (f : Frame) : OnlyTouches [.link] s (s.sentLink f) :=
  (link_touches s _).trans (handOver_touches _)

theorem sentEnd_touches (s : State) : OnlyTouches forgetParts s s.sentEnd := by
  unfold State.sentEnd
  split
  · exact whenever_touches s _ ((sentLink_touches s _).mono.trans
      ((whenever_touches _ _ (clear_touches _ _).mono).trans (endTold_touches _ _ _)))
  all_goals exact .refl _ _

theorem lossExpiry_touches (s : State) : OnlyTouches commsParts s s.lossExpiry :=
  whenever_touches s _ (clear_touches s _)

theorem repeatExpiry_touches (s : State) : OnlyTouches commsParts s s.repeatExpiry :=
  whenever_touches s _ ((alertUnit_touches s _).mono.trans (offerAlert_touches _))

theorem stateExpiry_touches (s : State) : OnlyTouches (.thrust :: commsParts) s s.stateExpiry :=
  whenever_touches s _ ((thrust_touches s _).mono.trans (offer_touches _ _ _).mono)

theorem economyEvent_touches (s : State) : OnlyTouches [.thrust] s s.economyEvent :=
  whenever_touches s _ ((thrust_touches s _).trans (evaluateTrim_touches _))

/-! ## Acknowledgement (section 8.3) -/

/-- What an owner's answer to an acknowledgement touches. -/
abbrev answerParts : List Part :=
  [.present, .alerts, .link, .thrust, .gear, .gov, .outputs, .steer, .coup, .station, .demand, .conv]

theorem answer_touches (s : State) (c : AlertCode) : OnlyTouches answerParts s (s.answer c) := by
  unfold State.answer
  split
  · exact (gearAnswer_touches s).mono
  · exact (gearAnswer_touches s).mono
  · exact (overspeedAnswer_touches s).mono
  · exact (interlockAnswer_touches s).mono
  · exact (partedAnswer_touches s).mono
  · exact (unlockWinch_touches s).mono
  · exact .refl _ _

theorem present_touches (s : State) (u : Tab 33 Bool) :
    OnlyTouches [.present] s { s with comms := { s.comms with present := u } } :=
  .of fun p => by cases p <;> first | exact .inl (by decide) | exact .inr rfl

theorem endCondition_touches (s : State) (c : AlertCode) : OnlyTouches answerParts s (s.endCondition c) :=
  (present_touches s _).mono.trans (answer_touches _ _)

theorem endByAck_touches (s : State) (c : AlertCode) : OnlyTouches answerParts s (s.endByAck c) :=
  .ite (endCondition_touches s c) ((endCondition_touches s c).trans (relist_touches _ _).mono)

theorem ackEntry_touches (s : State) (e : AlertEntry) : OnlyTouches answerParts s (s.ackEntry e) := by
  unfold State.ackEntry
  split
  · exact .ite (endByAck_touches s _) (relist_touches s _).mono
  · exact .refl _ _
  · exact (relist_touches s _).mono

theorem ackItem_touches (s : State) (c : AlertCode) (o : Byte) : OnlyTouches answerParts s (s.ackItem c o) := by
  unfold State.ackItem
  split
  · exact .refl _ _
  · exact .ite (ackEntry_touches s _) (offerAlert_touches s).mono

theorem ackAll_touches (l : List AckItem) : ∀ s : State, OnlyTouches answerParts s (s.ackAll l) := by
  induction l with
  | nil => intro s; exact .refl _ _
  | cons i is ih =>
    intro s
    exact (OnlyTouches.ite (ackItem_touches s _ _) (.refl _ _)).trans (ih _)

theorem takeAck_touches (s : State) (a : Addr) (l : List AckItem) : OnlyTouches answerParts s (s.takeAck a l) :=
  whenever_touches s _ (ackAll_touches l s)

theorem ackCode_touches (s : State) (c : AlertCode) : OnlyTouches answerParts s (s.ackCode c) := by
  unfold State.ackCode
  split
  · exact .refl _ _
  · exact .ite (ackEntry_touches s _) (.refl _ _)

theorem ackCodes_touches (l : List AlertCode) : ∀ s : State, OnlyTouches answerParts s (s.ackCodes l) := by
  induction l with
  | nil => intro s; exact .refl _ _
  | cons c cs ih => intro s; exact (ackCode_touches s c).trans (ih _)

theorem endEntryless_touches (l : List AlertCode) :
    ∀ s : State, OnlyTouches answerParts s (s.endEntryless l) := by
  induction l with
  | nil => intro s; exact .refl _ _
  | cons c cs ih => intro s; exact (OnlyTouches.ite (endCondition_touches s c) (.refl _ _)).trans (ih _)

theorem pressAck_touches (s : State) : OnlyTouches (.view :: answerParts) s s.pressAck :=
  (ackCodes_touches _ s).mono.trans ((OnlyTouches.ite (.refl _ _) (endEntryless_touches _ _).mono).trans
    ((judgeWinch_touches _).mono.trans (requestView_touches _).mono))

theorem ackChange_touches (s : State) (on : Bool) :
    OnlyTouches (.lines :: .view :: answerParts) s (s.ackChange on) := by
  unfold State.ackChange
  split
  · exact .refl _ _
  · exact (setLine_touches s _ _).mono.trans (whenever_touches _ _ (pressAck_touches _).mono)

/-! ## Receiver and routing (sections 1.2, 9.1) -/

theorem receptionStart_touches (s : State) : OnlyTouches [.link] s s.receptionStart :=
  whenever_touches s _ (link_touches s _)

theorem lineQuiet_touches (s : State) (b : List Bool) : OnlyTouches [.link] s (s.lineQuiet b) :=
  whenever_touches s _ (link_touches s _)

theorem fragment_touches (s : State) (c : FragmentCause) (b : List Bool) : OnlyTouches [.link] s (s.fragment c b) :=
  whenever_touches s _ (link_touches s _)

theorem endReception_touches (s : State) (r : Word) : OnlyTouches [.link] s (s.endReception r) := link_touches s _

theorem noteReception_touches (s : State) (b : Bool) : OnlyTouches commsParts s (s.noteReception b) :=
  .ite (link_touches s _).mono (whenever_touches s _ (follow_touches s _ _))

theorem ownFrame_touches (s : State) : OnlyTouches leaveParts s s.ownFrame :=
  .ite (link_touches s _).mono (whenever_touches s _ (duplicateAddress_touches s))

theorem noteStart_touches (s : State) (f : Frame) : OnlyTouches [.account, .view] s (s.noteStart f) :=
  whenever_touches s _ ((markRestart_touches s _).mono.trans (restartItems_touches _ _).mono)

/-- What a change of the table touches in the units that read it. -/
abbrev tableParts : List Part := [.present, .alerts, .link, .helm, .thrust, .gear, .gov, .outputs, .coup]

theorem tableChanged_touches (s : State) (was : Bool) : OnlyTouches tableParts s (s.tableChanged was) :=
  (judgeSilent_touches s was).mono.trans ((pruneLag_touches _).mono.trans
    ((refreshStrain_touches _).mono.trans (judgeWinch_touches _).mono))

/-- What a routed frame touches. -/
abbrev routeParts : List Part :=
  [.present, .alerts, .link, .helm, .demand, .view, .account, .station, .start, .thrust, .meter, .coup, .conv,
   .peers, .gear, .gov, .outputs, .steer]

theorem route_touches (s : State) (f : Frame) : OnlyTouches routeParts s (s.route f) := by
  unfold State.route
  split
  · exact (routeDemand_touches s _ _).mono
  · exact (routeRequest_touches s _ _).mono
  · exact (routeGrant_touches s _).mono
  · exact (routeDecline_touches s _ _).mono
  · exact (offerView_touches s _ _).mono
  · exact (lagOne_touches s _).mono
  · exact .refl _ _
  · exact (takeFuel_touches s _ _).mono
  · exact (takeAccount_touches s _ _).mono
  · exact (takeAlert_touches s _ _).mono
  · exact (takeAck_touches s _ _).mono
  · exact whenever_touches s _ (forget_touches s).mono
  · exact whenever_touches s _ (setRequest_touches s).mono
  · exact whenever_touches s _ (clearRequest_touches s).mono

theorem tableTakes_touches (s : State) (f : Frame) : OnlyTouches routeParts s (s.tableTakes f) :=
  .ite (ownFrame_touches s).mono (.ite (recordConflict_touches s _).mono
    ((updateEntry_touches s f).mono.trans ((noteStart_touches _ f).mono.trans
      ((tableChanged_touches _ _).mono.trans ((route_touches _ f).trans (judgeWinch_touches _).mono)))))

theorem takeGood_touches (s : State) (f : Frame) : OnlyTouches routeParts s (s.takeGood f) := by
  unfold State.takeGood
  refine (endReception_touches s 0).mono.trans ((noteReception_touches _ false).mono.trans ?_)
  exact .ite (tableTakes_touches _ f) (whenever_touches _ _ (ownFrame_touches _).mono)

theorem takeError_touches (s : State) (r : Word) : OnlyTouches commsParts s (s.takeError r) :=
  (endReception_touches s r).mono.trans (noteReception_touches _ _)

theorem takeFrame_touches (s : State) (f : Frame) : OnlyTouches routeParts s (s.takeFrame f) :=
  whenever_touches s _ (.ite (takeGood_touches s f) (takeError_touches s 0).mono)

theorem takeBits_touches (s : State) (b : List Bool) : OnlyTouches routeParts s (s.takeBits b) := by
  refine whenever_touches s _ ?_
  split
  · exact takeGood_touches s _
  · exact (takeError_touches s _).mono

theorem peers_touches (s : State) (u : PeerTable) : OnlyTouches [.peers] s { s with peers := u } :=
  .of fun p => by cases p <;> first | exact .inl (by decide) | exact .inr rfl

theorem sweepEvent_touches (s : State) : OnlyTouches (.peers :: tableParts) s s.sweepEvent :=
  whenever_touches s _ ((peers_touches s _).mono.trans ((sweepTable_touches _).mono.trans
    ((judgeConflict_touches _ _).mono.trans (tableChanged_touches _ _).mono)))

/-! ## Channels, converter, control tick (chapters 10 and 11, R22) -/

theorem setChannel_touches (s : State) (ch : Fin 4) (c : Channel) : OnlyTouches [.caps] s (s.setChannel ch c) :=
  .of fun p => by cases p <;> first | exact .inl (by decide) | exact .inr rfl

/-- What an edge on a capture input touches. -/
abbrev edgeParts : List Part :=
  [.caps, .present, .alerts, .link, .thrust, .gear, .gov, .outputs, .meter, .coup]

theorem ownEdge_touches (s : State) (ch : Fin 4) : OnlyTouches edgeParts s (s.ownEdge ch) := by
  unfold State.ownEdge
  split
  · exact .ite (whenever_touches s _ (shaftEdge_touches s _).mono)
      (.ite (supplyEdge_touches s).mono (.refl _ _))
  · exact .ite (drumEdge_touches s).mono (.refl _ _)
  · exact .refl _ _
  · exact .refl _ _

theorem ownNoise_touches (s : State) (ch : Fin 4) : OnlyTouches driveComms s (s.ownNoise ch) :=
  .ite (judgeShaft_touches s) (.ite (.refl _ _) (judgeFlow_touches s).mono)

theorem edge_touches (s : State) (ch : Fin 4) : OnlyTouches edgeParts s (s.edge ch) :=
  .ite ((setChannel_touches s ch _).mono.trans (ownEdge_touches _ _))
    ((setChannel_touches s ch _).mono.trans (ownNoise_touches _ _).mono)

theorem noiseExpiry_touches (s : State) (ch : Fin 4) :
    OnlyTouches (.caps :: driveComms) s (s.noiseExpiry ch) :=
  whenever_touches s _ ((setChannel_touches s ch _).mono.trans (ownNoise_touches _ _).mono)

theorem stampExpiry_touches (s : State) (ch : Fin 4) : OnlyTouches [.caps] s (s.stampExpiry ch) :=
  whenever_touches s _ (setChannel_touches s ch _)

theorem outputs_touches (s : State) (u : OutputUnit) : OnlyTouches [.outputs] s { s with outputs := u } :=
  .of fun p => by cases p <;> first | exact .inl (by decide) | exact .inr rfl

theorem startPeriod_touches (s : State) : OnlyTouches [.outputs] s s.startPeriod :=
  whenever_touches s _ (outputs_touches s _)

theorem overrun_touches (s : State) : OnlyTouches (.conv :: commsParts) s s.overrun := by
  unfold State.overrun
  refine (conv_touches s { s.conv with lastOverrun := some s.clock }).mono.trans ?_
  dsimp only
  exact whenever_touches _ _ (raiseNew_touches _ _).mono

theorem sequenceStart_touches (s : State) :
    OnlyTouches (.conv :: commsParts) s s.sequenceStart :=
  whenever_touches s _ ((conv_touches s _).mono.trans (.ite (conv_touches _ _).mono (overrun_touches _)))

/-- What the delivery of a conversion sequence touches. -/
abbrev deliveryParts : List Part :=
  [.conv, .present, .alerts, .link, .helm, .demand, .steer, .outputs, .coup, .station]

theorem deliver_touches (s : State) (a b r : Raw) : OnlyTouches deliveryParts s (s.deliver a b r) := by
  unfold State.deliver
  dsimp only
  split
  · exact (leverDelivery_touches s _ _ _ _).mono
  · exact whenever_touches s _ (rudderDelivery_touches s _ _).mono
  · exact (tensionDelivery_touches s _ _).mono
  · exact .refl _ _

theorem sequenceComplete_touches (s : State) : OnlyTouches deliveryParts s s.sequenceComplete := by
  unfold State.sequenceComplete
  split
  · exact whenever_touches s _ ((conv_touches s _).mono.trans (deliver_touches _ _ _ _))
  · exact .refl _ _
  · exact .refl _ _

theorem setLevels_touches (s : State) (v : Levels) : OnlyTouches [.conv] s (s.setLevels v) := conv_touches s _

theorem overrunEnd_touches (s : State) : OnlyTouches commsParts s s.overrunEnd :=
  whenever_touches s _ (clear_touches s _)

/-- What a control tick touches. -/
abbrev tickParts : List Part :=
  [.present, .alerts, .link, .demand, .coup, .thrust, .gear, .gov, .outputs, .meter, .station]

theorem tickPart_touches (s : State) (p : TickPart) : OnlyTouches tickParts s (s.tickPart p) := by
  cases p
  · exact (decayTick_touches s).mono
  · exact whenever_touches s _ (thrustTick_touches s).mono
  · exact (gearTick_touches s).mono
  · exact (meterTick_touches s).mono
  · exact (standbyTest_touches s).mono

theorem tickParts_touches (l : List TickPart) : ∀ s : State, OnlyTouches tickParts s (s.tickParts l) := by
  induction l with
  | nil => intro s; exact .refl _ _
  | cons p ps ih => intro s; exact (tickPart_touches s p).trans (ih _)

theorem controlTick_touches (s : State) (l : List TickPart) : OnlyTouches tickParts s (s.controlTick l) :=
  whenever_touches s _ ((demand_touches s _).mono.trans (tickParts_touches _ _))

end Sys2Proof.Machine
end

