-- ==== Sys2Proof/Tests/Slice0.lean ====
section
/-! SUPPORT. Tests: the ill-formed commands that WellFormed refuses, values worked in the manual, and for every
statement with hypotheses a concrete station and operands that meet them. -/

namespace Sys2Proof.Tests

open Sys2Proof Sys2Proof.Machine

/-! ## Stations to test on -/

/-- A station in ACTIVE at address 0 whose image words are all erased, so that every parameter has its default. -/
def bare (r : Role) : State :=
  { State.reset with station := .active, role := some r,
                     start := { State.reset.start with image := List.replicate 64 0xFFFF#16 } }

/-- A timer that is due 1000 µs after the clock's 0, and not sooner. -/
def ran : Option Timer := some { since := 0, span := 1000 }

/-- A station with its link unit, its alert list, its demand record or its view replaced. -/
def setLink (s : State) (l : LinkUnit) : State := { s with comms := { s.comms with link := l } }
@[inherit_doc setLink] def setList (s : State) (l : List AlertEntry) : State :=
  { s with comms := { s.comms with alerts := { s.comms.alerts with list := l } } }
@[inherit_doc setLink] def setRecord (s : State) (r : RecordState) (thrust turn : Int) (stopAll : Bool) : State :=
  { s with demand := { s.demand with record := { s.demand.record with
      state := r, demand := { Demand.zero with thrust := thrust, turn := turn, stopAll := stopAll } } } }
@[inherit_doc setLink] def setView (s : State) (holder : Option Addr) (epoch : Byte) : State :=
  { s with demand := { s.demand with view := { holder := holder, epoch := epoch } } }

/-- A station that holds a condition present. -/
def having (s : State) (c : AlertCode) : State :=
  { s with comms := { s.comms with present := s.comms.present.set (alertIndex c) true } }

/-- A station with its receiver in a reception. -/
def hearing (s : State) : State := setLink s { s.comms.link with receiver := .receiving }

/-- A station with a frame in its transmitter. -/
def sendingNow (s : State) (tx : Transmitter) : State := setLink s { s.comms.link with tx := tx }

/-- One field of the next state that a command answers. -/
def after1 {α : Type} (c : Instr) (s : State) (f : State → α) : Option α :=
  match exec c s with
  | .next t => some (f t)
  | .fault _ => none
  | .refused _ => none

/-! ## Well-formed commands -/

theorem test_wf_config_short : (Instr.configReadComplete 0 [0xFF#8]).wf = false := by decide
theorem test_wf_tick_repeats :
    (Instr.controlTick 0 [.decay, .thrust, .gear, .metering, .metering] 0).wf = false := by decide
theorem test_wf_tick_long :
    (Instr.controlTick 0 [.decay, .thrust, .gear, .metering, .standbyTest, .decay] 0).wf = false := by decide
/-- A release that STANDBY causes begins at the tick after the entry (R71), so the gear comes first. -/
theorem test_wf_tick_gear_first :
    (Instr.controlTick 0 [.decay, .thrust, .standbyTest, .gear, .metering] 0).wf = false ∧
    (Instr.controlTick 0 [.gear, .standbyTest, .metering, .thrust, .decay] 0).wf = true := by decide
theorem test_wf_alert_nine_items :
    (Instr.alert 0 ⟨false, 1⟩ .helm ⟨false, true, List.replicate 9 ⟨.parted, .activeUnack, 1⟩⟩).wf = false := by
  decide
theorem test_wf_alert_occurrence_zero :
    (Instr.alert 0 ⟨false, 1⟩ .helm ⟨false, true, [⟨.parted, .activeUnack, 0⟩]⟩).wf = false := by decide
theorem test_wf_ack_empty : (Instr.ack 0 ⟨false, 1⟩ []).wf = false := by decide
theorem test_wf_ack_nine_items :
    (Instr.ack 0 ⟨false, 1⟩ (List.replicate 9 ⟨3, .parted, 1⟩)).wf = false := by decide
theorem test_wf_ack_occurrence_zero : (Instr.ack 0 ⟨false, 1⟩ [⟨3, .parted, 0⟩]).wf = false := by decide
theorem test_wf_damage_beyond_image : (Instr.configWatch 0 [(64, 0)]).wf = false := by decide
/-- A preamble that alternates is no cause of its own, and one that does not leaves no other. -/
theorem test_wf_fragment_cause :
    (Instr.fragment 0 .preamble [true, false]).wf = false ∧ (Instr.fragment 0 .midBit [true, true]).wf = false ∧
    (Instr.fragment 0 .preamble [true, false, false]).wf = true ∧
    (Instr.fragment 0 .quiet [true, false]).wf = true := by decide
theorem test_wf_quiet_bits : (Instr.lineQuiet ⟨0, [false]⟩).wf = false := by decide
theorem test_wf_alert_eight_items :
    (Instr.alert 0 ⟨false, 1⟩ .helm ⟨false, true, List.replicate 8 ⟨.parted, .activeUnack, 255⟩⟩).wf = true := by
  decide

/-! ## Values worked in the manual -/

/-- The lever table of R24. -/
theorem test_lever_table :
    leverValue 21 = -990 ∧ leverValue 2028 = 0 ∧ leverValue 2090 = 0 ∧ leverValue 2091 = 21 ∧
    leverValue 3072 = 500 ∧ leverValue 4074 = 989 ∧ rawFault 20 = true ∧ rawFault 4075 = true ∧
    rawFault 21 = false ∧ rawFault 4074 = false := by decide
/-- The angle table of R79. -/
theorem test_angle_table :
    rudderAngle 450 21 = -445 ∧ rudderAngle 450 1024 = -225 ∧ rudderAngle 450 2855 = 177 ∧
    rudderAngle 450 4074 = 445 := by decide
/-- The tension table of R96. -/
theorem test_tension_table :
    conversionTension 21 = 10 ∧ conversionTension 25 = 12 ∧ conversionTension 103 = 50 ∧
    conversionTension 820 = 400 ∧ conversionTension 1434 = 700 ∧ conversionTension 4074 = 1989 := by decide
/-- The rate table of R119. -/
theorem test_rate_table :
    rateOf 850000 = 306 ∧ rateOf 255000 = 91 ∧ rateOf 2777 = 0 ∧ rateOf 2778 = 1 ∧ rateOf (-40000) = 0 ∧
    rateOf 182050000 = 65535 := by decide
/-- The duties of section 3.10. -/
theorem test_duty_table :
    dutyOf .ahead 900 1800 = 707 ∧ dutyOf .ahead 920 1800 = 714 ∧ dutyOf .ahead 1010 1800 = 749 ∧
    dutyOf .ahead 1013 1800 = 750 := by decide
/-- A duty is bounded by 1000 where a damaged image rates the line below its X (R177). -/
theorem test_duty_bound : dutyOf .ahead 1020 900 = 1000 ∧ isqrt (1020 * 1000000 / 900) = 1064 := by decide
/-- The draws of section 9.8: r is 1 at station 3 and 0 at station 4. -/
theorem test_draw_of_two_stations :
    drawSlots 1 (randomSteps 16 (randomSeed 3)) = 1 ∧ drawSlots 1 (randomSteps 16 (randomSeed 4)) = 0 := by decide
/-- The header of section 9.8: byte 0 of a PROP_STATE at class 2, byte 1 of stations 3 and 4, and the 226 bit times
of the frame. -/
def report (source : Addr) : Frame :=
  { start := false, source := source, role := .propulsion, cls := 2,
    payload := .propState
      { rated := 1800, ahead := 1800, astern := 1170, setpoint := 910, gear := .ahead, side := .port,
        rudder := .steering, angle := -225, rpm := 1453, fuelRate := 306, trim := 1000, followed := 7,
        standby := false, trip := false, warn := false } }
theorem test_header_bytes :
    headerBytes (report 3) = [0x23#8, 0x43#8, 21#8] ∧ headerBytes (report 4) = [0x23#8, 0x44#8, 21#8] ∧
    frameBitTimes (report 4) = 226 := by decide
/-- Newer in the sense of the Conventions: 127 steps on, but not 128. -/
theorem test_newer_wraps :
    newer 0 255 = true ∧ newer 126 255 = true ∧ newer 127 255 = false ∧ newer 5 5 = false := by decide
/-- Occurrences run from 255 to 1 (R132). -/
theorem test_occurrence_wraps : nextOcc 255 = 1 ∧ nextOcc 1 = 2 := by decide
/-- The account cases of section 7.10: a restart, a discontinuity and a wrap. -/
theorem test_account_cases :
    fuelCase 40 50200 true = .restart ∧ fuelCase 3000 48110 false = .discontinuity ∧
    fuelCase 35000 4294960000 false = .wrap ∧ carriedAfter .wrap 0 4294960000 = 4294967296 := by decide
/-- The flag of section 7.11: clear at a consumption of 129,785,000 mL, set at 130,006,400 mL. -/
theorem test_tank_low :
    tankLow 1500 200 531900000 402115000 = false ∧ tankLow 1500 200 532121400 402115000 = true := by decide

/-- An entry of the convoy of section 3.10. -/
def line (side : Side) (rated ahead astern : Nat) : Option Entry :=
  some { body := .propulsion { rated := rated, side := side, rudder := .steering } false
           { ahead := ahead, astern := astern, setpoint := 0, gear := .ahead, angle := 0, rpm := 0, fuelRate := 0,
             trim := 1000, followed := 0, trip := false, warn := false },
         liveness := .live, heard := 0 }
/-- Station 3 of section 3.10 before its tick: PORT, 1800 kN, K 300, F 750, D 600, T +200, X 900. -/
def station3 : State :=
  { bare .propulsion with
    address := 3,
    start := { (bare .propulsion).start with
      image := (((List.replicate 64 0xFFFF#16).set 9 1800#16).set 10 1#16).set 12 300#16 },
    peers := { PeerTable.reset with
      entries := (((Tab.all 32 none).set 4 (line .starboard 1800 1800 1170)).set 5 (line .centre 1200 600 390)).set 6
        (line .port 900 900 585) },
    demand := { DemandUnit.reset with
      tick := some { since := 0, span := 100000 },
      record := { demand := { Demand.zero with thrust := 600, turn := 200 }, number := 1, accepted := some 0,
                  state := .fresh } },
    gear := { GearUnit.reset with state := .ahead, supervised := true },
    thrust := { ThrustUnit.reset with
      x := 900, factor := 1000, ahead := 1800, astern := 1170, strain := 750, duty := 707 } }
theorem test_tick_of_four_lines :
    after1 (.controlTick 100000 chapterOrder 0) station3 (fun t => (t.thrust.lastTarget, t.thrust.x)) =
      some (1013, 910) ∧
    after1 (.controlTick 100000 chapterOrder 0) station3 (fun t => (t.thrust.duty, t.thrust.expected)) =
      some (711, 1453) := by decide

/-- The first metering tick of section 7.6. -/
theorem test_metering_tick :
    let m := MeterUnit.tick { MeterUnit.reset (Tab.of4 1208330 0 0 0) 620 with supplySnap := 0 } 7 5 4150 4100 0
    m.totals.get 0 = 1208339 ∧ m.residue = 170 ∧ m.secondNet = 8550 := by decide
/-- Tick 25 of section 7.6: the residue is clamped and the mark set. -/
theorem test_metering_clamps :
    let m := MeterUnit.tick (MeterUnit.reset (Tab.of4 1208364 0 0 0) (-963330)) 0 9 4150 4100 0
    m.totals.get 0 = 1208364 ∧ m.residue = -1000000 ∧ m.returnMark = true := by decide

/-- A frame waiting in the queue of section 9.9. -/
def waiting (kind : FrameKind) (cls : Fin 4) : Waiting := { kind := kind, cls := cls, entered := 0, content := none }
def queue8 : List Waiting :=
  [waiting .demand 1, waiting .alert 3, waiting .ack 2, waiting .standby 1, waiting .account 3, waiting .wake 1,
   waiting .standby 1, waiting .wake 1]
/-- Entry 9 of section 9.9: the ACCOUNT is discarded and the ROSTER enters; a DEMAND is coalesced. -/
theorem test_full_queue :
    offerQueue (waiting .roster 2) queue8 =
      [waiting .demand 1, waiting .alert 3, waiting .ack 2, waiting .standby 1, waiting .wake 1,
       waiting .standby 1, waiting .wake 1, waiting .roster 2] ∧
    offerQueue (waiting .demand 1) queue8 = queue8 ∧ offerLoses (waiting .roster 2) queue8 = true ∧
    offerLoses (waiting .demand 1) queue8 = false := by decide

/-- The table gives no bits to any row, so no word spells a command. -/
theorem test_no_word_is_a_command : decodeTableWord 8 0 = none ∧ decodeTableWord 16 0xFFFF = none := by decide

/-! ## Witnesses: a station and operands that meet a statement's hypotheses -/

/-! ### The start unit -/

theorem witness_StepRunsTheFrontCommand :
    ({ bare .helm with pending := [.sweep 0, .collision 5] } : State).pending = .sweep 0 :: [.collision 5] ∧
    (bare .helm).pending = [] := by decide
theorem witness_CommandsKeepStrappingAndQueue :
    isReset (.sweep 0) = false ∧ reachable .active .halted = true ∧ reachable .active .start = false := by decide
theorem witness_ResetsStartTheStation :
    ∃ (c : Instr) (cause : ResetCause),
      c = .powerOnReset 0 31 0xFFFF ∧ cause = .powerOn ∨ c = .resetLineReset 0 31 0xFFFF ∧ cause = .resetLine :=
  ⟨_, _, .inr ⟨rfl, rfl⟩⟩

/-- Words 0 to 62 of an image for a role code, erased but for word 9, and the whole image with its check. -/
def firstWords (role : Nat) (ninth : Word) : List Word :=
  (BitVec.ofNat 16 (0xD600 + role)) :: (List.replicate 62 0xFFFF#16).set 8 ninth
@[inherit_doc firstWords] def imageWords (role : Nat) (ninth : Word) : List Word :=
  firstWords role ninth ++ [crcBits crcSeed (wordsBits (firstWords role ninth))]
/-- Words as bytes, each high byte first. -/
def bytesOfWords : List Word → List Byte
  | [] => []
  | w :: ws => BitVec.ofNat 8 (w.toNat / 256) :: BitVec.ofNat 8 (w.toNat % 256) :: bytesOfWords ws
theorem of16_bytes (w : Word) : of16 (BitVec.ofNat 8 (w.toNat / 256)) (BitVec.ofNat 8 (w.toNat % 256)) = w := by
  have h := w.isLt
  apply BitVec.eq_of_toNat_eq
  rw [of16, BitVec.toNat_append, ← Nat.shiftLeft_add_eq_or_of_lt (BitVec.isLt _), Nat.shiftLeft_eq]
  simp
  omega
theorem wordsOf_bytes (l : List Word) : wordsOf (bytesOfWords l) = l := by
  induction l with
  | nil => rfl
  | cons w ws ih => simp [bytesOfWords, wordsOf, of16_bytes, ih]
theorem firstWords_length (role : Nat) (ninth : Word) : (firstWords role ninth).length = 63 := by simp [firstWords]
theorem imageWords_check (role : Nat) (ninth : Word) :
    crcBits crcSeed (wordsBits ((imageWords role ninth).take 63)) = imageWord (imageWords role ninth) 63 := by
  have h := firstWords_length role ninth
  simp [imageWords, imageWord, h]
theorem imageWords_damaged (role : Nat) (ninth : Word) :
    crcBits crcSeed (wordsBits ((damageImage (imageWords role ninth) [(63, 1)]).take 63)) ≠
      imageWord (damageImage (imageWords role ninth) [(63, 1)]) 63 := by
  have h63 := firstWords_length role ninth
  have hw := imageWords_check role ninth
  have hd : damageImage (imageWords role ninth) [(63, 1)] =
      firstWords role ninth ++ [crcBits crcSeed (wordsBits (firstWords role ninth)) ^^^ 1] := by
    simp only [damageImage, damageWord, ← hw]
    simp [imageWords, h63]
  rw [hd]
  intro h
  have h0 := congrArg (fun w : Word => w.getLsbD 0) h
  simp [imageWord, h63] at h0
/-- An image that passes, one that also needs its clamp, and one of another role. -/
theorem witness_ConfigReadJudgesTheImage :
    State.reset.station = .start ∧ State.reset.start.reading = some 0 ∧ State.reset.role = some .propulsion ∧
    1048 ≤ elapsed (State.reset.later 1048) 0 ∧ elapsed (State.reset.later 1047) 0 < 1048 ∧
    (bytesOfWords (imageWords 2 0)).length = 128 ∧
    (bytesOfWords (imageWords 2 0xFFFF)).all (fun b => b == 0xFF#8) = false ∧
    wordsOf (bytesOfWords (imageWords 2 0xFFFF)) = imageWords 2 0xFFFF ∧
    crcBits crcSeed (wordsBits ((imageWords 2 0xFFFF).take 63)) = imageWord (imageWords 2 0xFFFF) 63 ∧
    (imageWord (imageWords 2 0xFFFF) 0).toNat / 256 = 0xD6 ∧
    (imageWord (imageWords 2 0xFFFF) 0).toNat % 256 = roleCode .propulsion ∧
    imageNeedsClamp .propulsion (imageWords 2 0xFFFF) = false ∧ imageNeedsClamp .propulsion (imageWords 2 0) = true ∧
    (imageWord (imageWords 3 0) 0).toNat % 256 ≠ roleCode .propulsion :=
  ⟨by decide, by decide, by decide, by decide, by decide, by decide +kernel, by decide +kernel, wordsOf_bytes _,
   imageWords_check _ _, by decide, by decide, by decide +kernel, by decide +kernel, by decide⟩

/-- R188: 0x03 and the first bits of the address 0, most significant bit first, and nothing from period 24 on; a
read that ends, here by an unanswered one, releases select. -/
theorem test_memory_lines :
    [0, 5, 6, 7, 8, 23, 24, 1047].map (fun t => (State.reset.advance t).memoryDataOut) =
      [some false, some false, some true, some true, some false, some false, none, none] ∧
    after1 (.configReadComplete 1047 []) State.reset (fun t => (t.station, t.memorySelect)) = some (.start, true) ∧
    after1 (.configReadComplete 1048 []) State.reset (fun t => (t.station, t.memorySelect)) =
      some (.failed, false) := by decide

def checking : State := { State.reset with conv := { Converter.reset (some .propulsion) with state := .reference 0 } }
theorem witness_ReferenceCheckEndsStart :
    checking.station = .start ∧ checking.conv.state = .reference 0 ∧ 40 ≤ elapsed (checking.later 40) 0 ∧
    2008 ≤ (2008 : Raw).toNat ∧ (2088 : Raw).toNat ≤ 2088 ∧ ¬ 2008 ≤ (2007 : Raw).toNat ∧
    ¬ (2089 : Raw).toNat ≤ 2088 := by decide
theorem witness_ReferenceCheckEndsStart_thrust : ThrustInv checking := by unfold ThrustInv; decide

def joining (r : Role) : State :=
  { bare r with station := .joining, start := { (bare r).start with joinTimer := ran, request := true } }
theorem witness_JoinTimeEntersActive :
    (joining .helm).station = .joining ∧ due (joining .helm).start.joinTimer ((joining .helm).later 1000) = true ∧
    (setLink (joining .helm) { (joining .helm).comms.link with errorMark := true }).comms.link.errorMark = true ∧
    (setRecord (joining .propulsion) .held 0 0 false).demand.record.state = .held ∧
    (joining .helm).isHelm = true ∧ (joining .propulsion).isHelm = false ∧ (joining .propulsion).isProp = true ∧
    (joining .coupling).isCoup = true ∧ (joining .helm).demand.view.holder = none ∧
    ({ joining .helm with start := { (joining .helm).start with
      image := (List.replicate 64 0xFFFF#16).set 9 1#16 } } : State).param Param.primaryHelm = 1 ∧
    (joining .helm).param Param.primaryHelm ≠ 1 ∧
    (setView (joining .helm) (some 0) 4).demand.view.holder = some (joining .helm).address ∧
    (setView (joining .helm) (some 31) 4).demand.view.holder = some 31 ∧
    (joining .helm).comms.link.queue = [] ∧
    (setList (joining .helm) [{ code := .tankLow, state := .activeUnack, occ := 1 }]).comms.alerts.list ≠ [] ∧
    (joining .propulsion).steer.feedback = false ∧ (joining .coupling).line 0 = false ∧
    ({ joining .coupling with lines := (Tab.all 16 false).set 0 true } : State).line 0 = true := by decide
/-- The latest result as a fault raises the signal condition of its owner at the entry (R91, R96). -/
theorem test_entry_judges_a_fault :
    let faulted := fun r => { joining r with conv := { (joining r).conv with
      range := (joining r).conv.range.set 0 (some .fault) } }
    after1 (.joinTimeExpiry 1000) (faulted .propulsion) (fun t => t.has .rudderFeedback) = some true ∧
    after1 (.joinTimeExpiry 1000) (faulted .coupling) (fun t => t.has .tensionSignal) = some true := by decide

def watched : State :=
  { bare .helm with start := { (bare .helm).start with image := imageWords 1 0xFFFF, watch := ran } }
theorem witness_ConfigWatchHaltsOnCorruption :
    watched.station.acting = true ∧ due watched.start.watch (watched.later 1000) = true ∧
    crcBits crcSeed (wordsBits ((damageImage watched.start.image []).take 63)) =
      imageWord (damageImage watched.start.image []) 63 ∧
    crcBits crcSeed (wordsBits ((damageImage watched.start.image [(63, 1)]).take 63)) ≠
      imageWord (damageImage watched.start.image [(63, 1)]) 63 :=
  ⟨by decide, by decide, imageWords_check 1 0xFFFF, imageWords_damaged 1 0xFFFF⟩
theorem witness_ConfigWatchHaltsOnCorruption_list : AlertInv watched := by unfold AlertInv; decide

/-! ### The peer table and the con -/

def entry (body : EntryBody) (liveness : Liveness) : Option Entry :=
  some { body := body, liveness := liveness, heard := 0 }
def propFollowing (number : Byte) : EntryBody :=
  .propulsion { rated := 900, side := .port, rudder := .steering } true
    { ahead := 900, astern := 585, setpoint := 0, gear := .neutral, angle := 0, rpm := 0, fuelRate := 0, trim := 1000,
      followed := number, trip := false, warn := false }
def propBody : EntryBody := propFollowing 0
def coupBody : EntryBody := .coupling 7 false { cls := .slack, tension := 30, peak := 30, winch := .idle }
/-- A HELM station at address 1 that hears HELM 2, PROPULSION 3, COUPLING 4; 5 is EMPTY and 6 SILENT. -/
def convoy : State :=
  hearing { bare .helm with
    address := 1,
    peers := { entries := ((((Tab.all 32 none).set 2 (entry .helm .live)).set 3 (entry propBody .live)).set 4
                 (entry coupBody .standby)).set 6 (entry propBody .silent),
               conflicts := (Tab.all 32 none).set 9 (some 0), sweep := ran } }
/-- Every source is either admitted, under its entry's role or, where the entry is EMPTY, any role, or not. -/
theorem admits_of (s : State) (a : Addr) (r : Role) (hr : s.receives = true) (ht : s.station.taking = true)
    (ha : a ≠ s.address) (he : (s.peers.entries.get a).all (fun e => bodyRole e.body == r) = true) :
    s.Admits a r :=
  ⟨hr, ht, ha, fun e h => by simpa [h] using he⟩
theorem witness_StateFramesReplaceTheRecord :
    convoy.Admits 3 .propulsion ∧ convoy.Admits 5 .propulsion ∧ convoy.Admits 4 .coupling ∧
    convoy.Admits 6 .propulsion :=
  ⟨admits_of _ _ _ (by decide) (by decide) (by decide) (by decide),
   admits_of _ _ _ (by decide) (by decide) (by decide) (by decide),
   admits_of _ _ _ (by decide) (by decide) (by decide) (by decide),
   admits_of _ _ _ (by decide) (by decide) (by decide) (by decide)⟩
/-- A HOLDING helm with a lag start, and a PROPULSION station in ACTIVE whose F a COUPLING entry at OVERLOAD lowers:
X of 900 falls to the 400 per mille of the 1000 kN that the demand asks for. -/
def cutting : State :=
  let s := setRecord { convoy with role := some .propulsion } .fresh 1000 0 false
  { s with peers := { s.peers with entries := (Tab.all 32 none).set 4 (entry coupBody .live) },
           thrust := { s.thrust with x := 900, factor := 1000, ahead := 1000, astern := 650, duty := 948 },
           gear := { s.gear with state := .ahead, supervised := true } }
theorem test_strain_cut :
    after1 (.strain 5 ⟨false, 4⟩ ⟨7, .overload, 800, 800, .idle, false⟩) cutting (fun t =>
        (t.thrust.strain, t.thrust.x, t.thrust.lastTarget)) =
      some (400, 400, 400) := by decide
/-- PEER_SILENT is raised as the silent count leaves zero, and not where it stood above zero before (R15). -/
theorem test_peer_silent_at_the_change :
    let later := fun s => after1 (.sweep 1000000) s (fun t => t.has .peerSilent)
    later cutting = some true ∧
    later { cutting with peers := { cutting.peers with
      entries := cutting.peers.entries.set 6 (entry propBody .silent) } } = some false := by decide
/-- The witness of every statement about a frame from a HELM: DEMAND, CON, ACCOUNT, ACK, ROSTER, STANDBY, WAKE. -/
theorem witness_frames_from_a_helm : convoy.Admits 2 .helm ∧ convoy.Admits 31 .helm :=
  ⟨admits_of _ _ _ (by decide) (by decide) (by decide) (by decide),
   admits_of _ _ _ (by decide) (by decide) (by decide) (by decide)⟩
theorem witness_OtherFramesAreHeard :
    frameOf (.wake 5 ⟨true, 2⟩ 7) = some (5, ⟨true, 2, .helm, 1, .wake 7⟩) ∧
    payloadOk (.wake 7) = true ∧ payloadKind (.wake 7) ≠ .propState ∧ payloadKind (.wake 7) ≠ .strain ∧
    payloadKind (.wake 7) ≠ .roster := by decide

def aHand : InHand := { frame := report 3, collisions := 0, since := 0, assembled := 0, echo := false }
theorem witness_ConflictingAndOwnFrames :
    frameOf (.wake 5 ⟨false, 3⟩ 7) = some (5, ⟨false, 3, .helm, 1, .wake 7⟩) ∧ payloadOk (.wake 7) = true ∧
    convoy.receives = true ∧ convoy.station.taking = true ∧ (3 : Addr) ≠ convoy.address ∧
    convoy.peers.entries.get 3 = entry propBody .live ∧ bodyRole propBody ≠ .helm ∧
    frameOf (.wake 5 ⟨false, 1⟩ 7) = some (5, ⟨false, 1, .helm, 1, .wake 7⟩) ∧ (1 : Addr) = convoy.address ∧
    (sendingNow convoy (.sending aHand)).comms.link.tx = .sending aHand ∧
    isSending convoy.comms.link.tx = false ∧ ({ convoy with station := .listenOnly } : State).receives = true ∧
    convoy.station ≠ .listenOnly ∧ convoy.anyConflict = true ∧ convoy.station.reporting = true ∧
    ({ convoy with peers := { convoy.peers with conflicts := Tab.all 32 none } } : State).anyConflict = false := by
  decide
theorem witness_SweepSilencesEntries :
    convoy.station.taking = true ∧ due convoy.peers.sweep (convoy.later 1000) = true ∧
    convoy.station.reporting = true ∧ convoy.isHelm = true ∧
    ms (convoy.param Param.silenceLimit) ≤ elapsed (convoy.later 1000000) 0 ∧
    aged (convoy.peers.conflicts.get 9) (convoy.later 30000000) (ms 30000) = true := by decide
theorem witness_RosterForgetsSilentEntries :
    convoy.peers.entries.get 6 = entry propBody .silent ∧ convoy.isHelm = true ∧
    (setView convoy (some 2) 9).demand.view = { holder := some 2, epoch := 9 } ∧
    convoy.peers.entries.get 3 = entry propBody .live ∧ convoy.demand.view ≠ { holder := some 2, epoch := 9 } := by
  decide
theorem witness_ConViewRule :
    isReset (.sweep 0) = false ∧ newer 127 convoy.demand.view.epoch = true ∧ (30 : Addr) < 31 := by decide

/-- A conflict list carried into LISTEN_ONLY raises nothing: it was not empty before (R5). -/
theorem test_conflict_at_the_change :
    let s := { convoy with station := .listenOnly }
    after1 (.wake 5 ⟨false, 3⟩ 7) s (fun t => t.has .addressConflict) = some false ∧
    after1 (.wake 5 ⟨false, 3⟩ 7) { s with peers := { s.peers with conflicts := Tab.all 32 none } }
      (fun t => t.has .addressConflict) = some true := by decide

/-- The helm of `convoy` in HOLDING under epoch 9. -/
def holder : State :=
  let s := setView convoy (some 1) 9
  { s with helm := { s.helm with con := .holding, interval := ran }, lines := s.lines }
theorem witness_CandidatesMoveTheView :
    preferred holder.demand.view 2 10 = true ∧ (2 : Addr) ≠ holder.address ∧ holder.isHelm = true ∧
    holder.helm.con = .holding ∧ holder.station.helmReporting = true ∧ preferred holder.demand.view 0 9 = true ∧
    preferred holder.demand.view 2 9 = false ∧ preferred holder.demand.view 2 137 = false ∧
    preferred holder.demand.view 2 136 = true ∧
    ({ holder with helm := { holder.helm with con := .requesting, requestedOf := some 5 } } :
      State).helm.requestedOf ≠ some 2 := by decide
theorem witness_DemandFromTheViewedHolder :
    preferred convoy.demand.view 2 1 = true ∧ (setView convoy (some 2) 200).demand.view.holder = some 2 ∧
    preferred (setView convoy (some 2) 200).demand.view 2 72 = false ∧
    ¬ (preferred holder.demand.view 2 9 = true ∨ holder.demand.view.holder = some 2) ∧
    ({ bare .propulsion with station := .standby, start := { (bare .propulsion).start with request := true } } :
      State).start.request = true := by decide
theorem witness_RequestIsAnswered :
    holder.isHelm = true ∧ holder.station = .active ∧ holder.helm.con = .holding ∧ (1 : Addr) = holder.address ∧
    holder.comms.link.queue.length ≤ 5 ∧ (9 : Byte) = holder.demand.view.epoch ∧
    ((50 : BitVec 16).toInt - holder.helm.current.thrust).natAbs ≤ 50 ∧
    ((-50 : BitVec 16).toInt - holder.helm.current.turn).natAbs ≤ 50 ∧
    ¬ ((51 : BitVec 16).toInt - holder.helm.current.thrust).natAbs ≤ 50 ∧ convoy.helm.con ≠ .holding := by decide

def asking : State :=
  let s := setView convoy (some 2) 9
  { s with helm := { s.helm with con := .requesting, requestTimer := ran, requestedOf := some 2 } }
theorem witness_GrantAndDecline :
    asking.isHelm = true ∧ (1 : Addr) = asking.address ∧ preferred asking.demand.view 1 10 = true ∧
    asking.helm.con ≠ .holding ∧ asking.station = .active ∧ asking.comms.link.queue.length ≤ 5 ∧
    ({ asking with station := .listenOnly } : State).receives = true ∧ asking.helm.con = .requesting ∧
    asking.demand.view.holder = some 2 ∧ convoy.helm.con ≠ .requesting := by decide

/-- The stations of `convoy` at another role. -/
def worker (r : Role) (st : StationState) (request : Bool) : State :=
  let s := setView { convoy with role := some r, station := st } (some 2) 9
  { s with start := { s.start with request := request } }
theorem witness_StandingRequest :
    (worker .coupling .active false).isHelm = false ∧
    (worker .coupling .active false).demand.view = { holder := some 2, epoch := 9 } ∧
    aboveTaut (worker .coupling .active false).coup.cls = false ∧
    (worker .coupling .active false).demand.view ≠ { holder := some 2, epoch := 8 } ∧ convoy.isHelm = true ∧
    (worker .propulsion .standby true).role ≠ none ∧ (worker .propulsion .standby true).isProp = true ∧
    (worker .propulsion .standby true).start.request = true ∧ (worker .coupling .standby true).isCoup = true ∧
    (worker .propulsion .standby true).line 2 = false ∧ (worker .propulsion .standby true).line 7 = false ∧
    (worker .propulsion .standby true).station.acting = true ∧
    ({ worker .coupling .standby true with lines := (Tab.all 16 false).set 2 true } : State).line 2 = true := by
  decide
/-- A return from STANDBY is an entry to ACTIVE, from which the repeat timer restarts (R140). -/
theorem test_return_restarts_the_repeat :
    let s := { worker .propulsion .standby true with
      comms := { (setList (worker .propulsion .standby true) [⟨.shaftSignal, .activeUnack, 1⟩]).comms with
        alerts := { list := [⟨.shaftSignal, .activeUnack, 1⟩], repeatTimer := startTimer 0 5000000, part1Due := false,
                    changed := false } } }
    after1 (.wakeInput 900 true) s (fun t => (t.station, t.comms.alerts.repeatTimer)) =
      some (.active, startTimer (s.later 900) 5000000) := by decide
theorem witness_StandingRequest_admits :
    (worker .coupling .active false).Admits 2 .helm ∧ (worker .propulsion .standby true).Admits 2 .helm :=
  ⟨admits_of _ _ _ (by decide) (by decide) (by decide) (by decide),
   admits_of _ _ _ (by decide) (by decide) (by decide) (by decide)⟩

/-! ### Fuel, alerts and acknowledgement -/

def account48 (last : Nat) (restart : Bool) : AccountRecord :=
  { carried := Tab.all 4 0, last := Tab.all 4 (BitVec.ofNat 32 last), restart := restart }
theorem witness_FuelEntersTheAccount :
    convoy.isHelm = true ∧ convoy.station.timing = true ∧ convoy.station.helmReporting = true ∧
    ¬ (50200 : BitVec 32).toNat < ((account48 50000 false).last.get 0).toNat ∧
    (40 : BitVec 32).toNat < ((account48 50200 true).last.get 0).toNat ∧
    3 * 2 ^ 30 ≤ ((account48 3221225472 false).last.get 0).toNat ∧ (1073741823 : BitVec 32).toNat < 2 ^ 30 ∧
    ¬ 3 * 2 ^ 30 ≤ ((account48 3221225471 false).last.get 0).toNat ∧ ¬ (1073741824 : BitVec 32).toNat < 2 ^ 30 ∧
    (worker .propulsion .active false).isHelm = false := by decide
theorem witness_AccountGivesHolderFlags :
    (setView convoy (some 2) 9).isHelm = true ∧ (setView convoy (some 2) 9).station.timing = true ∧
    (setView convoy (some 2) 9).demand.view.holder = some 2 ∧ (setView convoy (some 2) 9).helm.con ≠ .holding ∧
    holder.demand.view.holder ≠ some 2 := by decide

def item (a : Addr) (c : AlertCode) (st : EntryState) : ViewItem :=
  { station := a, code := c, state := st, occ := 1, requested := true, sent := false }
/-- A full view: 33 items of station 7 and 15 of station 8. -/
def fullView : List ViewItem :=
  allAlertCodes.map (fun c => item 7 c .activeUnack) ++ (allAlertCodes.take 15).map (fun c => item 8 c .activeAcked)
def viewing (items : List ViewItem) : State := { convoy with view := { convoy.view with items := items } }
theorem witness_AlertReportEntersTheView :
    (⟨false, true, [⟨.parted, .activeUnack, 1⟩]⟩ : AlertFields).ok = true ∧ convoy.isHelm = true ∧
    convoy.station.timing = true ∧ ([AlertCode.parted, .overload].Nodup) ∧
    (viewing (fullView.take 40)).view.items.length + 8 ≤ 48 ∧ fullView.length = 48 ∧
    48 ≤ (viewing fullView).view.items.length ∧
    (∀ o ∈ fullView, o.station = 3 → o.code ≠ .parted) ∧
    ({ convoy with view := { convoy.view with part0 := convoy.view.part0.set 3 (some [.parted]) } } :
      State).view.part0.get 3 = some [.parted] := by decide
/-- An item whose ACK was sent and has not taken effect is asked for again, with an ACK queued (R146). -/
def asked : State :=
  { holder with view := { holder.view with items := [{ item 3 .parted .activeUnack with requested := false,
                                                                                        sent := true }] } }
theorem witness_AlertReportEntersTheView_again :
    asked.helm.con = .holding ∧ asked.station = .active ∧ asked.comms.link.queue.length ≤ 6 ∧
    asked.waits .ack = false ∧ asked.station.helmReporting = true ∧
    after1 (.alert 5 ⟨false, 3⟩ .propulsion ⟨false, true, [⟨.parted, .activeUnack, 1⟩]⟩) asked
      (fun t => (t.waits .ack, t.view.items.map ViewItem.requested)) = some (true, [true]) := by decide
theorem witness_AlertReportEntersTheView_view : ViewInv (viewing (fullView.take 40)) := by unfold ViewInv; decide

def listed (st : EntryState) (c : AlertCode) : State :=
  setList (setView (having { convoy with role := some .propulsion } c) (some 2) 9)
    [{ code := c, state := st, occ := 255 }]
theorem witness_AckOfAnEntry :
    (listed .activeUnack .overspeed).Admits 2 .helm ∧ occOk 255 = true ∧ AlertInv (listed .activeUnack .overspeed) :=
  ⟨admits_of _ _ _ (by decide) (by decide) (by decide) (by decide), by decide, by unfold AlertInv; decide⟩
theorem witness_AckOfAnEntry_clauses :
    (listed .activeUnack .overspeed).comms.alerts.list.length ≤ 12 ∧
    (listed .activeUnack .overspeed).comms.link.queue.length ≤ 5 ∧
    entryOf .overspeed (listed .activeUnack .overspeed).comms.alerts.list =
      some { code := .overspeed, state := .activeUnack, occ := 255 } ∧
    (listed .activeUnack .overspeed).demand.view.holder = some 2 ∧
    (1 : Byte).toNat = (listed .activeUnack .overspeed).address.val ∧ (254 : Byte) ≠ 255 ∧
    (listed .activeUnack .overspeed).station.acting = true ∧
    entryOf .overspeed (listed .clearedUnack .overspeed).comms.alerts.list =
      some { code := .overspeed, state := .clearedUnack, occ := 255 } ∧
    entryOf .overspeed (listed .activeAcked .overspeed).comms.alerts.list =
      some { code := .overspeed, state := .activeAcked, occ := 255 } ∧
    latchedCode .tankLow = false ∧ latchedCode .overspeed = true ∧
    (listed .activeUnack .overspeed).station ≠ .listenOnly ∧
    (listed .activeUnack .overspeed).demand.view.holder ≠ some 3 := by
  decide

/-- An owner that answers at an acknowledged entry: the cause stands, and it is gone. -/
theorem witness_AckOfAnEntry_owners :
    let s := listed .activeUnack .parted
    let standing := { s with role := some .coupling, lines := s.lines.set 0 true }
    (1 : Byte).toNat = s.address.val ∧ s.demand.view.holder = some 2 ∧ s.station ≠ .listenOnly ∧
    after1 (.ack 0 ⟨false, 2⟩ [⟨1, .parted, 255⟩]) standing (fun t =>
        (t.has .parted, entryOf .parted t.comms.alerts.list)) =
      some (true, some { code := .parted, state := .activeUnack, occ := 1 }) ∧
    after1 (.ack 0 ⟨false, 2⟩ [⟨1, .parted, 255⟩]) { s with role := some .coupling } (fun t =>
        (t.has .parted, entryOf .parted t.comms.alerts.list)) = some (false, none) := by decide

/-! ### The link -/

theorem witness_SentFramesPassTheReceiveChecks :
    frameOk (report 3) = true ∧
    frameOk ⟨false, 31, .coupling, 3, .alert ⟨true, true, List.replicate 8 ⟨.parted, .clearedUnack, 255⟩⟩⟩ = true := by
  decide
/-- A frame that passes the checks, as SentFramesPassTheReceiveChecks says of every one. -/
theorem witness_SentFramesPassTheReceiveChecks_bits :
    receiveChecks (frameBits ⟨true, 0, .helm, 1, .wake 0⟩) = .ok ⟨true, 0, .helm, 1, .wake 0⟩ := by decide +kernel

/-- The level a station puts on the link a time after its transmitter took up what it sends. -/
def levelOf (tx : Transmitter) (t : Micros) : Option Bool := ((sendingNow (bare .propulsion) tx).advance t).linkLevel
/-- R147: the preamble's first bit is a 1, its last a 0; byte 0x23 begins 0, 0, 1; the end marker of 226 bit times
is high for one and low for one, and then the line is released. -/
theorem test_own_levels :
    [0, 4, 120, 124, 128, 132, 144, 148].map (levelOf (.sending aHand)) =
      [some false, some true, some true, some false, some true, some false, some false, some true] ∧
    [1792, 1796, 1800, 1804, 1808].map (levelOf (.sending aHand)) =
      [some true, some true, some false, some false, none] := by decide +kernel
/-- Both ends of every clause on the line: bit times 0, 15, 16, 223, 224, 225 and 226 of a frame of 226, and the
last microsecond of a jam. -/
theorem witness_SentFramesPassTheReceiveChecks_levels :
    (sendingNow (bare .propulsion) (.sending aHand)).comms.link.tx = .sending aHand ∧
    (payloadBytes aHand.frame.payload).length = 21 ∧
    [0, 127, 128, 1791, 1792, 1800, 1808].map (fun t => elapsed ((bare .propulsion).later t) aHand.since / 8) =
      [0, 15, 16, 223, 224, 225, 226] ∧
    (sendingNow (bare .propulsion) (.jamming aHand)).comms.link.tx = .jamming aHand ∧
    levelOf (.jamming aHand) 127 = some true ∧ levelOf (.jamming aHand) 128 = none ∧
    drives (bare .propulsion).comms.link.tx = false := by decide +kernel

def quiet (s : State) : State := setLink s { s.comms.link with quietSince := some 0 }
theorem witness_ReceptionEvents :
    (quiet (bare .helm)).station.joined = true ∧ (quiet (bare .helm)).comms.link.receiver = .hunting ∧
    (quiet (bare .helm)).comms.link.quietSince = some 0 ∧ (bare .helm).comms.link.quietSince = none ∧
    drives (bare .helm).comms.link.tx = false ∧ convoy.receives = true ∧ receiveChecks [] = .error .residue ∧
    receiveChecks [true] = .error .residue ∧ ({ convoy with station := .joining } : State).receives = true ∧
    ({ convoy with station := .halted } : State).receives = true ∧ convoy.station.reporting = true ∧
    frameOf (.wake 5 ⟨true, 2⟩ 7) = some (5, ⟨true, 2, .helm, 1, .wake 7⟩) ∧ payloadOk (.wake 7) = true := by decide
/-- A reception that quiet cuts: within the preamble the residue stands, at its end it is the seed, and one frame
bit 1 later it is the seed shifted (R149). -/
theorem test_quiet_cuts_a_reception :
    let s := hearing (setLink convoy { convoy.comms.link with rxResidue := 0x1234, quietSince := none })
    let residue := fun bits => after1 (.lineQuiet ⟨24, bits⟩) s (fun t =>
      (t.comms.link.receiver, t.comms.link.rxResidue))
    residue (preambleBits.take 15) = some (.hunting, 0x1234) ∧ residue preambleBits = some (.hunting, 0xFFFF) ∧
    residue (preambleBits ++ [true]) = some (.hunting, 0xFFFE) ∧
    after1 (.fragment 24 .midBit (preambleBits.take 15)) s (fun t => t.comms.link.rxResidue) = some 0x1234 ∧
    after1 (.fragment 24 .midBit (preambleBits ++ [false])) s (fun t => t.comms.link.rxResidue) = some 0x7FFB := by
  decide
/-- 3 bit times from a placed level change are 24 µs: at 23 they have not passed. -/
def changed (s : State) : State := setLink s { s.comms.link with lastChange := some 0 }
theorem witness_ReceptionEvents_early :
    (changed convoy).station.joined = true ∧ (changed convoy).comms.link.quietSince = none ∧
    drives (changed convoy).comms.link.tx = false ∧ (changed convoy).receives = true ∧
    (changed convoy).comms.link.lastChange = some 0 ∧ elapsed ((changed convoy).later 23) 0 < 24 ∧
    ¬ elapsed ((changed convoy).later 24) 0 < 24 := by decide
theorem witness_RandomResidue :
    (3 : Addr) ≠ 4 ∧ isReset (.jamEnd 128) = false ∧
    (sendingNow (bare .helm) (.jamming { aHand with collisions := 9 })).comms.link.tx =
      .jamming { aHand with collisions := 9 } := by decide
theorem witness_FramesCarryLiveState :
    holder.isHelm = true ∧ holder.helm.con = .holding ∧ (bare .propulsion).station.acting = true ∧
    ({ holder with view := { holder.view with items := [item 7 .parted .activeUnack] } } :
      State).assemble .ack none = some (.ack [⟨7, .parted, 1⟩]) ∧
    (bare .propulsion).assemble .alert none = some (.alert ⟨false, true, []⟩) ∧
    ({ bare .propulsion with station := .halted } : State).assemble .alert none = some (.alert ⟨false, true, []⟩) ∧
    (bare .propulsion).gov.rpm ≤ 65535 := by decide
/-- In HALTED the trip-class entries of a list of 9 come first (R142). -/
theorem test_alert_of_halted :
    let codes := [AlertCode.rxError, .txLoss, .tankLow, .conLost, .peerSilent, .viewFull, .txFault, .demandLost,
      .parted]
    let list := codes.map (fun c => { code := c, state := .activeUnack, occ := 1 : AlertEntry })
    (haltedItems list).map AlertItem.code =
      [.parted, .rxError, .txLoss, .tankLow, .conLost, .peerSilent, .viewFull, .txFault] := by decide

/-- A station DEFERRING with a DEMAND behind a WAKE of the same class, an ACCOUNT of class 3 before both. -/
def deferring (s : State) : State :=
  setLink s { s.comms.link with tx := .deferring, quietSince := some 0,
                                queue := [waiting .account 3, waiting .demand 1, waiting .wake 1] }
/-- The gap of class 1 is 160 µs: at 159 it has not passed, at 160 it has. -/
theorem witness_TransmitStartSendsTheHead :
    (deferring holder).transmits = true ∧ (deferring holder).comms.link.tx = .deferring ∧
    (deferring holder).role = some .helm ∧
    (deferring holder).comms.link.queue = [waiting .account 3] ++ waiting .demand 1 :: [waiting .wake 1] ∧
    (∀ v ∈ [waiting .account 3], (waiting .demand 1).cls < v.cls) ∧
    (∀ v ∈ [waiting .wake 1], (waiting .demand 1).cls ≤ v.cls) ∧
    (deferring holder).comms.link.quietSince = some 0 ∧ elapsed ((deferring holder).later 159) 0 < 8 * (12 + 8 * 1) ∧
    8 * (12 + 8 * 1) ≤ elapsed ((deferring holder).later 160) 0 ∧
    (((deferring holder).advance 160).selectTank 0).assemble .demand none ≠ none ∧
    (((deferring (bare .helm)).advance 160).selectTank 0).assemble .demand none = none := by decide

def onLine (tx : InHand → Transmitter) (h : InHand) (s : State) : State :=
  setLink s { s.comms.link with tx := tx h, quietSince := some 0 }
/-- Bit time 1 is the first of a transmission, 40 the last of its header; 128 µs is the jam; 12 + 16 + 40 bit times
are a gap of class 2 with one slot. -/
theorem witness_CollisionAndBackoff :
    (onLine .sending aHand (bare .propulsion)).transmits = true ∧
    (onLine .sending aHand (bare .propulsion)).comms.link.tx = .sending aHand ∧
    1 ≤ (elapsed ((bare .propulsion).later 1) aHand.since + 7) / 8 ∧
    (elapsed ((bare .propulsion).later 320) aHand.since + 7) / 8 ≤ 40 ∧
    ¬ (elapsed ((bare .propulsion).later 321) aHand.since + 7) / 8 ≤ 40 ∧
    (onLine .jamming { aHand with collisions := 10 } (bare .propulsion)).comms.link.tx =
      .jamming { aHand with collisions := 10 } ∧
    128 ≤ elapsed ((bare .propulsion).later 128) aHand.since ∧
    (bare .propulsion).station.acting = true ∧ ({ bare .propulsion with station := .halted } : State).transmits = true ∧
    (onLine (.backingOff · 1) aHand (bare .propulsion)).comms.link.tx = .backingOff aHand 1 ∧
    (onLine (.backingOff · 1) aHand (bare .propulsion)).comms.link.quietSince = some 0 ∧
    (bare .propulsion).role = some .propulsion ∧
    elapsed ((bare .propulsion).later 543) 0 < 8 * (12 + 8 * aHand.frame.cls.val + 40 * 1) ∧
    8 * (12 + 8 * aHand.frame.cls.val + 40 * 1) ≤ elapsed ((bare .propulsion).later 544) 0 ∧
    (((onLine (.backingOff · 1) aHand (bare .propulsion)).advance 544).selectTank 0).assemble .propState none ≠ none ∧
    (((onLine (.backingOff · 1) aHand (bare .helm)).advance 544).selectTank 0).assemble .demand none = none := by
  decide
/-- Seen at 2^31 + 2000, a STRAIN assembled at 2^31 + 1000 clears a mark of 0, also one of 2^31 + 2001, almost a
whole wrap old; one assembled with the onset or before it clears none (R104, R169). -/
theorem test_old_onset_is_cleared :
    let c := (bare .coupling).coup
    let sent := fun (mark : Clock) => ({ c with onset := some mark }.sent 2147485648 2147484648).onset
    sent 0 = none ∧ sent 2147485649 = none ∧ sent 2147484648 = some 2147484648 ∧
    sent 2147484649 = some 2147484649 := by decide
/-- Bit time 41 is the first after the header; the frame of 226 bit times ends at 1808 µs. -/
theorem witness_TransmissionEnds :
    (onLine .sending aHand (bare .propulsion)).transmits = true ∧
    40 < (elapsed ((bare .propulsion).later 321) aHand.since + 7) / 8 ∧
    (elapsed ((bare .propulsion).later 1808) aHand.since + 7) / 8 ≤ 58 + 8 * (payloadBytes aHand.frame.payload).length ∧
    (onLine .sending { aHand with echo := true } (bare .propulsion)).comms.link.tx =
      .sending { aHand with echo := true } ∧
    8 * (58 + 8 * (payloadBytes aHand.frame.payload).length) ≤ elapsed ((bare .propulsion).later 1808) aHand.since ∧
    payloadKind aHand.frame.payload ∉ [.strain, .alert, .ack, .roster] ∧ (bare .propulsion).station.acting = true ∧
    (bare .propulsion).QueueFree := by
  refine ⟨?_, ?_, ?_, ?_, ?_, ?_, ?_, ?_⟩ <;> first | decide | (unfold State.QueueFree; decide)
def interval : State :=
  let s := { holder with comms := { holder.comms with alerts := { holder.comms.alerts with repeatTimer := ran } } }
  { s with thrust := { s.thrust with stateSeries := ran }, coup := { s.coup with interval := ran, onset := some 0 },
           meter := { s.meter with interval := ran }, account := { s.account with interval := ran } }
theorem witness_IntervalsQueueTheirReports :
    interval.isHelm = true ∧ interval.station.acting = true ∧ interval.helm.con = .holding ∧
    due interval.helm.interval (interval.later 1000) = true ∧ interval.comms.link.queue.length < 8 ∧
    due interval.thrust.stateSeries (interval.later 1000) = true ∧ interval.station = .active ∧
    due interval.coup.interval (interval.later 1000) = true ∧ due interval.meter.interval (interval.later 1000) = true ∧
    due interval.account.interval (interval.later 1000) = true ∧
    due interval.comms.alerts.repeatTimer (interval.later 1000) = true ∧
    ({ interval with role := some .propulsion } : State).isProp = true ∧
    ({ interval with role := some .coupling } : State).isCoup = true := by decide
theorem witness_FullQueueLosesAFrame :
    (setLink (bare .helm) { (bare .helm).comms.link with queue := queue8 }).station.acting = true ∧
    queue8.length = 8 ∧ coalescing FrameKind.demand = true ∧
    (setLink (bare .helm) { (bare .helm).comms.link with queue := queue8 }).has .txLoss = false ∧
    raiseList .txLoss (bare .helm).comms.alerts.list ≠ (bare .helm).comms.alerts.list ∧
    queue8.any (fun x => x.kind == .alert) = true ∧
    (waiting .roster 2 :: queue8.drop 2).any (fun x => x.kind == .alert) = false ∧
    (setLink (bare .helm) { (bare .helm).comms.link with queue := queue8 }).waits .demand = true ∧
    coalescing FrameKind.roster = false ∧ (having (bare .helm) .txLoss).has .txLoss = true ∧
    (∀ v ∈ queue8, v.cls ≤ (waiting .standby 3).cls) ∧
    queue8 = queue8.take 4 ++ waiting .account 3 :: queue8.drop 5 ∧ (waiting .roster 2).cls < 3 ∧
    (∀ x ∈ queue8.take 4, x.cls ≤ 3) ∧ (∀ x ∈ queue8.drop 5, x.cls < 3) := by decide

/-! ### Times and the demand record -/

def timed : State :=
  { holder with
    comms := { holder.comms with link := { holder.comms.link with lastLoss := some 0 } },
    conv := { holder.conv with lastOverrun := some 0 }, account := { holder.account with lastDisc := some 0 },
    helm := { holder.helm with lag := holder.helm.lag.set 31 (some 0) },
    steer := { holder.steer with supervised := true, deviation := some 0, followTimer := ran },
    meter := { holder.meter with flowWatch := ran } }
theorem witness_TimedConditions :
    timed.station.reporting = true ∧ timed.comms.link.lastLoss = some 0 ∧
    10000000 ≤ elapsed (timed.later 10000000) 0 ∧ timed.conv.lastOverrun = some 0 ∧ timed.isHelm = true ∧
    timed.station.helmReporting = true ∧ timed.account.lastDisc = some 0 ∧
    60000000 ≤ elapsed (timed.later 60000000) 0 ∧ timed.helm.con = .holding ∧ timed.helm.lag.get 31 = some 0 ∧
    2000000 ≤ elapsed (timed.later 2000000) 0 ∧ ({ timed with role := some .propulsion } : State).isProp = true ∧
    timed.steer.supervised = true ∧ timed.station.acting = true ∧ timed.steer.deviation = some 0 ∧
    5000000 ≤ elapsed (timed.later 5000000) 0 ∧ due timed.steer.followTimer (timed.later 1000) = true ∧
    due timed.meter.flowWatch (timed.later 1000) = true := by decide
def aged4 (r : Role) (st : StationState) (record : RecordState) : State :=
  let s := setRecord { bare r with station := st } record 500 0 false
  { s with demand := { s.demand with timeout := ran, hold := ran },
           coup := { s.coup with supervised := true, winch := .heaving } }
theorem witness_DemandTimersAgeTheRecord :
    (aged4 .propulsion .active .fresh).station.timing = true ∧
    (aged4 .propulsion .active .fresh).demand.record.state = .fresh ∧
    due (aged4 .propulsion .active .fresh).demand.timeout ((aged4 .propulsion .active .fresh).later 1000) = true ∧
    (aged4 .propulsion .active .fresh).isCoup = false ∧ (aged4 .propulsion .active .fresh).station.reporting = true ∧
    (aged4 .propulsion .joining .fresh).station.timing = true ∧
    (aged4 .coupling .active .held).demand.record.state = .held ∧
    due (aged4 .coupling .active .held).demand.hold ((aged4 .coupling .active .held).later 1000) = true ∧
    (aged4 .coupling .active .held).isCoup = true ∧ (aged4 .coupling .active .held).coup.supervised = true ∧
    (aged4 .coupling .active .held).station = .active ∧ (aged4 .coupling .active .held).coup.winch = .heaving := by
  decide
/-- The con timeout is 2 s: helm 2, heard at 0, is heard at 1,999,999 µs and silent at 2,000,000. -/
theorem witness_ConClaims :
    convoy.isHelm = true ∧ convoy.line 0 = false ∧ convoy.station = .active ∧ convoy.helm.con = .standingBy ∧
    convoy.demand.view.holder = none ∧ asking.demand.view.holder = some 2 ∧ (2 : Addr) ≠ asking.address ∧
    asking.peers.entries.get 2 = entry .helm .live ∧ Liveness.live ≠ .silent ∧
    sec (asking.param Param.conTimeout) ≤ elapsed (asking.later 2000000) 0 ∧
    elapsed (asking.later 1999999) 0 < sec (asking.param Param.conTimeout) ∧ asking.helm.con = .requesting ∧
    due asking.helm.requestTimer (asking.later 1000) = true ∧ convoy.comms.link.queue.length ≤ 4 := by decide
theorem witness_HelmSwitches :
    holder.isHelm = true ∧ holder.station.joined = true ∧ holder.helm.con = .holding ∧ convoy.helm.con ≠ .holding ∧
    after1 (.helmSwitchChange 0 0 0 false) holder (fun t => t.lines) = some holder.lines ∧
    after1 (.helmSwitchChange 0 1 0 true) holder (fun t => decide (t.lines = holder.lines)) = some false ∧
    holder.helm.live.stopAll ≠ true ∧ holder.station = .active ∧ holder.line 2 = false ∧
    holder.helm.current.thrust = 0 ∧ holder.helm.current.turn = 0 ∧ holder.comms.link.queue.length < 8 ∧
    holder.line 12 = false := by decide
/-- At a renumbering from 0 to 1 entry 3, which follows 0, gets its lag start; 5, which followed 7 and holds none,
has returned to LIVE and waits for its next PROP_STATE; 7 keeps the start it holds (R34). -/
theorem test_renumbering_sets_lag_starts :
    let behind := entry (propFollowing 7) .live
    let s := { holder with peers := { holder.peers with entries := (holder.peers.entries.set 5 behind).set 7 behind },
                           helm := { holder.helm with lag := holder.helm.lag.set 7 (some 2) } }
    after1 (.helmSwitchChange 9 0 0 true) s (fun t =>
      (t.helm.number, t.helm.lag.get 3, t.helm.lag.get 5, t.helm.lag.get 7)) = some (1, some 9, none, some 2) := by
  decide
theorem witness_TankFillsSetTheBaseline :
    convoy.isHelm = true ∧ convoy.line 8 = false ∧ convoy.line 11 = false ∧ convoy.station = .active ∧
    convoy.param (Param.tankAllowance 3) ≤ convoy.param (Param.tankReserve 3) ∧
    convoy.account.low.get 0 = false ∧ convoy.account.holderLow = none ∧
    ({ convoy with account := { convoy.account with holderLow := some (Tab.all 4 true) } } :
      State).account.holderLow = some (Tab.all 4 true) := by decide

def pressed (st : StationState) (a b : Bool) : State :=
  let s := setList (having { bare .propulsion with station := st } .gearInterlock)
    [{ code := .gearInterlock, state := .activeUnack, occ := 1 }]
  { s with gear := { s.gear with state := .gearFault, supervised := true },
           lines := ((Tab.all 16 false).set 0 a).set 1 b }
theorem witness_LocalAcknowledgement :
    (pressed .active false false).role = some .propulsion ∧ (pressed .active false false).line 8 = false ∧
    (pressed .active false false).station.joined = true ∧ (pressed .listenOnly false false).station = .listenOnly ∧
    (pressed .active false false).station.acting = true ∧
    (pressed .active false false).comms.link.queue.length ≤ 6 ∧ (pressed .active false false).gear.supervised = true ∧
    (pressed .active false false).gear.state = .gearFault ∧
    (∀ c ∈ allAlertCodes, (pressed .active false false).has c = true ↔ c = .gearInterlock) ∧
    (pressed .active false false).comms.alerts.list =
      [{ code := .gearInterlock, state := .activeUnack, occ := 1 }] ∧
    (pressed .active true true).line 0 = true ∧ (pressed .active true true).line 1 = true ∧
    (pressed .active true false).line 0 ≠ (pressed .active true false).line 1 ∧ holder.line 1 = false ∧
    (∃ it ∈ [item 7 .parted .clearedUnack], it.state ≠ .activeAcked) ∧
    (∀ c ∈ allAlertCodes, holder.has c = false) ∧ holder.comms.alerts.list = [] := by decide
theorem witness_LocalAcknowledgement_list : AlertInv (pressed .active false false) := by unfold AlertInv; decide

def spinning (rpm : Nat) (s : State) : State := { s with gov := { s.gov with rpm := rpm } }
/-- A station with one condition present, its entry unacknowledged, about to be acknowledged at its input. -/
def oneEntry (s : State) (c : AlertCode) : State :=
  setList (having s c) [{ code := c, state := .activeUnack, occ := 255 }]
/-- What the premises on the owners' answers ask of such a station, its input being line `i`. -/
def asksOwner (i : Fin 16) (s : State) (c : AlertCode) : Bool :=
  s.line i == false && s.station.joined && s.station.acting && decide (s.comms.link.queue.length ≤ 5) &&
  allAlertCodes.all (fun d => s.has d == (d == c)) &&
  decide (s.comms.alerts.list = [{ code := c, state := .activeUnack, occ := 255 }])
/-- A COUPLING station with that one entry, its wire-broken input at a level. -/
def slackened (line : Bool) (c : AlertCode) (winch : WinchState) : State :=
  let s := setRecord (bare .coupling) .fresh 0 0 false
  oneEntry { s with lines := (Tab.all 16 false).set 0 line,
                    coup := { s.coup with supervised := true, winch := winch,
                                          cls := if c = .parted then .parted else .slack, filtered := 400 } } c
/-- The maximum speed is 1800 1/min: 1980 is not above the limit, 1981 is. -/
theorem witness_LocalAcknowledgement_owners :
    (let s := oneEntry (bare .propulsion) .overspeed
     asksOwner 8 s .overspeed = true ∧ s.param Param.maxSpeed * 11 / 10 = 1980) ∧
    asksOwner 8 (oneEntry (spinning 1981 (bare .propulsion)) .overspeed) .overspeed = true ∧
    asksOwner 8 (oneEntry (bare .propulsion) .rudderInterlock) .rudderInterlock = true ∧
    asksOwner 3 (slackened true .parted .idle) .parted = true ∧ (slackened true .parted .idle).line 0 = true ∧
    asksOwner 3 (slackened false .parted .idle) .parted = true ∧ (slackened false .parted .idle).line 0 = false ∧
    (slackened false .parted .idle).coup.cls = .parted ∧
    asksOwner 3 (slackened false .winchRun .lockedOut) .winchRun = true ∧
    (slackened false .winchRun .lockedOut).station = .active ∧
    (slackened false .winchRun .lockedOut).coup.winch = .lockedOut ∧
    (slackened false .winchRun .lockedOut).line 1 = false := by decide

/-! ### The control tick -/

/-- A PROPULSION station in ACTIVE with a tick due: rated 1000, its availability whole. -/
def pulling (gear : GearState) (x thrust : Int) : State :=
  let s := setRecord (bare .propulsion) .fresh thrust 0 false
  { s with
    demand := { s.demand with tick := ran },
    thrust := { s.thrust with x := x, factor := 1000, ahead := 1000, astern := 650, duty := if x = 0 then 0 else 500 },
    gear := { s.gear with state := gear, supervised := true } }
def metered (residue : Int) (supply return_ : BitVec 32) : State :=
  let s := pulling .neutral 0 0
  { s with meter := { s.meter with residue := residue },
           caps := (s.caps.set 1 { Channel.reset with count := supply }).set 2 { Channel.reset with count := return_ } }
/-- Both factors are 1000 µL by default: a residue of −1,000,000 does not clamp, one less does. -/
theorem witness_MeteringBooksEveryEdge :
    (metered (-999000) 0 1).station.taking = true ∧ (metered (-999000) 0 1).isProp = true ∧
    due (metered (-999000) 0 1).demand.tick ((metered (-999000) 0 1).later 1000) = true ∧
    (metered (-999000) 0 1).supplyFactor = 1000 ∧ (metered (-999000) 0 1).returnFactor = 1000 ∧
    ¬ (-999000 : Int) + (0 - 1000) < -1000000 ∧ (-999001 : Int) + (0 - 1000) < -1000000 ∧
    (metered 0 7 0).station.acting = true ∧ ({ metered 0 7 0 with role := some .helm } : State).isProp = false := by
  decide
theorem witness_TickDecaysAndRamps :
    (setRecord (pulling .ahead 500 800) .decaying 10 (-11) false).demand.record.state = .decaying ∧
    (pulling .ahead 500 800).station.timing = true ∧ (pulling .ahead 500 800).start.request = false ∧
    (pulling .ahead 500 800).isProp = true ∧ (pulling .ahead 500 800).station = .active ∧
    (pulling .ahead 500 800).demand.record.state ≠ .decaying ∧
    due (pulling .ahead 500 800).demand.tick ((pulling .ahead 500 800).later 1000) = true ∧
    ({ pulling .ahead 500 800 with role := some .coupling } : State).isProp = false := by decide
theorem witness_DutyFollowsTheSquareRoot :
    (GearState.ahead = .ahead ∨ GearState.ahead = .astern) ∧ (1800 : Int) ≠ 0 ∧ (1800 : Int).natAbs ≤ 1800 ∧
    (GearState.dwell ≠ .ahead ∧ GearState.dwell ≠ .astern) ∧ (1000 : Nat) ≤ 1000 := by decide

def requested (s : State) : State := { s with start := { s.start with request := true } }
def released (r : Release) (s : State) : State := { s with gear := { s.gear with release := r, releaseTimer := ran } }
/-- The threshold is the 700 rpm of the default shift speed, above the idle speed of 600. -/
theorem witness_TickWorksTheGear :
    (pulling .neutral 0 300).isProp = true ∧ (pulling .neutral 0 300).station = .active ∧
    (pulling .neutral 0 300).gear.supervised = true ∧
    due (pulling .neutral 0 300).demand.tick ((pulling .neutral 0 300).later 1000) = true ∧
    0 < ((pulling .neutral 0 300).advance 1000).target ∧ ((pulling .neutral 0 (-300)).advance 1000).target < 0 ∧
    ((pulling .neutral 0 0).advance 1000).target = 0 ∧ engaged (pulling .ahead 0 (-300)).gear.state = true ∧
    ((pulling .ahead 0 (-300)).advance 1000).target < 0 ∧ 0 < ((pulling .astern 0 300).advance 1000).target ∧
    (pulling .ahead 0 (-300)).thrust.x = 0 ∧ (pulling .ahead 0 (-300)).gear.release = .none ∧
    (having (pulling .ahead 0 (-300)) .shaftSignal).has .shaftSignal = true ∧
    max ((pulling .ahead 0 0).param Param.shiftSpeed) ((pulling .ahead 0 0).param Param.idleSpeed) = 700 ∧
    (spinning 701 (pulling .ahead 0 (-300))).gov.rpm = 701 ∧
    (released .speedWait (pulling .ahead 0 (-300))).gear.release = .speedWait ∧
    (released .timedWait (pulling .ahead 0 (-300))).gear.release = .timedWait ∧
    (requested (pulling .neutral 0 0)).start.request = true ∧
    (pulling .neutral 0 0).comms.link.queue.length ≤ 5 := by decide
theorem witness_TickWorksTheGear_thrust :
    ThrustInv (pulling .ahead 500 (-300)) ∧ ThrustInv (pulling .neutral 0 300) := by
  constructor <;> (unfold ThrustInv; decide)
/-- X left over or off 0 after such a tick: 20 kN of ramp leave 480 of 500 and bring 20 to 0. -/
theorem witness_TickWorksTheGear_x :
    after1 (.controlTick 1000 chapterOrder 0) (pulling .ahead 500 (-300)) (fun t => t.thrust.x) = some 480 ∧
    after1 (.controlTick 1000 chapterOrder 0) (pulling .ahead 20 (-300)) (fun t => t.thrust.x) = some 0 := by decide

/-! ### The machinery of a PROPULSION station -/

def trimming (cap : Option Nat) (rate : Nat) : State :=
  let s := pulling .ahead 500 500
  { s with
    demand := { s.demand with record := { s.demand.record with demand := { s.demand.record.demand with cap := cap } } },
    thrust := { s.thrust with economy := ran },
    meter := { s.meter with rate := rate, rateSeries := ran, secondNet := 8550 } }
/-- The one live station is allowed its whole cap of 300: 300 and 285 keep E, 301 and 284 move it. -/
theorem witness_TrimAndRateEvaluations :
    (trimming (some 300) 285).isProp = true ∧ (trimming (some 300) 285).station = .active ∧
    due (trimming (some 300) 285).thrust.economy ((trimming (some 300) 285).later 1000) = true ∧
    (trimming (some 300) 285).demand.record.demand.cap = some 300 ∧ (trimming none 0).demand.record.demand.cap = none ∧
    ((trimming (some 300) 285).advance 1000).sumAhead = 1000 ∧
    300 * (trimming (some 300) 285).thrust.ahead / 1000 = 300 ∧ (300 - 300 / 20 : Nat) = 285 ∧
    ((({ trimming (some 300) 285 with thrust := { (trimming none 0).thrust with ahead := 0 } } :
      State).advance 1000).sumAhead = 0) ∧
    (trimming none 0).station.taking = true ∧
    due (trimming none 0).meter.rateSeries ((trimming none 0).later 1000) = true ∧
    (trimming none 0).meter.window.length = 10 ∧ 0 < sumInt ((trimming none 0).meter.window.drop 1 ++ [8550]) := by
  decide
theorem witness_EngineReadyMovesAvailability :
    (pulling .ahead 500 500).isProp = true ∧ (pulling .ahead 500 500).line 2 = false ∧
    (pulling .ahead 500 500).station.taking = true ∧ State.reset.station.taking = false ∧
    State.reset.isProp = true ∧ State.reset.station.acting = false ∧
    (having (pulling .ahead 500 500) .overspeed).has .overspeed = true := by decide
theorem witness_EngineReadyMovesAvailability_thrust :
    ThrustInv (pulling .ahead 500 500) ∧ ThrustInv State.reset := by
  constructor <;> (unfold ThrustInv; decide)

/-- The gear in a state with its two feedbacks as given, X 0. -/
def geared (gear : GearState) (a b : Bool) : State :=
  let s := pulling gear 0 0
  { s with lines := (s.lines.set 0 a).set 1 b,
           gear := { s.gear with feedbackTimer := ran, dwellTimer := ran, releaseTimer := ran } }
theorem witness_GearFeedbackIsJudged :
    (geared .ahead true false).isProp = true ∧ (geared .ahead true false).gear.supervised = true ∧
    (geared .ahead true false).station.acting = true ∧ (geared .ahead true false).line 0 ≠ false ∧
    (geared .engagingAhead false false).line 0 ≠ true ∧ (geared .engagingAstern false false).line 1 ≠ true ∧
    (geared .disengaging true false).line 0 ≠ false ∧ (geared .gearFault true true).line 0 ≠ false ∧
    (geared .ahead true true).line 1 ≠ false ∧ (geared .neutral true false).line 0 ≠ false := by decide
theorem witness_GearFeedbackIsJudged_thrust :
    ThrustInv (geared .ahead true false) ∧ ThrustInv (geared .disengaging true false) := by
  constructor <;> (unfold ThrustInv; decide)
theorem witness_GearTimersRunOut :
    due (geared .engagingAhead false false).gear.feedbackTimer ((geared .engagingAhead false false).later 1000) = true ∧
    (geared .engagingAhead false false).gear.state ≠ .gearFault ∧
    (released .timedWait (geared .ahead true false)).gear.release = .timedWait ∧
    engaged (released .timedWait (geared .ahead true false)).gear.state = true ∧
    due (geared .ahead true false).gear.releaseTimer ((geared .ahead true false).later 1000) = true ∧
    (geared .ahead true false).line 0 = true ∧ (geared .ahead false false).line 0 = false ∧
    (geared .ahead false false).line 1 = false ∧ (geared .ahead true false).gear.supervised = true ∧
    (geared .ahead true false).isProp = true ∧ (geared .ahead true false).station.acting = true := by decide
theorem witness_DwellChoosesTheDirection :
    (geared .dwell false false).isProp = true ∧ (geared .dwell false false).gear.supervised = true ∧
    (geared .dwell false false).station.acting = true ∧ (geared .dwell false false).gear.state = .dwell ∧
    due (geared .dwell false false).gear.dwellTimer ((geared .dwell false false).later 1000) = true := by decide
theorem witness_DwellChoosesTheDirection_thrust : ThrustInv (geared .dwell false false) := by unfold ThrustInv; decide

def governed (s : State) : State :=
  { s with lines := s.lines.set 2 true,
           gov := { s.gov with pulseTimer := ran, watch := ran, settle := ran, deviation := some 0,
                               agreement := some 0 } }
/-- The follow tolerance is 60 rpm about the expected 600: 660 is within it, 661 is not. -/
theorem witness_GovernorTimersRunOut :
    let s := governed (spinning 661 (pulling .ahead 500 500))
    let t := governed (spinning 660 (having (pulling .ahead 500 500) .governorFollow))
    s.isProp = true ∧ s.station.joined = true ∧ due s.gov.pulseTimer (s.later 1000) = true ∧
    due s.gov.watch (s.later 1000) = true ∧ (having s .shaftSignal).has .shaftSignal = true ∧ s.line 2 = true ∧
    due s.gov.settle (s.later 1000) = true ∧
    s.param Param.followTolerance < ((s.gov.rpm : Int) - s.thrust.expected).natAbs ∧
    ¬ t.param Param.followTolerance < ((t.gov.rpm : Int) - t.thrust.expected).natAbs ∧
    s.station.acting = true ∧ s.has .governorFollow = false ∧ s.gov.deviation = some 0 ∧
    3000000 ≤ elapsed (s.later 3000000) 0 ∧ t.has .governorFollow = true ∧ t.gov.agreement = some 0 := by decide

/-- The steering unit supervised with a sequence of raw results under way, its drive and the turn demand as given.
-/
def steeringOn (raw reference : Raw) (drive : DriveState) (turn : Int) : State :=
  let s := setRecord (bare .propulsion) .fresh 0 turn false
  { s with steer := { s.steer with drive := drive, supervised := true, valveDuty := 300 },
           conv := { s.conv with state := .sequence 0 raw 0 reference, interval := 20000, series := some 0 } }
@[inherit_doc steeringOn] def steering (drive : DriveState) (turn : Int) : State := steeringOn 2048 2048 drive turn
theorem witness_ValveInterlockInhibits :
    (steering .drivingPort 0).isProp = true ∧ (steering .drivingPort 0).steer.supervised = true ∧
    (steering .drivingPort 0).station.acting = true ∧ (steering .drivingPort 0).line 5 ≠ true ∧
    (steering .drivingPort 0).steer.drive ≠ .inhibited ∧ (steering .inhibited 0).steer.drive = .inhibited := by decide
/-- Maximum 350, band 10: a turn of 31 asks 10 and one of 32 asks 11; the limit of 380 is reached at a raw result of
3777; the angle of the one live peer is 0 and the spread limit 50. -/
theorem witness_RudderDeliveryDrivesTheValve :
    let s := steering .stopped 32
    s.isProp = true ∧ s.steer.supervised = true ∧ s.station.acting = true ∧
    s.conv.state = .sequence 0 2048 0 2048 ∧ 80 ≤ elapsed (s.later 80) 0 ∧ 2008 ≤ (2008 : Raw).toNat ∧
    (2088 : Raw).toNat ≤ 2088 ∧ 20 < (21 : Raw).toNat ∧
    (4074 : Raw).toNat < 4075 ∧ Int.tdiv (32 * s.param Param.maxAngle) 1000 = 11 ∧
    Int.tdiv (31 * s.param Param.maxAngle) 1000 = 10 ∧ s.param Param.deadband = 10 ∧
    rudderAngle (s.param Param.angleSpan) 2048 = 0 ∧ rudderAngle (s.param Param.angleSpan) 3777 = 380 ∧
    rudderAngle (s.param Param.angleSpan) 3776 = 379 ∧ rudderAngle (s.param Param.angleSpan) 319 = -380 ∧
    (steering .drivingStbd 500).steer.drive = .drivingStbd ∧ (steering .drivingPort (-500)).steer.drive = .drivingPort ∧
    s.peerAngles = [] ∧
    ({ s with peers := { s.peers with entries := s.peers.entries.set 3 (entry propBody .live) } } :
      State).peerAngles = [0] ∧ s.param Param.spreadLimit = 50 := by decide
theorem witness_SequencesStartAndComplete :
    (steering .stopped 0).station.joined = true ∧
    (steering .stopped 0).conv.series = some 0 ∧
    (steering .stopped 0).conv.interval ≤ elapsed ((steering .stopped 0).later 20000) 0 ∧
    (steering .stopped 0).conv.state ≠ .idle ∧ (bare .propulsion).conv.state = .idle ∧
    (steering .stopped 0).station.reporting = true ∧ (joining .helm).station.reporting = false ∧
    (steering .stopped 0).conv.state = .sequence 0 2048 0 2048 ∧ (steering .stopped 0).role = some .propulsion ∧
    80 ≤ elapsed ((steering .stopped 0).later 80) 0 ∧ 120 ≤ elapsed (holder.later 120) 0 ∧
    holder.role = some .helm ∧ holder.station.timing = true ∧ holder.helm.con = .holding ∧
    asking.helm.con ≠ .holding ∧ leverValue 2068 - holder.helm.current.thrust = 0 ∧ leverValue 2091 = 21 ∧
    (steering .stopped 0).steer.feedback = false := by decide

/-- A HOLDING helm's tiller leaves its dead band of 20 at a raw result of 2091: the current demand has a turn of 21
and the next number, and a DEMAND waits. -/
theorem witness_SequencesStartAndComplete_tiller :
    let s := { holder with conv := { holder.conv with state := .sequence 0 2048 2091 2048 } }
    s.role = some .helm ∧ s.station.timing = true ∧ s.station.acting = true ∧ s.helm.con = .holding ∧
    s.comms.link.queue.length ≤ 5 ∧ 120 ≤ elapsed (s.later 120) 0 ∧ leverValue 2091 = 21 ∧
    after1 (.sequenceCompletion 120 0 0 2048) s (fun t =>
        (t.helm.current.turn, t.helm.number == s.helm.number + 1, t.waits .demand)) = some (21, true, true) := by
  decide

/-- A feedback fault by a short, and by a failed reference; a further one while FEEDBACK is a cause. -/
theorem witness_SequencesStartAndComplete_fault :
    (steeringOn 20 2048 .drivingPort 0).conv.state = .sequence 0 20 0 2048 ∧
    (steeringOn 2048 2007 .drivingPort 0).conv.state = .sequence 0 2048 0 2007 ∧
    after1 (.sequenceCompletion 80 0 0 2048) (steeringOn 20 2048 .drivingPort 0)
      (fun t => (t.steer.feedback, t.steer.drive)) = some (true, .inhibited) ∧
    (let s := steeringOn 20 2048 .inhibited 500
     let t := { s with steer := { s.steer with feedback := true } }
     after1 (.sequenceCompletion 80 0 0 2048) t (fun u => decide (u.steer = t.steer)) = some true) := by decide
/-- A start reads the levels that the completion before it left (log entry 20). -/
theorem test_levels_are_converted :
    let s := { bare .propulsion with conv := { (bare .propulsion).conv with series := some 0, interval := 20000 } }
    after1 (.sequenceCompletion 0 70 0 2050) s (fun u =>
      after1 (.sequenceStart 20000) u (fun t => decide (t.conv.state = .sequence 20000 70 0 2050))) =
      some (some true) := by decide
/-- One result is held for each conversion of 40 µs that has ended (R183). -/
theorem test_sequence_results :
    ((steering .stopped 0).advance 39).sequenceResults = [] ∧
    ((steering .stopped 0).advance 40).sequenceResults = [2048] ∧
    ((steering .stopped 0).advance 90).sequenceResults = [2048, 2048] ∧
    (bare .propulsion).sequenceResults = [] := by decide

/-! ### The coupling -/

/-- A COUPLING station in ACTIVE, supervised, its class taken, with a sequence under way. -/
def towing (cls : StrainClass) (filtered : Nat) (winch : WinchState) : State :=
  let s := setRecord (bare .coupling) .fresh 0 0 false
  { s with
    coup := { s.coup with window := List.replicate 4 filtered, filtered := filtered, cls := cls, classTaken := true,
                          supervised := true, winch := winch, dwellTimer := none, runTimer := none },
    conv := { s.conv with state := .sequence 0 40 0 2048 } }
/-- The levels are 20, 50, 400 and 700 tenths of a tonne: a raw result of 40 reads 19 and one of 41 reads 20. -/
theorem witness_TensionMovesTheClass :
    let s := towing .high 400 .idle
    s.isCoup = true ∧ s.station.taking = true ∧ s.conv.state = .sequence 0 40 0 2048 ∧ 80 ≤ elapsed (s.later 80) 0 ∧
    2008 ≤ (2048 : Raw).toNat ∧ (2048 : Raw).toNat ≤ 2088 ∧ 20 < (40 : Raw).toNat ∧
    (40 : Raw).toNat * 2000 / 4095 < s.param Param.partedLevel ∧
    ¬ (41 : Raw).toNat * 2000 / 4095 < s.param Param.partedLevel ∧ s.param Param.highLevel ≤ s.coup.filtered ∧
    s.coup.classTaken = true ∧ s.coup.partedLatch = false ∧ (bare .coupling).coup.classTaken = false ∧
    ({ s with coup := { s.coup with partedLatch := true } } : State).coup.partedLatch = true ∧
    s.classRisen 699 .high = .high ∧ s.classRisen 700 .high = .overload ∧ s.classFallen 380 .high = .high ∧
    s.classFallen 379 .high = .taut ∧ s.comms.link.queue.length ≤ 6 ∧
    (towing .taut 50 .heaving).coup.winch = .heaving ∧ (bare .coupling).coup.supervised = false ∧
    ({ s with station := .standby } : State).station.taking = true := by decide

/-- A heave is settled at 70, the taut level of 50 and the hysteresis of 20, and goes on at 69. -/
def hauled (raw : Raw) : State :=
  let s := towing .taut 70 .heaving
  { s with coup := { s.coup with runTimer := ran }, conv := { s.conv with state := .sequence 0 raw 0 2048 } }
theorem witness_TensionMovesTheClass_heave :
    let s := hauled 142
    s.isCoup = true ∧ s.coup.supervised = true ∧ s.station = .active ∧ s.coup.winch = .heaving ∧ s.permit = true ∧
    s.coup.partedLatch = false ∧ s.start.request = false ∧ s.param Param.tautLevel + s.param Param.hysteresis = 70 ∧
    after1 (.sequenceCompletion 80 0 0 2048) s (fun t => (t.coup.filtered, t.coup.winch, t.coup.runTimer)) =
      some (69, .heaving, ran) ∧
    after1 (.sequenceCompletion 80 0 0 2048) (hauled 144) (fun t =>
        (t.coup.filtered, t.coup.winch, t.coup.settleTimer)) =
      some (70, .holding, startTimer 80 (sec 5)) := by decide
/-- A fall of 4 values of 50 by hysteresis to SLACK is the last condition of the dwell, as DwellJudged says. -/
theorem witness_DwellJudged :
    let s := { towing .taut 30 .idle with conv := { (bare .coupling).conv with state := .sequence 0 40 0 2048 } }
    s.isCoup = true ∧ s.station = .active ∧ s.coup.supervised = true ∧ s.coup.winch = .idle ∧
    s.coup.dwellTimer = none ∧
    after1 (.sequenceCompletion 80 0 0 2048) s (fun t => (t.coup.cls, t.permit, t.station, t.has .tensionSignal)) =
      some (.slack, true, .active, false) ∧
    after1 (.sequenceCompletion 80 0 0 2048) s (fun t => t.coup.dwellTimer) =
      some (startTimer 80 (sec (s.param Param.slackDwell))) := by decide

/-- The fourth value enters the window under the latch: the class is taken, though not judged (R98). -/
theorem test_class_taken_under_the_latch :
    let s := towing .parted 300 .idle
    let short := { s with coup := { s.coup with window := [300, 300, 300], classTaken := false, partedLatch := true } }
    after1 (.sequenceCompletion 80 0 0 2048) short (fun t => (t.coup.classTaken, t.coup.cls)) =
      some (true, .parted) := by
  decide

def winching (winch : WinchState) (lockout : Bool) : State :=
  let s := towing .slack 30 winch
  { s with lines := s.lines.set 1 lockout,
           coup := { s.coup with dwellTimer := if winch = .idle then ran else none,
                                 runTimer := if winch = .heaving then ran else none,
                                 settleTimer := if winch = .holding then ran else none } }
theorem witness_WireAndWinchEvents :
    (winching .idle false).isCoup = true ∧ (winching .idle false).line 0 = false ∧
    (winching .idle false).coup.supervised = true ∧ (winching .idle false).station = .active ∧
    (winching .idle false).line 1 = false ∧ (winching .lockedOut true).line 1 = true ∧
    (winching .lockedOut true).coup.winch = .lockedOut ∧ (winching .lockedOut true).has .winchRun = false ∧
    (having (winching .lockedOut true) .winchRun).has .winchRun = true ∧ (winching .idle false).coup.winch = .idle ∧
    due (winching .idle false).coup.dwellTimer ((winching .idle false).later 1000) = true ∧
    due (winching .heaving false).coup.runTimer ((winching .heaving false).later 1000) = true ∧
    due (winching .holding false).coup.settleTimer ((winching .holding false).later 1000) = true ∧
    (winching .idle false).permit = true ∧ (winching .idle false).comms.link.queue.length ≤ 6 := by decide

/-! ### Capture channels and PWM outputs -/

def capped (r : Role) (ch : Fin 4) (s : State) : State :=
  { s with role := some r,
           caps := s.caps.set ch { Channel.reset with stamp := some 0, count := 50, noise := true, noiseTimer := ran,
                                                      expiryTimer := ran } }
/-- An erased minimum interval reads 65,535 µs: an edge at 65,534 is noise, one at 65,535 is accepted. -/
theorem witness_CapturesAndPeriods :
    let s := capped .propulsion 0 (bare .propulsion)
    (s.caps.get 0).stamp = some 0 ∧ elapsed (s.later 65534) 0 < s.param (Param.minInterval 0) ∧
    s.param (Param.minInterval 0) ≤ elapsed (s.later 65535) 0 ∧ s.isProp = true ∧ s.station.joined = true ∧
    s.station.acting = true ∧ elapsed (s.later 65535) 0 < 2000000 ∧ (s.caps.get 1).stamp = none ∧
    due (s.caps.get 0).noiseTimer (s.later 1000) = true ∧ due (s.caps.get 0).expiryTimer (s.later 1000) = true ∧
    due (some s.outputs.periods) (s.later 2000) = true ∧
    (capped .coupling 0 (towing .slack 30 .heaving)).isCoup = true ∧
    (capped .coupling 0 (towing .slack 30 .heaving)).station = .active ∧
    (capped .coupling 0 (towing .slack 30 .heaving)).coup.winch = .heaving ∧
    s.param Param.maxDrumCount < ((s.caps.get 0).count + 1).toNat := by decide

/-! ### Invariants: a station with something in every part that the invariant speaks of, and a step of it -/

def running (s : State) (c : Instr) : State := { s with pending := [c] }
theorem witness_EveryStepKeepsTheAlertList :
    AlertInv (running (listed .activeUnack .overspeed) (.sweep 1000)) ∧
    TripInv (running (listed .activeUnack .overspeed) (.sweep 1000)) ∧
    ∃ t, step (running (listed .activeUnack .overspeed) (.sweep 1000)) = .next t := by
  refine ⟨by unfold AlertInv; decide, ?_, _, rfl⟩
  intro c
  cases c <;> decide
theorem witness_EveryStepKeepsTheQueue :
    QueueInv (running (setLink holder { holder.comms.link with queue := queue8 }) (.demandIntervalExpiry 1000)) ∧
    SilentInv (running (setLink holder { holder.comms.link with queue := queue8 }) (.demandIntervalExpiry 1000)) ∧
    ∃ t, step (running (setLink holder { holder.comms.link with queue := queue8 }) (.demandIntervalExpiry 1000)) =
      .next t := by
  refine ⟨⟨by decide, ?_⟩, by unfold SilentInv; decide, _, rfl⟩
  intro k
  cases k <;> decide
def valved : State :=
  let s := steering .drivingPort (-500)
  let p : Pwm := { bankA := 500, bankB := 300, inControl := .a, pending := true, driving := 500 }
  { s with outputs := { s.outputs with outs := s.outputs.outs.set 1 p } }
theorem witness_EveryStepKeepsTheValves :
    SafeInv (running valved (.sequenceCompletion 80 0 0 2048)) ∧
    ValveInv (running valved (.sequenceCompletion 80 0 0 2048)) ∧
    (valved.outputs.outs.get 1).next = 300 ∧ valved.steer.drive = .drivingPort ∧ State.reset.station.safe = true ∧
    ∃ t, step (running valved (.sequenceCompletion 80 0 0 2048)) = .next t :=
  ⟨by unfold SafeInv Pwm.Closed; decide, by unfold ValveInv; decide, by decide, by decide, by decide, _, rfl⟩
/-- A transmission cut after its preamble has the seed; after 24 more bit times the residue of the header (R149). -/
theorem test_cut_transmission_residue :
    let l := { (bare .propulsion).comms.link with tx := .sending aHand }
    (l.silence 128).txResidue = 0xFFFF ∧
    (l.silence 320).txResidue = crcBits 0xFFFF (bytesBits (headerBytes aHand.frame)) ∧
    (l.silence 320).tx = .idle := by decide +kernel
def strained : State :=
  let s := pulling .ahead 500 500
  { s with peers := { s.peers with entries := s.peers.entries.set 4 (entry (.coupling 7 false
                        { cls := .overload, tension := 800, peak := 900, winch := .idle }) .silent) },
           thrust := { s.thrust with strain := 400 } }
theorem witness_EveryStepKeepsTheThrust :
    ThrustInv (running strained (.controlTick 1000 chapterOrder 0)) ∧
    StrainInv (running strained (.controlTick 1000 chapterOrder 0)) ∧
    TrimInv (running strained (.controlTick 1000 chapterOrder 0)) ∧ (4 : Addr) ≠ strained.address ∧
    strained.isProp = true ∧ strained.station.taking = true ∧ strained.thrust.strain = classFactor .overload ∧
    ∃ t, step (running strained (.controlTick 1000 chapterOrder 0)) = .next t :=
  ⟨by unfold ThrustInv; decide, by unfold StrainInv; decide, by unfold TrimInv; decide, by decide, by decide, by decide,
   by decide, _, rfl⟩
/-- OUT0 with the duty of 500 written, not yet in control. -/
def governedOut : State :=
  let out := (strained.outputs.outs.get 0).write 500
  { strained with thrust := { strained.thrust with duty := 500 },
                  outputs := { strained.outputs with outs := strained.outputs.outs.set 0 out } }
theorem witness_EveryStepKeepsTheThrust_governor :
    ThrustInv (running governedOut (.controlTick 1000 chapterOrder 0)) ∧
    GovernorInv (running governedOut (.controlTick 1000 chapterOrder 0)) ∧ governedOut.thrust.duty = 500 ∧
    ∃ t, step (running governedOut (.controlTick 1000 chapterOrder 0)) = .next t :=
  ⟨by unfold ThrustInv; decide, by unfold GovernorInv; decide, by decide, _, rfl⟩
theorem witness_EveryStepKeepsTheHelm :
    ConInv (running holder (.sequenceCompletion 120 0 0 2048)) ∧
    HelmAwake (running holder (.sequenceCompletion 120 0 0 2048)) ∧
    DemandInv (running holder (.sequenceCompletion 120 0 0 2048)) ∧ ViewInv (viewing fullView) ∧
    AccountInv holder ∧ isReset (.sweep 0) = false ∧
    ∃ t, step (running holder (.sequenceCompletion 120 0 0 2048)) = .next t :=
  ⟨by unfold ConInv; decide, by unfold HelmAwake; decide,
   by unfold DemandInv Demand.InRange; decide, by unfold ViewInv; decide,
   by unfold AccountInv; decide, by decide, _, rfl⟩
theorem witness_EveryStepKeepsTheWinch :
    WinchInv (running (winching .idle false) (.slackDwellExpiry 1000)) ∧
    WinchInv (winching .heaving false) ∧ WinchInv (winching .lockedOut true) ∧
    (∀ dt damage rest, (running (winching .idle false) (.slackDwellExpiry 1000)).pending =
      .configWatch dt damage :: rest → damage = []) ∧
    ∃ t, step (running (winching .idle false) (.slackDwellExpiry 1000)) = .next t :=
  ⟨by unfold WinchInv; decide, by unfold WinchInv; decide, by unfold WinchInv; decide,
   by intro _ _ _ h; simp [running] at h, _, rfl⟩

end Sys2Proof.Tests
end

section
/-! SUPPORT. The con view (R17): the test by which a candidate is preferred, what each operation does to the view, and
the rule that every command keeps. -/

namespace Sys2Proof.Machine

-- As in Laws/Touches.lean: one theorem at a time.
set_option Elab.async false

/-! ## The test of R17 -/

theorem newer_iff (a b : Byte) : newer a b = true ↔ 1 ≤ (a - b).toNat ∧ (a - b).toNat ≤ 127 := by
  simp [newer]

theorem newer_self (e : Byte) : newer e e = false := by simp [newer]

theorem preferred_iff (v : ConView) (h : Addr) (e : Byte) :
    preferred v h e = true ↔ newer e v.epoch = true ∨ (e = v.epoch ∧ ∀ k, v.holder = some k → h < k) := by
  cases hv : v.holder <;> simp [preferred, hv]

theorem preferred_of_newer {v : ConView} {e : Byte} (h : Addr) (n : newer e v.epoch = true) :
    preferred v h e = true :=
  (preferred_iff v h e).mpr (.inl n)

/-- Against a view of the same epoch only the address decides. -/
theorem preferred_same_epoch (h k : Addr) (e : Byte) :
    preferred { holder := some k, epoch := e } h e = decide (h < k) := by
  simp [preferred, newer_self]

/-! ## The view over a change: kept, or moved to a preferred candidate -/

/-- The con view stands as it was. -/
def KeepsView (s t : State) : Prop := t.demand.view = s.demand.view

/-- The con view stands as it was, or is a candidate that was preferred to it (R17). -/
def ViewMoves (s t : State) : Prop :=
  KeepsView s t ∨
    ∃ h e, preferred s.demand.view h e = true ∧ t.demand.view = { holder := some h, epoch := e }

theorem KeepsView.refl (s : State) : KeepsView s s := rfl

/-- A change of other fields, or of the demand unit beside its view. -/
theorem KeepsView.of_eq {s t : State} (h : t.demand.view = s.demand.view := by rfl) : KeepsView s t := h

theorem KeepsView.trans {s t u : State} (h : KeepsView s t) (k : KeepsView t u) : KeepsView s u := Eq.trans k h

theorem KeepsView.ite {s t u : State} {c : Prop} [Decidable c] (h : KeepsView s t) (k : KeepsView s u) :
    KeepsView s (if c then t else u) := by
  split <;> assumption

theorem KeepsView.whenever {f : State → State} (s : State) (p : Bool) (h : KeepsView s (f s)) :
    KeepsView s (s.whenever p f) :=
  .ite h (.refl s)

/-- What leaves the demand unit alone leaves the view alone. -/
theorem OnlyTouches.keepsView {ps : List Part} {s t : State} (h : OnlyTouches ps s t)
    (n : Part.demand ∉ ps := by decide) : KeepsView s t :=
  congrArg DemandUnit.view (h.demand n)

theorem KeepsView.moves {s t : State} (h : KeepsView s t) : ViewMoves s t := .inl h

theorem KeepsView.then_moves {s t u : State} (h : KeepsView s t) (k : ViewMoves t u) : ViewMoves s u := by
  unfold ViewMoves KeepsView at *
  rwa [h] at k

theorem ViewMoves.then_keeps {s t u : State} (h : ViewMoves s t) (k : KeepsView t u) : ViewMoves s u := by
  unfold ViewMoves KeepsView at *
  rwa [k]

theorem ViewMoves.ite {s t u : State} {c : Prop} [Decidable c] (h : ViewMoves s t) (k : ViewMoves s u) :
    ViewMoves s (if c then t else u) := by
  split <;> assumption

theorem ViewMoves.whenever {f : State → State} (s : State) (p : Bool) (h : ViewMoves s (f s)) :
    ViewMoves s (s.whenever p f) :=
  .ite h (KeepsView.refl s).moves

/-! ## Standing by (section 12.5): the demand timers alone change -/

theorem propStandby_keepsView (s : State) : KeepsView s s.propStandby :=
  (clear_touches s _).keepsView.trans (.trans .of_eq
    ((offer_touches _ _ _).keepsView.trans (offer_touches _ _ _).keepsView))

theorem propReturn_keepsView (s : State) : KeepsView s s.propReturn :=
  .trans .of_eq ((restartRepeat_touches _).keepsView.trans ((startPropSeries_touches _).keepsView.trans
    ((offer_touches _ _ _).keepsView.trans (judgeEngine_touches _).keepsView)))

theorem standbyTest_keepsView (s : State) : KeepsView s s.standbyTest :=
  .whenever s _ (propStandby_keepsView s)

theorem coupStandby_keepsView (s : State) : KeepsView s s.coupStandby :=
  .trans .of_eq (offerStrain_touches _).keepsView

theorem coupReturn_keepsView (s : State) : KeepsView s s.coupReturn :=
  .trans .of_eq ((restartRepeat_touches _).keepsView.trans
    ((offerStrain_touches _).keepsView.trans (winchCauses_touches _).keepsView))

theorem judgeCoupStandby_keepsView (s : State) : KeepsView s s.judgeCoupStandby :=
  .whenever s _ (coupStandby_keepsView s)

theorem standbyByClass_keepsView (s : State) : KeepsView s s.standbyByClass :=
  .ite (coupReturn_keepsView s) (judgeCoupStandby_keepsView s)

theorem setRequest_keepsView (s : State) : KeepsView s s.setRequest :=
  .ite (.refl s) ((start_touches s _).keepsView.trans (judgeCoupStandby_keepsView _))

theorem clearRequest_keepsView (s : State) : KeepsView s s.clearRequest :=
  .ite (.ite ((start_touches s _).keepsView.trans (propReturn_keepsView _))
    (.ite ((start_touches s _).keepsView.trans (coupReturn_keepsView _)) (start_touches s _).keepsView))
    (start_touches s _).keepsView

theorem wakeChange_keepsView (s : State) (i : Fin 16) (on : Bool) : KeepsView s (s.wakeChange i on) :=
  (setLine_touches s _ _).keepsView.trans (.whenever _ _ (clearRequest_keepsView _))

/-! ## Coupling unit (chapter 6): through the standby that its class brings -/

theorem reportClass_keepsView (s : State) : KeepsView s s.reportClass :=
  (offerStrain_touches s).keepsView.trans ((judgeWinch_touches _).keepsView.trans (standbyByClass_keepsView _))

theorem changeClass_keepsView (s : State) (c : StrainClass) : KeepsView s (s.changeClass c) :=
  .ite (.refl s) ((clearClass_touches s _).keepsView.trans ((coup_touches _ _).keepsView.trans
    ((raiseClass_touches _ _).keepsView.trans
      ((KeepsView.ite (markOnset_touches _).keepsView (.refl _)).trans (reportClass_keepsView _)))))

theorem partedOnset_keepsView (s : State) : KeepsView s s.partedOnset :=
  (KeepsView.ite (.refl s) (clearClass_touches s _).keepsView).trans ((coup_touches _ _).keepsView.trans
    ((raise_touches _ _).keepsView.trans ((markOnset_touches _).keepsView.trans (reportClass_keepsView _))))

theorem partedAnswer_keepsView (s : State) : KeepsView s s.partedAnswer :=
  .ite ((raise_touches s _).keepsView.trans ((markOnset_touches _).keepsView.trans
    (offerStrain_touches _).keepsView)) ((coup_touches s _).keepsView.trans (changeClass_keepsView _ _))

theorem wireChange_keepsView (s : State) (on : Bool) : KeepsView s (s.wireChange on) :=
  (setLine_touches s _ _).keepsView.trans (.whenever _ _ (partedOnset_keepsView _))

theorem judgeClass_keepsView (s : State) : KeepsView s s.judgeClass :=
  .ite ((noteWindow_touches s).keepsView.trans (changeClass_keepsView _ _))
    ((noteWindow_touches s).keepsView.trans (coup_touches _ _).keepsView)

theorem tensionInRange_keepsView (s : State) (t : Nat) : KeepsView s (s.tensionInRange t) :=
  (KeepsView.whenever s _ (clear_touches s _).keepsView).trans ((coup_touches _ _).keepsView.trans
    ((KeepsView.ite (partedOnset_keepsView _) (.ite (noteWindow_touches _).keepsView
      (judgeClass_keepsView _))).trans
      ((judgeWinch_touches _).keepsView.trans (hauledTaut_touches _).keepsView)))

theorem tensionFault_keepsView (s : State) : KeepsView s s.tensionFault :=
  .whenever s _ ((raiseNew_touches s _).keepsView.trans (judgeWinch_touches _).keepsView)

theorem tensionDelivery_keepsView (s : State) (r : Raw) (ok : Bool) : KeepsView s (s.tensionDelivery r ok) :=
  .whenever s _ (.ite (tensionInRange_keepsView s _) (tensionFault_keepsView s))

theorem superviseClass_keepsView (s : State) : KeepsView s s.superviseClass :=
  .ite ((raiseClass_touches s _).keepsView.trans ((markOnset_touches _).keepsView.trans
    (offerStrain_touches _).keepsView)) (raiseClass_touches s _).keepsView

theorem superviseCoupling_keepsView (s : State) : KeepsView s s.superviseCoupling :=
  (coup_touches s _).keepsView.trans ((KeepsView.ite (raiseNew_touches _ _).keepsView (.refl _)).trans
    ((superviseClass_keepsView _).trans ((KeepsView.ite (partedOnset_keepsView _) (.refl _)).trans
      (winchCauses_touches _).keepsView)))

/-! ## Acknowledgement (section 8.3): through the answer to PARTED -/

theorem answer_keepsView (s : State) (c : AlertCode) : KeepsView s (s.answer c) := by
  unfold State.answer
  split
  · exact (gearAnswer_touches s).keepsView
  · exact (gearAnswer_touches s).keepsView
  · exact (overspeedAnswer_touches s).keepsView
  · exact (interlockAnswer_touches s).keepsView
  · exact partedAnswer_keepsView s
  · exact (unlockWinch_touches s).keepsView
  · exact .refl s

theorem endCondition_keepsView (s : State) (c : AlertCode) : KeepsView s (s.endCondition c) :=
  (present_touches s _).keepsView.trans (answer_keepsView _ _)

theorem endByAck_keepsView (s : State) (c : AlertCode) : KeepsView s (s.endByAck c) :=
  .ite (endCondition_keepsView s c) ((endCondition_keepsView s c).trans (relist_touches _ _).keepsView)

theorem ackEntry_keepsView (s : State) (e : AlertEntry) : KeepsView s (s.ackEntry e) := by
  unfold State.ackEntry
  split
  · exact .ite (endByAck_keepsView s _) (relist_touches s _).keepsView
  · exact .refl s
  · exact (relist_touches s _).keepsView

theorem ackItem_keepsView (s : State) (c : AlertCode) (o : Byte) : KeepsView s (s.ackItem c o) := by
  unfold State.ackItem
  split
  · exact .refl s
  · exact .ite (ackEntry_keepsView s _) (offerAlert_touches s).keepsView

theorem ackAll_keepsView (l : List AckItem) : ∀ s : State, KeepsView s (s.ackAll l) := by
  induction l with
  | nil => exact KeepsView.refl
  | cons i is ih => intro s; exact (KeepsView.ite (ackItem_keepsView s _ _) (.refl s)).trans (ih _)

theorem takeAck_keepsView (s : State) (a : Addr) (l : List AckItem) : KeepsView s (s.takeAck a l) :=
  .whenever s _ (ackAll_keepsView l s)

theorem ackCode_keepsView (s : State) (c : AlertCode) : KeepsView s (s.ackCode c) := by
  unfold State.ackCode
  split
  · exact .refl s
  · exact .ite (ackEntry_keepsView s _) (.refl s)

theorem ackCodes_keepsView (l : List AlertCode) : ∀ s : State, KeepsView s (s.ackCodes l) := by
  induction l with
  | nil => exact KeepsView.refl
  | cons c cs ih => intro s; exact (ackCode_keepsView s c).trans (ih _)

theorem endEntryless_keepsView (l : List AlertCode) : ∀ s : State, KeepsView s (s.endEntryless l) := by
  induction l with
  | nil => exact KeepsView.refl
  | cons c cs ih => intro s; exact (KeepsView.ite (endCondition_keepsView s c) (.refl s)).trans (ih _)

theorem pressAck_keepsView (s : State) : KeepsView s s.pressAck :=
  (ackCodes_keepsView _ s).trans ((KeepsView.ite (.refl _) (endEntryless_keepsView _ _)).trans
    ((judgeWinch_touches _).keepsView.trans (requestView_touches _).keepsView))

theorem ackChange_keepsView (s : State) (on : Bool) : KeepsView s (s.ackChange on) := by
  unfold State.ackChange
  split
  · exact .refl s
  · exact (setLine_touches s _ _).keepsView.trans (.whenever _ _ (pressAck_keepsView _))

/-! ## Demand unit (chapter 2): what changes the record and the timers -/

theorem acceptDemand_keepsView (s : State) (p : DemandFields) : KeepsView s (s.acceptDemand p) :=
  .trans .of_eq ((foundDemand_touches _).keepsView.trans (.whenever _ _ (clearRequest_keepsView _)))

theorem heldRecord_view (s : State) : s.heldRecord.view = s.demand.view := by
  unfold State.heldRecord
  dsimp only
  split <;> rfl

theorem timeoutExpiry_keepsView (s : State) : KeepsView s s.timeoutExpiry :=
  .whenever s _ (.trans (.of_eq (heldRecord_view s)) ((KeepsView.whenever _ _
    (raiseNew_touches _ _).keepsView).trans (judgeWinch_touches _).keepsView))

theorem holdExpiry_keepsView (s : State) : KeepsView s s.holdExpiry :=
  .whenever s _ (.trans .of_eq (judgeWinch_touches _).keepsView)

theorem decayTick_keepsView (s : State) : KeepsView s s.decayTick :=
  .whenever s _ (.trans .of_eq (judgeWinch_touches _).keepsView)

theorem takeLive_keepsView (s : State) (n : Byte) : KeepsView s (s.takeLive n) := rfl

theorem renumber_keepsView (s : State) : KeepsView s s.renumber :=
  (takeLive_keepsView s _).trans ((offer_touches _ _ _).keepsView.trans ((lagRenumber_touches _ _).keepsView.trans
    (.whenever _ _ (queueStandby_touches _).keepsView)))

theorem testNumber_keepsView (s : State) : KeepsView s s.testNumber :=
  .whenever s _ (renumber_keepsView s)

theorem leverDelivery_keepsView (s : State) (a b : Raw) (x y : Bool) :
    KeepsView s (s.leverDelivery a b x y) :=
  .whenever s _ ((helm_touches s _).keepsView.trans
    ((whenever_touches _ _ (follow_touches _ _ _)).keepsView.trans (testNumber_keepsView _)))

theorem switchChange_keepsView (s : State) (m e : BitVec 2) (b : Bool) :
    KeepsView s (s.switchChange m e b) :=
  (setSwitches_touches s m e b).keepsView.trans
    (.whenever _ _ ((readSwitches_touches _).keepsView.trans (testNumber_keepsView _)))

theorem enterHolding_keepsView (s : State) : KeepsView s s.enterHolding :=
  (takeLive_keepsView s _).trans ((helm_touches _ _).keepsView.trans ((foundDemand_touches _).keepsView.trans
    ((clear_touches _ _).keepsView.trans ((setHolderLow_touches _ _).keepsView.trans
      ((offer_touches _ _ _).keepsView.trans ((lagAll_touches _).keepsView.trans
        (.whenever _ _ (switchOn_touches _).keepsView)))))))

theorem leaveHolding_keepsView (s : State) : KeepsView s s.leaveHolding :=
  .trans .of_eq (clear_touches _ _).keepsView

theorem leaveCon_keepsView (s : State) : KeepsView s s.leaveCon :=
  (KeepsView.ite (leaveHolding_keepsView s) (.refl s)).trans (helm_touches _ _).keepsView

theorem conAfterView_keepsView (s : State) (h : Addr) : KeepsView s (s.conAfterView h) := by
  unfold State.conAfterView
  split
  · exact .ite (.refl s) ((leaveHolding_keepsView s).trans (.whenever _ _ (raiseNew_touches _ _).keepsView))
  · exact .ite (.refl s) (helm_touches s _).keepsView
  · exact .refl s

/-! ## The candidates (R17, R18): what moves the view -/

/-- A preferred candidate becomes the view. -/
theorem offerView_of_preferred {s : State} {h : Addr} {e : Byte} (p : preferred s.demand.view h e = true) :
    (s.offerView h e).demand.view = { holder := some h, epoch := e } := by
  unfold State.offerView
  rw [if_pos p]
  exact KeepsView.whenever { s with demand := { s.demand with view := { holder := some h, epoch := e } } } _
    ((setHolderLow_touches _ _).keepsView.trans (conAfterView_keepsView _ h))

/-- Any other candidate changes nothing. -/
theorem offerView_of_not_preferred {s : State} {h : Addr} {e : Byte} (p : preferred s.demand.view h e = false) :
    s.offerView h e = s :=
  if_neg (Bool.eq_false_iff.mp p)

theorem offerView_viewMoves (s : State) (h : Addr) (e : Byte) : ViewMoves s (s.offerView h e) := by
  cases p : preferred s.demand.view h e with
  | true => exact .inr ⟨h, e, p, offerView_of_preferred p⟩
  | false => rw [offerView_of_not_preferred p]; exact (KeepsView.refl s).moves

/-- Of two claims under one newer epoch the lower address has the view, if it is heard first. -/
theorem offerView_lower_first {s : State} {h k : Addr} {e : Byte} (n : newer e s.demand.view.epoch = true)
    (l : h < k) : ((s.offerView h e).offerView k e).demand.view = { holder := some h, epoch := e } := by
  have first := offerView_of_preferred (preferred_of_newer h n)
  have loses : preferred (s.offerView h e).demand.view k e = false := by
    rw [first, preferred_same_epoch]
    exact decide_eq_false (lt_asymm l)
  rw [offerView_of_not_preferred loses, first]

/-- And if it is heard second. -/
theorem offerView_lower_second {s : State} {h k : Addr} {e : Byte} (n : newer e s.demand.view.epoch = true)
    (l : h < k) : ((s.offerView k e).offerView h e).demand.view = { holder := some h, epoch := e } := by
  have first := offerView_of_preferred (preferred_of_newer k n)
  have wins : preferred (s.offerView k e).demand.view h e = true := by
    rw [first, preferred_same_epoch]
    exact decide_eq_true l
  exact offerView_of_preferred wins

theorem takeCon_viewMoves (s : State) : ViewMoves s s.takeCon :=
  (offerWith_touches s _ _).keepsView.then_moves
    ((offerView_viewMoves _ _ _).then_keeps (enterHolding_keepsView _))

theorem requestCon_keepsView (s : State) (h : Addr) : KeepsView s (s.requestCon h) :=
  (helm_touches s _).keepsView.trans (offerWith_touches _ _ _).keepsView

theorem claimCon_viewMoves (s : State) : ViewMoves s s.claimCon := by
  unfold State.claimCon
  split
  · exact takeCon_viewMoves s
  · exact .ite (takeCon_viewMoves s) (requestCon_keepsView s _).moves

theorem conRequestChange_viewMoves (s : State) (on : Bool) : ViewMoves s (s.conRequestChange on) :=
  (setLine_touches s _ _).keepsView.then_moves (.whenever _ _ (claimCon_viewMoves _))

theorem requestExpiry_viewMoves (s : State) : ViewMoves s s.requestExpiry :=
  .whenever s _ (.ite ((helm_touches s _).keepsView.then_moves (takeCon_viewMoves _))
    (helm_touches s _).keepsView.moves)

theorem grantCon_viewMoves (s : State) (a : Addr) : ViewMoves s (s.grantCon a) :=
  (offerWith_touches s _ _).keepsView.then_moves
    ((leaveHolding_keepsView _).then_moves (offerView_viewMoves _ _ _))

theorem routeRequest_viewMoves (s : State) (a : Addr) (p : ConFields) : ViewMoves s (s.routeRequest a p) :=
  .whenever s _ (.ite (grantCon_viewMoves s a) (declineCon_touches s a).keepsView.moves)

theorem routeGrant_viewMoves (s : State) (p : ConFields) : ViewMoves s (s.routeGrant p) :=
  (offerView_viewMoves s _ _).then_keeps (.whenever _ _ (enterHolding_keepsView _))

theorem routeDemand_viewMoves (s : State) (a : Addr) (p : DemandFields) : ViewMoves s (s.routeDemand a p) :=
  (offerView_viewMoves s a _).then_keeps (.whenever _ _ (acceptDemand_keepsView _ p))

theorem superviseHelm_viewMoves (s : State) : ViewMoves s s.superviseHelm := by
  unfold State.superviseHelm
  refine (KeepsView.whenever (f := fun s => s.raiseNew .leverSignal) s
    (s.helm.thrustFault || s.helm.turnFault) (raiseNew_touches s _).keepsView).then_moves ?_
  dsimp only
  split
  · exact .ite (takeCon_viewMoves _) (KeepsView.refl _).moves
  · exact .ite (enterHolding_keepsView _).moves (KeepsView.refl _).moves

/-! ## Start unit (chapter 12) -/

theorem startJoining_keepsView (s : State) : KeepsView s s.startJoining := rfl

theorem enterJoining_keepsView (s : State) : KeepsView s s.enterJoining :=
  (startJoining_keepsView s).trans ((KeepsView.whenever _ _ (readSwitches_touches _).keepsView).trans
    ((refreshAvailability_touches _).keepsView.trans ((refreshStrain_touches _).keepsView.trans
      (applySafe_touches _).keepsView)))

theorem referenceDone_keepsView (s : State) (r : Raw) : KeepsView s (s.referenceDone r) :=
  .whenever s _ (.ite ((conv_touches s _).keepsView.trans (enterJoining_keepsView _))
    ((conv_touches s _).keepsView.trans (enterFailed_touches _).keepsView))

theorem entryHelm_viewMoves (s : State) : ViewMoves s s.entryHelm :=
  (superviseHelm_viewMoves s).then_keeps ((superviseAccount_touches _).keepsView.trans
    (.whenever _ _ (raiseNew_touches _ _).keepsView))

theorem entryUnits_viewMoves (s : State) : ViewMoves s s.entryUnits := by
  unfold State.entryUnits
  split
  · exact entryHelm_viewMoves s
  · exact (entryProp_touches s).keepsView.moves
  · exact (superviseCoupling_keepsView s).moves
  · exact (KeepsView.refl s).moves

theorem enterActive_viewMoves (s : State) : ViewMoves s s.enterActive :=
  ((stationStart_touches s _ _).keepsView.trans ((judgeConflict_touches _ _).keepsView.trans
    ((judgeSilent_touches _ _).keepsView.trans (entryDemand_touches _).keepsView))).then_moves
      ((entryUnits_viewMoves _).then_keeps ((entryCommon_touches _).keepsView.trans
        ((entryAlert_touches _).keepsView.trans (judgeCoupStandby_keepsView _))))

theorem joinExpiry_viewMoves (s : State) : ViewMoves s s.joinExpiry :=
  .whenever s _ (enterActive_viewMoves s)

theorem demandLeave_view (s : State) (halted : Bool) : (s.demandLeave halted).view = s.demand.view := by
  unfold State.demandLeave
  split
  · rfl
  · split <;> rfl

theorem leaveService_keepsView (s : State) (halted : Bool) : KeepsView s (s.leaveService halted) :=
  .trans (.of_eq (demandLeave_view s halted)) ((leaveCon_keepsView _).trans (applySafe_touches _).keepsView)

theorem duplicateAddress_keepsView (s : State) : KeepsView s s.duplicateAddress :=
  (raise_touches s _).keepsView.trans (leaveService_keepsView _ _)

theorem configCorrupt_keepsView (s : State) : KeepsView s s.configCorrupt :=
  (raise_touches s _).keepsView.trans ((leaveService_keepsView _ _).trans (forceAlert_touches _).keepsView)

theorem watchRun_keepsView (s : State) (d : List (Nat × Word)) : KeepsView s (s.watchRun d) :=
  (start_touches s _).keepsView.trans (.whenever _ _ ((start_touches _ _).keepsView.trans
    (.whenever _ _ (configCorrupt_keepsView _))))

/-- Either reset leaves the view none under epoch 0. -/
theorem resetTo_view (s : State) (c : ResetCause) (pins : BitVec 2) (addr : Addr) (lines : BitVec 16) :
    (s.resetTo c pins addr lines).demand.view = { holder := none, epoch := 0 } := by
  unfold State.resetTo State.judgeStrapping
  dsimp only
  split
  · exact (enterFailed_touches _).keepsView
  · rfl

/-! ## Frames received (section 1.2) -/

theorem ownFrame_keepsView (s : State) : KeepsView s s.ownFrame :=
  .ite (link_touches s _).keepsView (.whenever s _ (duplicateAddress_keepsView s))

theorem route_viewMoves (s : State) (f : Frame) : ViewMoves s (s.route f) := by
  unfold State.route
  split
  · exact routeDemand_viewMoves s _ _
  · exact routeRequest_viewMoves s _ _
  · exact routeGrant_viewMoves s _
  · exact (routeDecline_touches s _ _).keepsView.moves
  · exact offerView_viewMoves s _ _
  · exact (lagOne_touches s _).keepsView.moves
  · exact (KeepsView.refl s).moves
  · exact (takeFuel_touches s _ _).keepsView.moves
  · exact (takeAccount_touches s _ _).keepsView.moves
  · exact (takeAlert_touches s _ _).keepsView.moves
  · exact (takeAck_keepsView s _ _).moves
  · exact (KeepsView.whenever s _ (forget_touches s).keepsView).moves
  · exact (KeepsView.whenever s _ (setRequest_keepsView s)).moves
  · exact (KeepsView.whenever s _ (clearRequest_keepsView s)).moves

theorem tableTakes_viewMoves (s : State) (f : Frame) : ViewMoves s (s.tableTakes f) :=
  .ite (ownFrame_keepsView s).moves (.ite (recordConflict_touches s _).keepsView.moves
    (((updateEntry_touches s f).keepsView.trans ((noteStart_touches _ f).keepsView.trans
      (tableChanged_touches _ _).keepsView)).then_moves
        ((route_viewMoves _ f).then_keeps (judgeWinch_touches _).keepsView)))

theorem takeGood_viewMoves (s : State) (f : Frame) : ViewMoves s (s.takeGood f) :=
  ((endReception_touches s 0).keepsView.trans (noteReception_touches _ false).keepsView).then_moves
    (.ite (tableTakes_viewMoves _ f) (KeepsView.whenever _ _ (ownFrame_keepsView _)).moves)

theorem takeFrame_viewMoves (s : State) (f : Frame) : ViewMoves s (s.takeFrame f) :=
  .whenever s _ (.ite (takeGood_viewMoves s f) (takeError_touches s 0).keepsView.moves)

theorem takeBits_viewMoves (s : State) (bits : List Bool) : ViewMoves s (s.takeBits bits) := by
  refine .whenever s _ ?_
  split
  · exact takeGood_viewMoves s _
  · exact (takeError_touches s _).keepsView.moves

/-! ## Converter and control tick (chapter 11, R22) -/

theorem deliver_keepsView (s : State) (a b r : Raw) : KeepsView s (s.deliver a b r) := by
  unfold State.deliver
  dsimp only
  split
  · exact leverDelivery_keepsView s _ _ _ _
  · exact .whenever s _ (rudderDelivery_touches s _ _).keepsView
  · exact tensionDelivery_keepsView s _ _
  · exact .refl s

theorem sequenceComplete_keepsView (s : State) : KeepsView s s.sequenceComplete := by
  unfold State.sequenceComplete
  split
  · exact .whenever s _ ((conv_touches s _).keepsView.trans (deliver_keepsView _ _ _ _))
  · exact .refl s
  · exact .refl s

theorem tickPart_keepsView (s : State) (p : TickPart) : KeepsView s (s.tickPart p) := by
  cases p with
  | decay => exact decayTick_keepsView s
  | thrust => exact .whenever s _ (thrustTick_touches s).keepsView
  | gear => exact (gearTick_touches s).keepsView
  | metering => exact (meterTick_touches s).keepsView
  | standbyTest => exact standbyTest_keepsView s

theorem tickParts_keepsView (l : List TickPart) : ∀ s : State, KeepsView s (s.tickParts l) := by
  induction l with
  | nil => exact KeepsView.refl
  | cons p ps ih => intro s; exact (tickPart_keepsView s p).trans (ih _)

theorem controlTick_keepsView (s : State) (l : List TickPart) : KeepsView s (s.controlTick l) :=
  .whenever s _ (.trans .of_eq (tickParts_keepsView _ _))

/-! ## Every command -/

/-- A command's answer once its time has passed: the clock is no part of the view. -/
theorem next_of_moves {s t : State} (dt : Micros) (h : ViewMoves (s.advance dt) t) :
    ∃ u, (.next t : Host.Outcome State Fault Refusal) = .next u ∧ ViewMoves s u :=
  ⟨t, rfl, h⟩

theorem next_of_keeps {s t : State} (dt : Micros) (h : KeepsView (s.advance dt) t) :
    ∃ u, (.next t : Host.Outcome State Fault Refusal) = .next u ∧ ViewMoves s u :=
  next_of_moves dt h.moves

theorem next_of_touches {s t : State} {ps : List Part} (dt : Micros) (h : OnlyTouches ps (s.advance dt) t)
    (n : Part.demand ∉ ps := by decide) :
    ∃ u, (.next t : Host.Outcome State Fault Refusal) = .next u ∧ ViewMoves s u :=
  next_of_keeps dt (h.keepsView n)

/-- Every command but the resets leaves the view as it was or moves it to a candidate preferred to it (R17): the
candidates come with a frame, a claim at the con request input or at the request timer, and the entry to ACTIVE. -/
theorem exec_viewMoves (c : Instr) (s : State) (r : isReset c = false) :
    ∃ t, exec c s = .next t ∧ ViewMoves s t := by
  cases c with
  | powerOnReset | resetLineReset => nomatch r
  | demand dt | conRequest dt | conGrant dt | conDecline dt | conTake dt | propState dt | strain dt | fuel dt
  | account dt | alert dt | ack dt | roster dt | standby dt | wake dt =>
    exact next_of_moves dt (takeFrame_viewMoves _ _)
  | receiveError dt bits => exact next_of_moves dt (takeBits_viewMoves _ bits)
  | joinTimeExpiry dt => exact next_of_moves dt (joinExpiry_viewMoves _)
  | conRequestInput dt on => exact next_of_moves dt (.whenever _ _ (conRequestChange_viewMoves _ on))
  | requestTimerExpiry dt => exact next_of_moves dt (requestExpiry_viewMoves _)
  | referenceCheckComplete dt result => exact next_of_keeps dt (referenceDone_keepsView _ result)
  | controlTick dt order tank =>
    exact next_of_keeps dt ((selectTank_touches _ tank).keepsView.trans (controlTick_keepsView _ order))
  | demandTimeoutExpiry dt => exact next_of_keeps dt (timeoutExpiry_keepsView _)
  | holdTimeExpiry dt => exact next_of_keeps dt (holdExpiry_keepsView _)
  | helmSwitchChange dt mode economy stopAll =>
    exact next_of_keeps dt (.whenever _ _ (switchChange_keepsView _ mode economy stopAll))
  | wireBrokenInput dt on => exact next_of_keeps dt (.whenever _ _ (wireChange_keepsView _ on))
  | acknowledgeInput dt on => exact next_of_keeps dt (ackChange_keepsView _ on)
  | sequenceCompletion dt a0 a1 reference =>
    exact next_of_keeps dt ((sequenceComplete_keepsView _).trans (setLevels_touches _ _).keepsView)
  | configWatch dt damage => exact next_of_keeps dt (watchRun_keepsView _ damage)
  | wakeInput dt on =>
    refine next_of_keeps dt ?_
    split
    · exact wakeChange_keepsView _ 7 on
    · exact wakeChange_keepsView _ 2 on
    · exact .refl _
    · exact .refl _
  | configReadComplete dt bytes => exact next_of_touches dt (configRead_touches _ bytes)
  | sweep dt => exact next_of_touches dt (sweepEvent_touches _)
  | fragment dt cause bits => exact next_of_touches dt (fragment_touches _ cause bits)
  | receptionStart dt => exact next_of_touches dt (receptionStart_touches _)
  | lineQuiet found => exact next_of_touches found.dt (lineQuiet_touches _ found.bits)
  | transmitStart dt tank =>
    exact next_of_touches dt ((selectTank_touches _ tank).mono.trans (transmitStart_touches _).mono
      : OnlyTouches [.lines, .coup, .alerts, .link] _ _)
  | backoffEnd dt tank =>
    exact next_of_touches dt ((selectTank_touches _ tank).mono.trans (backoffEnd_touches _).mono
      : OnlyTouches [.lines, .coup, .alerts, .link] _ _)
  | collision dt => exact next_of_touches dt (collide_touches _)
  | jamEnd dt => exact next_of_touches dt (jamEnd_touches _)
  | transmitFault dt => exact next_of_touches dt (transmitFault_touches _)
  | sentEnd dt => exact next_of_touches dt (sentEnd_touches _)
  | txLossExpiry dt => exact next_of_touches dt (lossExpiry_touches _)
  | demandIntervalExpiry dt => exact next_of_touches dt (demandIntervalEnd_touches _)
  | standbySwitch dt on =>
    exact next_of_touches dt (whenever_touches _ _ (standbySwitchChange_touches _ on))
  | rosterClearInput dt on => exact next_of_touches dt (whenever_touches _ _ (rosterClearChange_touches _ on))
  | stationLag dt => exact next_of_touches dt (lagExpiry_touches _)
  | economyTrimEvaluation dt => exact next_of_touches dt (economyEvent_touches _)
  | engineReadyChange dt on => exact next_of_touches dt (whenever_touches _ _ (readyChange_touches _ on))
  | gearFeedbackChange dt ahead astern =>
    exact next_of_touches dt (whenever_touches _ _ (gearFeedback_touches _ ahead astern))
  | gearFeedbackTimerExpiry dt => exact next_of_touches dt (gearFeedbackExpiry_touches _)
  | releaseTimerExpiry dt => exact next_of_touches dt (releaseExpiry_touches _)
  | dwellExpiry dt => exact next_of_touches dt (dwellEnd_touches _)
  | captureEdge dt ch => exact next_of_touches dt (edge_touches _ ch)
  | noiseTimerExpiry dt ch => exact next_of_touches dt (noiseExpiry_touches _ ch)
  | stampExpiry dt ch => exact next_of_touches dt (stampExpiry_touches _ ch)
  | shaftPulseTimeout dt => exact next_of_touches dt (pulseTimeout_touches _)
  | noPulseWatchExpiry dt => exact next_of_touches dt (watchExpiry_touches _)
  | settleTimerExpiry dt => exact next_of_touches dt (settleExpiry_touches _)
  | deviationStartExpiry dt => exact next_of_touches dt (deviationExpiry_touches _)
  | agreementStartExpiry dt => exact next_of_touches dt (agreementExpiry_touches _)
  | valveSenseChange dt port starboard =>
    exact next_of_touches dt (whenever_touches _ _ (valveSense_touches _ port starboard))
  | rudderFollowTimerExpiry dt => exact next_of_touches dt (followExpiry_touches _)
  | rudderSpread dt => exact next_of_touches dt (spreadExpiry_touches _)
  | winchLockoutInput dt on => exact next_of_touches dt (whenever_touches _ _ (lockoutChange_touches _ on))
  | slackDwellExpiry dt => exact next_of_touches dt (dwellExpiry_touches _)
  | runTimerExpiry dt => exact next_of_touches dt (runExpiry_touches _)
  | winchSettleExpiry dt => exact next_of_touches dt (settleEnd_touches _)
  | strainIntervalExpiry dt => exact next_of_touches dt (strainExpiry_touches _)
  | stateIntervalExpiry dt => exact next_of_touches dt (stateExpiry_touches _)
  | fuelRateEvaluation dt => exact next_of_touches dt (rateEvent_touches _)
  | flowWatchExpiry dt => exact next_of_touches dt (flowExpiry_touches _)
  | fuelIntervalExpiry dt => exact next_of_touches dt (fuelExpiry_touches _)
  | accountIntervalExpiry dt => exact next_of_touches dt (accountExpiry_touches _)
  | tankFilledInput dt tank on => exact next_of_touches dt (whenever_touches _ _ (fillChange_touches _ tank on))
  | fuelDiscontinuityExpiry dt => exact next_of_touches dt (discontinuityExpiry_touches _)
  | repeatTimerExpiry dt => exact next_of_touches dt (repeatExpiry_touches _)
  | sequenceStart dt => exact next_of_touches dt (sequenceStart_touches _)
  | overrunExpiry dt => exact next_of_touches dt (overrunEnd_touches _)
  | periodStart dt => exact next_of_touches dt (startPeriod_touches _)

/-- Settles O14: the resets give the view, `offerView` alone moves it, and each command offers at most one candidate. -/
theorem conViewRule : Obligations.ConViewRule := by
  unfold Obligations.ConViewRule
  refine ⟨fun s pins addr lines => ⟨?powerOn, ?resetLine⟩, ?test, ?offer, exec_viewMoves, ?settled⟩
  case powerOn => exact ⟨_, rfl, resetTo_view s .powerOn pins addr lines⟩
  case resetLine => exact ⟨_, rfl, resetTo_view s .resetLine pins addr lines⟩
  case test => intro v h e; rw [preferred_iff, newer_iff]
  case offer => exact fun s h e => ⟨offerView_of_preferred, offerView_of_not_preferred⟩
  case settled => exact fun s h k e n l => ⟨offerView_lower_first n l, offerView_lower_second n l⟩

end Sys2Proof.Machine
end

section
/-! SUPPORT. The end of the neutral dwell (R67): a gear that drives nothing has X and the duty at 0, so that the
entry to another state changes the gear alone, and which state the dwell chooses. -/

namespace Sys2Proof.Machine

/-! ## The drive at rest (R38, R48, R61) -/

/-- No thrust asks no duty (R48). -/
@[simp] theorem dutyOf_zero (g : GearState) (rated : Nat) : dutyOf g 0 rated = 0 := by
  simp [dutyOf]

/-- X and the duty are at 0. -/
def AtRest (s : State) : Prop := s.thrust.x = 0 ∧ s.thrust.duty = 0

/-- A gear that is not engaged drives nothing (R38). -/
theorem ThrustInv.atRest {s : State} (h : ThrustInv s) (hp : s.isProp = true)
    (hg : engaged s.gear.state = false) : AtRest s := by
  obtain ⟨hx, -, -, hduty, -⟩ := h hp
  have still : s.thrust.x = 0 := hx.resolve_right fun ⟨he, _⟩ => by simp [hg] at he
  exact ⟨still, hduty still⟩

/-- At rest a gear state that is set changes the gear alone: X stays 0 and the duty is found as it was. -/
theorem setDrive_of_atRest {s : State} (h : AtRest s) (g : GearState) :
    s.setDrive s.thrust.x g = { s with gear := { s.gear with state := g } } := by
  have duty_kept : (if s.thrust.x = s.thrust.x ∧ g = s.gear.state then s.thrust.duty
      else dutyOf g s.thrust.x (s.param Param.ratedThrust)) = s.thrust.duty := by
    simp [h.1, h.2]
  unfold State.setDrive
  dsimp only
  rw [duty_kept]
  simp

/-- At rest a change of the gear state outside GEAR_FAULT leaves the availability and all else alone (R50, R61). -/
theorem setGear_of_atRest {s : State} (h : AtRest s) {g : GearState} (hs : s.gear.state ≠ .gearFault)
    (hg : g ≠ .gearFault) : s.setGear g = { s with gear := { s.gear with state := g } } := by
  have x_kept : (if engaged s.gear.state && !engaged g then 0 else s.thrust.x) = s.thrust.x := by
    simp [h.1]
  simp only [State.setGear, x_kept, setDrive_of_atRest h]
  simp [hs, hg]

theorem enterGear_of_atRest {s : State} (h : AtRest s) {g : GearState} (hs : s.gear.state ≠ .gearFault)
    (hg : g ≠ .gearFault) :
    s.enterGear g = { s with
      gear := { s.gear.entry s.clock (ms (s.param Param.neutralDwell)) g with state := g } } :=
  have entered : AtRest { s with gear := s.gear.entry s.clock (ms (s.param Param.neutralDwell)) g } := h
  setGear_of_atRest entered hs hg

/-! ## The solenoids (R60, R179) -/

theorem discrete_ahead {s : State} (hp : s.isProp = true) :
    s.discrete 0 = (!s.station.safe && aheadSolenoid s.gear.state) := by
  simp [State.discrete, State.ownerSetting, (isProp_iff s).mp hp]

theorem discrete_astern {s : State} (hp : s.isProp = true) :
    s.discrete 1 = (!s.station.safe && asternSolenoid s.gear.state) := by
  simp [State.discrete, State.ownerSetting, (isProp_iff s).mp hp]

/-! ## The choice at the end of the dwell (R67) -/

theorem engagingFor_eq_or (target : Int) :
    engagingFor target = .engagingAhead ∨ engagingFor target = .engagingAstern := by
  unfold engagingFor
  split
  · exact .inl rfl
  · exact .inr rfl

theorem afterDwell_eq_or (standby stopAll : Bool) (target : Int) :
    afterDwell standby stopAll target = .neutral ∨ afterDwell standby stopAll target = .engagingAhead ∨
      afterDwell standby stopAll target = .engagingAstern := by
  unfold afterDwell
  split
  · exact .inl rfl
  · exact .inr (engagingFor_eq_or target)

/-- The dwell's choice by the conditions that R67 names. -/
theorem afterDwell_station (station : StationState) (stopAll : Bool) (target : Int) :
    afterDwell (station == .standby) stopAll target =
      if station = .standby ∨ stopAll = true ∨ target = 0 then .neutral
      else if 0 < target then .engagingAhead else .engagingAstern := by
  simp [afterDwell, engagingFor, or_assoc]

/-- The state that the dwell chooses waits for a feedback unless it is NEUTRAL, and starts no second dwell. -/
theorem entry_afterDwell (u : GearUnit) (now : Clock) (dwell : Micros) (standby stopAll : Bool) (target : Int) :
    u.entry now dwell (afterDwell standby stopAll target) = { u with
      release := .none, releaseTimer := none, dwellTimer := none,
      feedbackTimer := if afterDwell standby stopAll target = .neutral then none else startTimer now (sec 3) } := by
  rcases afterDwell_eq_or standby stopAll target with h | h | h <;> rw [h] <;> rfl

/-- The expiry of a running dwell with the drive at rest: the gear alone changes (R67). -/
theorem dwellEnd_of_due {s : State} (hp : s.isProp = true) (hsup : s.gear.supervised = true)
    (hact : s.station.acting = true) (hg : s.gear.state = .dwell) (hdue : due s.gear.dwellTimer s.clock = true)
    (hrest : AtRest s) {next : GearState}
    (hnext : afterDwell (s.station == .standby) s.demand.record.demand.stopAll s.thrust.lastTarget = next) :
    s.dwellEnd = { s with
      gear := { s.gear with
        state := next, release := .none, releaseTimer := none, dwellTimer := none,
        feedbackTimer := if next = .neutral then none else startTimer s.clock (sec 3) } } := by
  subst hnext
  have fault_free :
      afterDwell (s.station == .standby) s.demand.record.demand.stopAll s.thrust.lastTarget ≠ .gearFault := by
    rcases afterDwell_eq_or (s.station == .standby) s.demand.record.demand.stopAll s.thrust.lastTarget
      with h | h | h <;> rw [h] <;> decide
  have expired : (s.isProp && s.gear.supervised && s.station.acting && s.gear.state == .dwell
      && due s.gear.dwellTimer s.clock) = true := by simp [hp, hsup, hact, hg, hdue]
  unfold State.dwellEnd
  rw [whenever_pos expired, enterGear_of_atRest hrest (by simp [hg]) fault_free, entry_afterDwell]

theorem exec_dwellExpiry (dt : Micros) (s : State) : exec (.dwellExpiry dt) s = .next (s.advance dt).dwellEnd := rfl

/-- Settles O47: DWELL drives no solenoid and no thrust, so its expiry changes the gear alone, by the last target as it
stands. -/
theorem dwellChoosesTheDirection : Obligations.DwellChoosesTheDirection := by
  unfold Obligations.DwellChoosesTheDirection
  intro s dt hp hsup hact hinv hg hdue
  have hrest : AtRest s := hinv.atRest hp (by rw [hg]; rfl)
  refine ⟨?ahead, ?astern, ?expiry⟩
  case ahead => rw [discrete_ahead hp, hg]; exact Bool.and_false _
  case astern => rw [discrete_astern hp, hg]; exact Bool.and_false _
  case expiry =>
    have chosen := afterDwell_station s.station s.demand.record.demand.stopAll s.thrust.lastTarget
    rw [exec_dwellExpiry, dwellEnd_of_due (s := s.advance dt) hp hsup hact hg hdue hrest chosen]
    rfl

end Sys2Proof.Machine
end

section
/-! SUPPORT. The random residue (R150): the generator is one to one, each operation but the draw leaves the residue
alone, and only the end of a jam draws. -/

namespace Sys2Proof.Machine

-- As in Laws/Touches.lean: one theorem at a time.
set_option Elab.async false

/-! ## The generator -/

/-- The feedback enters at bit 0. -/
theorem randomStep_getLsbD_zero (r : Word) :
    (randomStep r).getLsbD 0 = (((r.getLsbD 15 ^^ r.getLsbD 13) ^^ r.getLsbD 12) ^^ r.getLsbD 10) := by
  unfold randomStep
  generalize (((r.getLsbD 15 ^^ r.getLsbD 13) ^^ r.getLsbD 12) ^^ r.getLsbD 10) = x
  cases x <;> simp

/-- Every other bit moves up by one. -/
theorem randomStep_getLsbD_succ (r : Word) {i : Nat} (h : i < 15) :
    (randomStep r).getLsbD (i + 1) = r.getLsbD i := by
  have shifted : (r <<< 1).getLsbD (i + 1) = r.getLsbD i := by simp; omega
  unfold randomStep
  dsimp only
  split <;> simp [shifted]

/-- A step loses nothing: bits 0 to 14 stand one place up, and the feedback gives bit 15 back. -/
theorem randomStep_injective : Function.Injective randomStep := by
  intro a b h
  have low : ∀ i, i < 15 → a.getLsbD i = b.getLsbD i := fun i hi => by
    rw [← randomStep_getLsbD_succ a hi, h, randomStep_getLsbD_succ b hi]
  have feedback := randomStep_getLsbD_zero a
  rw [h, randomStep_getLsbD_zero b, low 13 (by decide), low 12 (by decide), low 10 (by decide)] at feedback
  have top : a.getLsbD 15 = b.getLsbD 15 := by simpa using feedback.symm
  refine BitVec.eq_of_getLsbD_eq fun i hi => ?_
  rcases Nat.lt_succ_iff_lt_or_eq.mp hi with below | rfl
  · exact low i below
  · exact top

theorem randomSteps_injective (n : Nat) : Function.Injective (randomSteps n) := by
  induction n with
  | zero => exact Function.injective_id
  | succ n ih => exact ih.comp randomStep_injective

theorem randomSeed_toNat (a : Addr) : (randomSeed a).toNat = 0x5A00 + a.val + 1 := by
  unfold randomSeed
  rw [BitVec.toNat_ofNat]
  omega

theorem randomSeed_injective : Function.Injective randomSeed := by
  intro a b h
  have seeds := congrArg BitVec.toNat h
  rw [randomSeed_toNat, randomSeed_toNat] at seeds
  exact Fin.ext (by omega)

/-! ## The random residue over a change -/

/-- The random residue stands as it was. -/
def KeepsRandom (s t : State) : Prop := t.comms.link.random = s.comms.link.random

theorem KeepsRandom.refl (s : State) : KeepsRandom s s := rfl

/-- A change of other fields, or of the link unit beside its random residue. -/
theorem KeepsRandom.of_eq {s t : State} (h : t.comms.link.random = s.comms.link.random := by rfl) :
    KeepsRandom s t := h

theorem KeepsRandom.trans {s t u : State} (h : KeepsRandom s t) (k : KeepsRandom t u) : KeepsRandom s u :=
  Eq.trans k h

theorem KeepsRandom.ite {s t u : State} {c : Prop} [Decidable c] (h : KeepsRandom s t) (k : KeepsRandom s u) :
    KeepsRandom s (if c then t else u) := by
  split <;> assumption

theorem KeepsRandom.whenever {f : State → State} (s : State) (p : Bool) (h : KeepsRandom s (f s)) :
    KeepsRandom s (s.whenever p f) :=
  .ite h (.refl s)

/-- What leaves the link alone leaves its random residue alone. -/
theorem OnlyTouches.keepsRandom {ps : List Part} {s t : State} (h : OnlyTouches ps s t)
    (n : Part.link ∉ ps := by decide) : KeepsRandom s t :=
  congrArg LinkUnit.random (h.link n)

/-! ## Reports (sections 8.2, 9.6): of the link the queue, the transmitter and the last loss alone change -/

theorem ReportOnly.keepsRandom {s t : State} (h : ReportOnly s t) : KeepsRandom s t := by
  obtain ⟨-, link, -⟩ := h
  unfold KeepsRandom
  rw [link]

theorem Comms.Kept.random {m n : Comms} (k : Comms.Kept m n) : n.link.random = m.link.random := by
  rw [k.link]

theorem raise_keepsRandom (s : State) (c : AlertCode) : KeepsRandom s (s.raise c) :=
  (raise_raises s c).1.keepsRandom

theorem raiseNew_keepsRandom (s : State) (c : AlertCode) : KeepsRandom s (s.raiseNew c) := by
  have h := raiseNew_raised s c
  unfold Raised at h
  split at h
  · rw [h]; exact .refl s
  · exact h.1.keepsRandom

theorem clear_keepsRandom (s : State) (c : AlertCode) : KeepsRandom s (s.clear c) := by
  have h := clear_ended s c
  unfold Ended at h
  split at h
  · exact h.1.keepsRandom
  · rw [h]; exact .refl s

theorem follow_keepsRandom (s : State) (c : AlertCode) (b : Bool) : KeepsRandom s (s.follow c b) :=
  .ite (raiseNew_keepsRandom s c) (clear_keepsRandom s c)

theorem followChange_keepsRandom (s : State) (c : AlertCode) (was b : Bool) :
    KeepsRandom s (s.followChange c was b) :=
  .ite (.refl s) (follow_keepsRandom s c b)

theorem relist_keepsRandom (s : State) (l : List AlertEntry) : KeepsRandom s (s.relist l) :=
  (relist_relisted s l).1.keepsRandom

theorem Comms.offer_random (m : Comms) (st : StationState) (now : Clock) (w : Waiting) :
    (m.offer st now w).link.random = m.link.random := by
  unfold Comms.offer
  split
  · exact (afterLoss_kept _ _ _ _).random
  · rfl

theorem offer_keepsRandom (s : State) (k : FrameKind) (c : Fin 4) : KeepsRandom s (s.offer k c) :=
  Comms.offer_random _ _ _ _

theorem offerWith_keepsRandom (s : State) (c : Fin 4) (p : Payload) : KeepsRandom s (s.offerWith c p) :=
  Comms.offer_random _ _ _ _

theorem offerAlert_keepsRandom (s : State) : KeepsRandom s s.offerAlert := offer_keepsRandom s _ _

/-! ## Peer table (chapter 1) -/

theorem judgeConflict_keepsRandom (s : State) (was : Bool) : KeepsRandom s (s.judgeConflict was) :=
  KeepsRandom.ite (c := s.station.reporting = true) (followChange_keepsRandom s _ was _) (.refl s)

theorem judgeSilent_keepsRandom (s : State) (was : Bool) : KeepsRandom s (s.judgeSilent was) :=
  KeepsRandom.ite (c := (s.station.reporting && (s.isHelm || s.isProp)) = true)
    (followChange_keepsRandom s _ was _) (.refl s)

theorem recordConflict_keepsRandom (s : State) (a : Addr) : KeepsRandom s (s.recordConflict a) :=
  .trans .of_eq (judgeConflict_keepsRandom _ _)

/-! ## Thrust unit and gear (chapters 3 and 4) -/

theorem judgeEngine_keepsRandom (s : State) : KeepsRandom s s.judgeEngine :=
  KeepsRandom.ite (c := (s.isProp && !s.line 2) = true) (raiseNew_keepsRandom s _) (.refl s)

theorem faultGear_keepsRandom (s : State) (c : AlertCode) : KeepsRandom s (s.faultGear c) :=
  (raise_keepsRandom s c).trans (enterGear_touches _ _).keepsRandom

theorem judgeFeedback_keepsRandom (s : State) : KeepsRandom s s.judgeFeedback := by
  unfold State.judgeFeedback
  split
  · exact faultGear_keepsRandom s _
  · exact faultGear_keepsRandom s _
  · exact (enterGear_touches s _).keepsRandom
  · exact .refl s

theorem superviseGear_keepsRandom (s : State) : KeepsRandom s s.superviseGear := by
  unfold State.superviseGear
  refine .trans (t := { s with gear := { s.gear with supervised := true } }) .of_eq ?_
  dsimp only
  split
  · exact (enterGear_touches _ _).keepsRandom
  · exact faultGear_keepsRandom _ _
  · exact (enterGear_touches _ _).keepsRandom
  · exact (enterGear_touches _ _).keepsRandom

theorem gearAnswer_keepsRandom (s : State) : KeepsRandom s s.gearAnswer := by
  unfold State.gearAnswer
  split
  · split
    · exact (enterGear_touches s _).keepsRandom
    all_goals exact raise_keepsRandom s _
  · exact .refl s

/-! ## Governor supervisor (section 4.7) -/

theorem followAvail_keepsRandom (s : State) (c : AlertCode) (b : Bool) : KeepsRandom s (s.followAvail c b) :=
  .ite (.refl s) ((follow_keepsRandom s c b).trans (refreshAvailability_touches _).keepsRandom)

theorem raiseAvail_keepsRandom (s : State) (c : AlertCode) : KeepsRandom s (s.raiseAvail c) :=
  (raise_keepsRandom s c).trans (refreshAvailability_touches _).keepsRandom

theorem judgeShaft_keepsRandom (s : State) : KeepsRandom s s.judgeShaft :=
  .whenever s _ (followAvail_keepsRandom s _ _)

theorem judgeOverspeed_keepsRandom (s : State) : KeepsRandom s s.judgeOverspeed :=
  .whenever s _ (raiseAvail_keepsRandom s _)

theorem setSpeed_keepsRandom (s : State) (r : Nat) : KeepsRandom s (s.setSpeed r) :=
  .ite (.refl s) (.trans .of_eq ((judgeOverspeed_keepsRandom _).trans
    (.whenever _ _ (followJudgement_touches _).keepsRandom)))

theorem shaftEdge_keepsRandom (s : State) (p : Option Nat) : KeepsRandom s (s.shaftEdge p) := by
  cases p with
  | none => exact .trans .of_eq (judgeShaft_keepsRandom _)
  | some p => exact .trans .of_eq ((judgeShaft_keepsRandom _).trans (setSpeed_keepsRandom _ _))

theorem judgeReady_keepsRandom (s : State) (on : Bool) : KeepsRandom s (s.judgeReady on) :=
  .ite (.whenever s _ (clear_keepsRandom s _)) (.whenever s _ (raiseNew_keepsRandom s _))

theorem readyChange_keepsRandom (s : State) (on : Bool) : KeepsRandom s (s.readyChange on) :=
  .ite (.refl s) (.trans .of_eq ((judgeReady_keepsRandom _ _).trans (refreshAvailability_touches _).keepsRandom))

theorem superviseGovernor_keepsRandom (s : State) : KeepsRandom s s.superviseGovernor :=
  .trans .of_eq ((judgeShaft_keepsRandom _).trans (judgeOverspeed_keepsRandom _))

/-! ## Steering unit (chapter 5) -/

theorem driveRunning_keepsRandom (s : State) (b : Bool) : KeepsRandom s (s.driveRunning b) :=
  .ite (.trans .of_eq (clear_keepsRandom _ _)) (.ite .of_eq (.ite .of_eq (.ite (.refl s) .of_eq)))

theorem driveStep_keepsRandom (s : State) : KeepsRandom s s.driveStep := by
  unfold State.driveStep
  split
  · exact (driveStopped_touches s).keepsRandom
  · exact driveRunning_keepsRandom s _
  · exact driveRunning_keepsRandom s _
  · exact .refl s

theorem feedbackFault_keepsRandom (s : State) : KeepsRandom s s.feedbackFault :=
  .ite (.refl s) ((raiseNew_keepsRandom s _).trans (.trans .of_eq (inhibitDrive_touches _).keepsRandom))

theorem valveInterlock_keepsRandom (s : State) : KeepsRandom s s.valveInterlock :=
  (raise_keepsRandom s _).trans (.trans .of_eq (inhibitDrive_touches _).keepsRandom)

theorem feedbackEnd_keepsRandom (s : State) : KeepsRandom s s.feedbackEnd :=
  .ite ((clear_keepsRandom s _).trans .of_eq) (.refl s)

theorem spreadStep_keepsRandom (s : State) : KeepsRandom s s.spreadStep := by
  unfold State.spreadStep
  split
  · exact .of_eq
  · exact .trans .of_eq (clear_keepsRandom _ _)
  · exact .trans .of_eq (clear_keepsRandom _ _)

theorem rudderStep_keepsRandom (s : State) : KeepsRandom s s.rudderStep :=
  (feedbackEnd_keepsRandom s).trans (.trans .of_eq ((driveStep_keepsRandom _).trans (spreadStep_keepsRandom _)))

theorem rudderFault_keepsRandom (s : State) : KeepsRandom s s.rudderFault :=
  .ite (.refl s) ((feedbackFault_keepsRandom s).trans .of_eq)

theorem rudderDelivery_keepsRandom (s : State) (r : Raw) (ok : Bool) : KeepsRandom s (s.rudderDelivery r ok) :=
  .ite (.trans .of_eq (.whenever _ _ (rudderStep_keepsRandom _))) (.whenever s _ (rudderFault_keepsRandom s))

theorem superviseSteering_keepsRandom (s : State) : KeepsRandom s s.superviseSteering :=
  .trans .of_eq (.ite
    ((KeepsRandom.ite (valveInterlock_keepsRandom _) (.refl _)).trans (feedbackFault_keepsRandom _))
    (.ite (valveInterlock_keepsRandom _) (.refl _)))

/-! ## Winch (section 6.6) -/

theorem winchRun_keepsRandom (s : State) : KeepsRandom s s.winchRun :=
  .trans .of_eq (raise_keepsRandom _ _)

theorem drumEdge_keepsRandom (s : State) : KeepsRandom s s.drumEdge :=
  .whenever s _ (.trans .of_eq (.whenever _ _ (winchRun_keepsRandom _)))

/-! ## Standing by (section 12.5) -/

theorem propStandby_keepsRandom (s : State) : KeepsRandom s s.propStandby :=
  (clear_keepsRandom s _).trans (.trans .of_eq ((offer_keepsRandom _ _ _).trans (offer_keepsRandom _ _ _)))

theorem propReturn_keepsRandom (s : State) : KeepsRandom s s.propReturn :=
  .trans .of_eq ((offer_keepsRandom _ _ _).trans (judgeEngine_keepsRandom _))

theorem offerStrain_keepsRandom (s : State) : KeepsRandom s s.offerStrain := offer_keepsRandom s _ _

theorem coupReturn_keepsRandom (s : State) : KeepsRandom s s.coupReturn :=
  .trans .of_eq ((offerStrain_keepsRandom _).trans (winchCauses_touches _).keepsRandom)

theorem judgeCoupStandby_keepsRandom (s : State) : KeepsRandom s s.judgeCoupStandby :=
  .whenever s _ (.trans .of_eq (offerStrain_keepsRandom _))

theorem standbyByClass_keepsRandom (s : State) : KeepsRandom s s.standbyByClass :=
  .ite (coupReturn_keepsRandom s) (judgeCoupStandby_keepsRandom s)

theorem setRequest_keepsRandom (s : State) : KeepsRandom s s.setRequest :=
  .ite (.refl s) (.trans .of_eq (judgeCoupStandby_keepsRandom _))

theorem clearRequest_keepsRandom (s : State) : KeepsRandom s s.clearRequest :=
  .ite (.ite (.trans .of_eq (propReturn_keepsRandom _)) (.ite (.trans .of_eq (coupReturn_keepsRandom _)) .of_eq))
    .of_eq

theorem wakeChange_keepsRandom (s : State) (i : Fin 16) (on : Bool) : KeepsRandom s (s.wakeChange i on) :=
  .trans .of_eq (.whenever _ _ (clearRequest_keepsRandom _))

/-! ## Coupling unit (chapter 6) -/

theorem markOnset_keepsRandom (s : State) : KeepsRandom s s.markOnset := .of_eq

theorem clearClass_keepsRandom (s : State) (c : StrainClass) : KeepsRandom s (s.clearClass c) := by
  unfold State.clearClass
  split
  · exact clear_keepsRandom s _
  · exact .refl s

theorem raiseClass_keepsRandom (s : State) (c : StrainClass) : KeepsRandom s (s.raiseClass c) := by
  unfold State.raiseClass
  split
  · exact raiseNew_keepsRandom s _
  · exact .refl s

theorem reportClass_keepsRandom (s : State) : KeepsRandom s s.reportClass :=
  (offerStrain_keepsRandom s).trans ((judgeWinch_touches _).keepsRandom.trans (standbyByClass_keepsRandom _))

theorem changeClass_keepsRandom (s : State) (c : StrainClass) : KeepsRandom s (s.changeClass c) :=
  .ite (.refl s) ((clearClass_keepsRandom s _).trans (.trans .of_eq ((raiseClass_keepsRandom _ _).trans
    ((KeepsRandom.ite (markOnset_keepsRandom _) (.refl _)).trans (reportClass_keepsRandom _)))))

theorem partedOnset_keepsRandom (s : State) : KeepsRandom s s.partedOnset :=
  (KeepsRandom.ite (.refl s) (clearClass_keepsRandom s _)).trans (.trans .of_eq ((raise_keepsRandom _ _).trans
    ((markOnset_keepsRandom _).trans (reportClass_keepsRandom _))))

theorem partedAnswer_keepsRandom (s : State) : KeepsRandom s s.partedAnswer :=
  .ite ((raise_keepsRandom s _).trans ((markOnset_keepsRandom _).trans (offerStrain_keepsRandom _)))
    (.trans .of_eq (changeClass_keepsRandom _ _))

theorem judgeClass_keepsRandom (s : State) : KeepsRandom s s.judgeClass :=
  .ite (.trans .of_eq (changeClass_keepsRandom _ _)) .of_eq

theorem tensionInRange_keepsRandom (s : State) (t : Nat) : KeepsRandom s (s.tensionInRange t) :=
  (KeepsRandom.whenever s _ (clear_keepsRandom s _)).trans (.trans .of_eq
    ((KeepsRandom.ite (partedOnset_keepsRandom _) (.ite .of_eq (judgeClass_keepsRandom _))).trans
      ((judgeWinch_touches _).keepsRandom.trans (hauledTaut_touches _).keepsRandom)))

theorem tensionFault_keepsRandom (s : State) : KeepsRandom s s.tensionFault :=
  .whenever s _ ((raiseNew_keepsRandom s _).trans (judgeWinch_touches _).keepsRandom)

theorem tensionDelivery_keepsRandom (s : State) (r : Raw) (ok : Bool) : KeepsRandom s (s.tensionDelivery r ok) :=
  .whenever s _ (.ite (tensionInRange_keepsRandom s _) (tensionFault_keepsRandom s))

theorem superviseClass_keepsRandom (s : State) : KeepsRandom s s.superviseClass :=
  .ite ((raiseClass_keepsRandom s _).trans ((markOnset_keepsRandom _).trans (offerStrain_keepsRandom _)))
    (raiseClass_keepsRandom s _)

theorem superviseCoupling_keepsRandom (s : State) : KeepsRandom s s.superviseCoupling :=
  .trans .of_eq ((KeepsRandom.ite (raiseNew_keepsRandom _ _) (.refl _)).trans ((superviseClass_keepsRandom _).trans
    ((KeepsRandom.ite (partedOnset_keepsRandom _) (.refl _)).trans (winchCauses_touches _).keepsRandom)))

/-! ## Fuel unit (chapter 7) -/

theorem meterTick_keepsRandom (s : State) : KeepsRandom s s.meterTick :=
  .whenever s _ (.trans .of_eq (.whenever _ _ (follow_keepsRandom _ _ _)))

theorem judgeFlow_keepsRandom (s : State) : KeepsRandom s s.judgeFlow :=
  .whenever s _ (follow_keepsRandom s _ _)

theorem superviseFuel_keepsRandom (s : State) : KeepsRandom s s.superviseFuel :=
  (KeepsRandom.whenever s _ (raiseNew_keepsRandom s _)).trans (.trans .of_eq (judgeFlow_keepsRandom _))

theorem judgeTankLow_keepsRandom (s : State) : KeepsRandom s s.judgeTankLow :=
  .whenever s _ (follow_keepsRandom s _ _)

theorem setHolderLow_keepsRandom (s : State) (h : Option (Tab 4 Bool)) : KeepsRandom s (s.setHolderLow h) :=
  .trans .of_eq (judgeTankLow_keepsRandom _)

theorem discontinuity_keepsRandom (s : State) : KeepsRandom s s.discontinuity :=
  .trans .of_eq (.whenever _ _ (raiseNew_keepsRandom _ _))

theorem takeFuel_keepsRandom (s : State) (a : Addr) (p : FuelFields) : KeepsRandom s (s.takeFuel a p) :=
  .whenever s _ (.trans .of_eq ((KeepsRandom.ite (discontinuity_keepsRandom _) (.refl _)).trans
    (judgeTankLow_keepsRandom _)))

theorem recordFill_keepsRandom (s : State) (k : Fin 4) : KeepsRandom s (s.recordFill k) :=
  .trans .of_eq (judgeTankLow_keepsRandom _)

theorem superviseAccount_keepsRandom (s : State) : KeepsRandom s s.superviseAccount :=
  (KeepsRandom.whenever s _ (raiseNew_keepsRandom s _)).trans ((judgeTankLow_keepsRandom _).trans .of_eq)

/-! ## Convoy alert view (section 8.6) -/

theorem judgeViewRoom_keepsRandom (s : State) : KeepsRandom s s.judgeViewRoom :=
  .whenever s _ (clear_keepsRandom s _)

theorem takeAlert_keepsRandom (s : State) (a : Addr) (p : AlertFields) : KeepsRandom s (s.takeAlert a p) :=
  .whenever s _ (.trans .of_eq ((KeepsRandom.whenever _ _ (raiseNew_keepsRandom _ _)).trans
    ((judgeViewRoom_keepsRandom _).trans (.whenever _ _ (offer_keepsRandom _ _ _)))))

theorem forgetItems_keepsRandom (s : State) (l : List Nat) : KeepsRandom s (s.forgetItems l) :=
  .whenever s _ (.trans .of_eq (judgeViewRoom_keepsRandom _))

theorem requestView_keepsRandom (s : State) : KeepsRandom s s.requestView :=
  .whenever s _ (.trans .of_eq (.whenever _ _ (offer_keepsRandom _ _ _)))

theorem nextAck_keepsRandom (s : State) : KeepsRandom s s.nextAck :=
  .whenever s _ (offer_keepsRandom s _ _)

/-! ## Demand unit (chapter 2) -/

theorem foundDemand_keepsRandom (s : State) : KeepsRandom s s.foundDemand :=
  .whenever s _ (clear_keepsRandom s _)

theorem acceptDemand_keepsRandom (s : State) (p : DemandFields) : KeepsRandom s (s.acceptDemand p) :=
  .trans .of_eq ((foundDemand_keepsRandom _).trans (.whenever _ _ (clearRequest_keepsRandom _)))

theorem timeoutExpiry_keepsRandom (s : State) : KeepsRandom s s.timeoutExpiry :=
  .whenever s _ (.trans .of_eq ((KeepsRandom.whenever _ _ (raiseNew_keepsRandom _ _)).trans
    (judgeWinch_touches _).keepsRandom))

theorem judgeLagEnd_keepsRandom (s : State) : KeepsRandom s s.judgeLagEnd :=
  .whenever s _ (clear_keepsRandom s _)

theorem lagAll_keepsRandom (s : State) : KeepsRandom s s.lagAll := .trans .of_eq (judgeLagEnd_keepsRandom _)

theorem lagRenumber_keepsRandom (s : State) (n : Byte) : KeepsRandom s (s.lagRenumber n) :=
  .trans .of_eq (judgeLagEnd_keepsRandom _)

theorem lagOne_keepsRandom (s : State) (a : Addr) : KeepsRandom s (s.lagOne a) :=
  .whenever s _ (.trans .of_eq (judgeLagEnd_keepsRandom _))

theorem pruneLag_keepsRandom (s : State) : KeepsRandom s s.pruneLag :=
  .whenever s _ (.trans .of_eq (judgeLagEnd_keepsRandom _))

theorem queueStandby_keepsRandom (s : State) : KeepsRandom s s.queueStandby :=
  .trans .of_eq (offerWith_keepsRandom _ _ _)

theorem switchOn_keepsRandom (s : State) : KeepsRandom s s.switchOn :=
  .ite (queueStandby_keepsRandom s) .of_eq

theorem switchOff_keepsRandom (s : State) : KeepsRandom s s.switchOff :=
  .ite (.trans .of_eq (offerWith_keepsRandom _ _ _)) .of_eq

theorem renumber_keepsRandom (s : State) : KeepsRandom s s.renumber :=
  .trans .of_eq ((offer_keepsRandom _ _ _).trans ((lagRenumber_keepsRandom _ _).trans
    (.whenever _ _ (queueStandby_keepsRandom _))))

theorem testNumber_keepsRandom (s : State) : KeepsRandom s s.testNumber :=
  .whenever s _ (renumber_keepsRandom s)

theorem leverDelivery_keepsRandom (s : State) (a b : Raw) (x y : Bool) : KeepsRandom s (s.leverDelivery a b x y) :=
  .whenever s _ (.trans .of_eq ((KeepsRandom.whenever _ _ (follow_keepsRandom _ _ _)).trans
    (testNumber_keepsRandom _)))

theorem switchChange_keepsRandom (s : State) (m e : BitVec 2) (b : Bool) : KeepsRandom s (s.switchChange m e b) :=
  .trans .of_eq (.whenever _ _ (.trans .of_eq (testNumber_keepsRandom _)))

theorem enterHolding_keepsRandom (s : State) : KeepsRandom s s.enterHolding :=
  .trans .of_eq ((foundDemand_keepsRandom _).trans ((clear_keepsRandom _ _).trans
    ((setHolderLow_keepsRandom _ _).trans ((offer_keepsRandom _ _ _).trans ((lagAll_keepsRandom _).trans
      (.whenever _ _ (switchOn_keepsRandom _)))))))

theorem leaveHolding_keepsRandom (s : State) : KeepsRandom s s.leaveHolding :=
  .trans .of_eq (clear_keepsRandom _ _)

theorem conAfterView_keepsRandom (s : State) (h : Addr) : KeepsRandom s (s.conAfterView h) := by
  unfold State.conAfterView
  split
  · exact .ite (.refl s) ((leaveHolding_keepsRandom s).trans (.whenever _ _ (raiseNew_keepsRandom _ _)))
  · exact .ite (.refl s) .of_eq
  · exact .refl s

theorem offerView_keepsRandom (s : State) (h : Addr) (e : Byte) : KeepsRandom s (s.offerView h e) :=
  .ite (.trans .of_eq (.whenever _ _ ((setHolderLow_keepsRandom _ _).trans (conAfterView_keepsRandom _ _)))) (.refl s)

theorem takeCon_keepsRandom (s : State) : KeepsRandom s s.takeCon :=
  (offerWith_keepsRandom s _ _).trans ((offerView_keepsRandom _ _ _).trans (enterHolding_keepsRandom _))

theorem claimCon_keepsRandom (s : State) : KeepsRandom s s.claimCon := by
  unfold State.claimCon
  split
  · exact takeCon_keepsRandom s
  · exact .ite (takeCon_keepsRandom s) (.trans .of_eq (offerWith_keepsRandom _ _ _))

theorem requestExpiry_keepsRandom (s : State) : KeepsRandom s s.requestExpiry :=
  .whenever s _ (.ite (.trans .of_eq (takeCon_keepsRandom _)) .of_eq)

theorem grantCon_keepsRandom (s : State) (a : Addr) : KeepsRandom s (s.grantCon a) :=
  (offerWith_keepsRandom s _ _).trans ((leaveHolding_keepsRandom _).trans (offerView_keepsRandom _ _ _))

theorem routeRequest_keepsRandom (s : State) (a : Addr) (p : ConFields) : KeepsRandom s (s.routeRequest a p) :=
  .whenever s _ (.ite (grantCon_keepsRandom s a) (offerWith_keepsRandom s _ _))

theorem routeGrant_keepsRandom (s : State) (p : ConFields) : KeepsRandom s (s.routeGrant p) :=
  (offerView_keepsRandom s _ _).trans (.whenever _ _ (enterHolding_keepsRandom _))

theorem routeDemand_keepsRandom (s : State) (a : Addr) (p : DemandFields) : KeepsRandom s (s.routeDemand a p) :=
  (offerView_keepsRandom s a _).trans (.whenever _ _ (acceptDemand_keepsRandom _ p))

theorem superviseHelm_keepsRandom (s : State) : KeepsRandom s s.superviseHelm := by
  unfold State.superviseHelm
  refine (KeepsRandom.whenever (f := fun s => s.raiseNew .leverSignal) s
    (s.helm.thrustFault || s.helm.turnFault) (raiseNew_keepsRandom s .leverSignal)).trans ?_
  dsimp only
  split
  · exact .ite (takeCon_keepsRandom _) (.refl _)
  · exact .ite (enterHolding_keepsRandom _) (.refl _)

theorem leaveCon_keepsRandom (s : State) : KeepsRandom s s.leaveCon :=
  (KeepsRandom.ite (leaveHolding_keepsRandom s) (.refl s)).trans .of_eq

/-! ## Start unit (chapter 12) -/

theorem readComplete_keepsRandom (s : State) (bytes : List Byte) : KeepsRandom s (s.readComplete bytes) := by
  unfold State.readComplete
  split
  · exact .refl s
  · exact .ite (.trans .of_eq ((KeepsRandom.whenever _ _ (raise_keepsRandom _ _)).trans
      (conv_touches _ _).keepsRandom)) (.trans .of_eq (enterFailed_touches _).keepsRandom)

theorem enterJoining_keepsRandom (s : State) : KeepsRandom s s.enterJoining :=
  .trans .of_eq ((KeepsRandom.whenever _ _ (readSwitches_touches _).keepsRandom).trans
    ((refreshAvailability_touches _).keepsRandom.trans ((refreshStrain_touches _).keepsRandom.trans
      (applySafe_touches _).keepsRandom)))

theorem referenceDone_keepsRandom (s : State) (r : Raw) : KeepsRandom s (s.referenceDone r) :=
  .whenever s _ (.ite (.trans .of_eq (enterJoining_keepsRandom _))
    (.trans .of_eq (enterFailed_touches _).keepsRandom))

theorem entryDemand_keepsRandom (s : State) : KeepsRandom s s.entryDemand :=
  .whenever s _ (raiseNew_keepsRandom s _)

theorem entryHelm_keepsRandom (s : State) : KeepsRandom s s.entryHelm :=
  (superviseHelm_keepsRandom s).trans ((superviseAccount_keepsRandom _).trans
    (.whenever _ _ (raiseNew_keepsRandom _ _)))

theorem entryProp_keepsRandom (s : State) : KeepsRandom s s.entryProp :=
  (judgeEngine_keepsRandom s).trans (.trans .of_eq ((superviseGear_keepsRandom _).trans
    ((superviseGovernor_keepsRandom _).trans ((superviseSteering_keepsRandom _).trans
      (superviseFuel_keepsRandom _)))))

theorem entryUnits_keepsRandom (s : State) : KeepsRandom s s.entryUnits := by
  unfold State.entryUnits
  split
  · exact entryHelm_keepsRandom s
  · exact entryProp_keepsRandom s
  · exact superviseCoupling_keepsRandom s
  · exact .refl s

theorem entryCommon_keepsRandom (s : State) : KeepsRandom s s.entryCommon :=
  (KeepsRandom.whenever s _ (raiseNew_keepsRandom s _)).trans (.whenever _ _ (raiseNew_keepsRandom _ _))

theorem entryAlert_keepsRandom (s : State) : KeepsRandom s s.entryAlert :=
  .trans .of_eq (.whenever _ _ (offerAlert_keepsRandom _))

theorem enterActive_keepsRandom (s : State) : KeepsRandom s s.enterActive :=
  .trans .of_eq ((judgeConflict_keepsRandom _ _).trans ((judgeSilent_keepsRandom _ _).trans
    ((entryDemand_keepsRandom _).trans ((entryUnits_keepsRandom _).trans ((entryCommon_keepsRandom _).trans
      ((entryAlert_keepsRandom _).trans (judgeCoupStandby_keepsRandom _)))))))

theorem leaveService_keepsRandom (s : State) (b : Bool) : KeepsRandom s (s.leaveService b) :=
  .trans .of_eq ((leaveCon_keepsRandom _).trans (applySafe_touches _).keepsRandom)

theorem duplicateAddress_keepsRandom (s : State) : KeepsRandom s s.duplicateAddress :=
  (raise_keepsRandom s _).trans (leaveService_keepsRandom _ _)

theorem configCorrupt_keepsRandom (s : State) : KeepsRandom s s.configCorrupt :=
  (raise_keepsRandom s _).trans ((leaveService_keepsRandom _ _).trans .of_eq)

theorem watchRun_keepsRandom (s : State) (d : List (Nat × Word)) : KeepsRandom s (s.watchRun d) :=
  .trans .of_eq (.whenever _ _ (.trans .of_eq (.whenever _ _ (configCorrupt_keepsRandom _))))

/-! ## Transmitter (sections 9.5 and 9.6) -/

theorem dropHead_keepsRandom (s : State) : KeepsRandom s s.dropHead := .of_eq

theorem handOver_keepsRandom (s : State) : KeepsRandom s s.handOver := .of_eq

theorem releaseLine_keepsRandom (s : State) : KeepsRandom s s.releaseLine := .of_eq

theorem attempt_keepsRandom (s : State) (p : Payload) (c : Fin 4) (n : Nat) : KeepsRandom s (s.attempt p c n) := by
  unfold State.attempt
  split
  · exact .refl s
  · exact (noteAssembly_touches s p).keepsRandom.trans .of_eq

theorem startHead_keepsRandom (n : Nat) : ∀ s : State, KeepsRandom s (s.startHead n) := by
  induction n with
  | zero => exact KeepsRandom.refl
  | succ n ih =>
    intro s
    unfold State.startHead
    split
    · exact .refl s
    · split
      · split
        · exact (dropHead_keepsRandom s).trans (ih _)
        · exact (dropHead_keepsRandom s).trans (attempt_keepsRandom _ _ _ _)
      · exact .refl s

theorem collide_keepsRandom (s : State) : KeepsRandom s s.collide := by
  unfold State.collide
  split
  · exact .whenever s _ .of_eq
  all_goals exact .refl s

theorem forget_keepsRandom (s : State) : KeepsRandom s s.forget :=
  .trans .of_eq ((judgeConflict_keepsRandom _ _).trans ((judgeSilent_keepsRandom _ _).trans
    ((forgetItems_keepsRandom _ _).trans ((pruneLag_keepsRandom _).trans
      ((refreshStrain_touches _).keepsRandom.trans (judgeWinch_touches _).keepsRandom)))))

theorem alertEnd_keepsRandom (s : State) (a : AlertFields) (b : Bool) : KeepsRandom s (s.alertEnd a b) :=
  .ite (.trans .of_eq (.whenever _ _ (offerAlert_keepsRandom _)))
    (.ite (.trans .of_eq (offerAlert_keepsRandom _)) (.refl s))

theorem tellOwner_keepsRandom (s : State) (h : InHand) (b : Bool) : KeepsRandom s (s.tellOwner h b) := by
  unfold State.tellOwner
  split
  · exact .ite .of_eq (.refl s)
  · exact alertEnd_keepsRandom s _ _
  · exact (KeepsRandom.ite .of_eq (.refl s)).trans (nextAck_keepsRandom _)
  · exact .ite (forget_keepsRandom s) (.refl s)
  all_goals exact .refl s

theorem endTold_keepsRandom (s : State) (h : InHand) (b : Bool) : KeepsRandom s (s.endTold h b) :=
  .whenever s _ (tellOwner_keepsRandom s h b)

theorem lose_keepsRandom (s : State) : KeepsRandom s s.lose :=
  .trans .of_eq (.whenever _ _ (raiseNew_keepsRandom _ _))

theorem discardHand_keepsRandom (s : State) (h : InHand) : KeepsRandom s (s.discardHand h) :=
  (handOver_keepsRandom s).trans ((lose_keepsRandom _).trans (endTold_keepsRandom _ _ _))

theorem retry_keepsRandom (s : State) (h : InHand) : KeepsRandom s (s.retry h) := by
  unfold State.retry
  split
  · exact handOver_keepsRandom s
  · exact attempt_keepsRandom s _ _ _

theorem backoffEnd_keepsRandom (s : State) : KeepsRandom s s.backoffEnd := by
  unfold State.backoffEnd
  split
  · exact .whenever s _ (retry_keepsRandom s _)
  all_goals exact .refl s

theorem transmitFault_keepsRandom (s : State) : KeepsRandom s s.transmitFault := by
  unfold State.transmitFault
  split
  · exact .whenever s _ (.trans .of_eq ((KeepsRandom.whenever _ _ (raiseNew_keepsRandom _ _)).trans
      (endTold_keepsRandom _ _ _)))
  all_goals exact .refl s

theorem sentEnd_keepsRandom (s : State) : KeepsRandom s s.sentEnd := by
  unfold State.sentEnd
  split
  · exact .whenever s _ (.trans .of_eq ((KeepsRandom.whenever _ _ (clear_keepsRandom _ _)).trans
      (endTold_keepsRandom _ _ _)))
  all_goals exact .refl s

/-! ## Acknowledgement (section 8.3) -/

theorem answer_keepsRandom (s : State) (c : AlertCode) : KeepsRandom s (s.answer c) := by
  unfold State.answer
  split
  · exact gearAnswer_keepsRandom s
  · exact gearAnswer_keepsRandom s
  · exact .ite (raiseAvail_keepsRandom s _) (refreshAvailability_touches s).keepsRandom
  · exact .ite (raise_keepsRandom s _) .of_eq
  · exact partedAnswer_keepsRandom s
  · exact (unlockWinch_touches s).keepsRandom
  · exact .refl s

theorem endCondition_keepsRandom (s : State) (c : AlertCode) : KeepsRandom s (s.endCondition c) :=
  .trans .of_eq (answer_keepsRandom _ _)

theorem endByAck_keepsRandom (s : State) (c : AlertCode) : KeepsRandom s (s.endByAck c) :=
  .ite (endCondition_keepsRandom s c) ((endCondition_keepsRandom s c).trans (relist_keepsRandom _ _))

theorem ackEntry_keepsRandom (s : State) (e : AlertEntry) : KeepsRandom s (s.ackEntry e) := by
  unfold State.ackEntry
  split
  · exact .ite (endByAck_keepsRandom s _) (relist_keepsRandom s _)
  · exact .refl s
  · exact relist_keepsRandom s _

theorem ackItem_keepsRandom (s : State) (c : AlertCode) (o : Byte) : KeepsRandom s (s.ackItem c o) := by
  unfold State.ackItem
  split
  · exact .refl s
  · exact .ite (ackEntry_keepsRandom s _) (offerAlert_keepsRandom s)

theorem ackAll_keepsRandom (l : List AckItem) : ∀ s : State, KeepsRandom s (s.ackAll l) := by
  induction l with
  | nil => exact KeepsRandom.refl
  | cons i is ih => intro s; exact (KeepsRandom.ite (ackItem_keepsRandom s _ _) (.refl s)).trans (ih _)

theorem ackCode_keepsRandom (s : State) (c : AlertCode) : KeepsRandom s (s.ackCode c) := by
  unfold State.ackCode
  split
  · exact .refl s
  · exact .ite (ackEntry_keepsRandom s _) (.refl s)

theorem ackCodes_keepsRandom (l : List AlertCode) : ∀ s : State, KeepsRandom s (s.ackCodes l) := by
  induction l with
  | nil => exact KeepsRandom.refl
  | cons c cs ih => intro s; exact (ackCode_keepsRandom s c).trans (ih _)

theorem endEntryless_keepsRandom (l : List AlertCode) : ∀ s : State, KeepsRandom s (s.endEntryless l) := by
  induction l with
  | nil => exact KeepsRandom.refl
  | cons c cs ih => intro s; exact (KeepsRandom.ite (endCondition_keepsRandom s c) (.refl s)).trans (ih _)

theorem pressAck_keepsRandom (s : State) : KeepsRandom s s.pressAck :=
  (ackCodes_keepsRandom _ s).trans ((KeepsRandom.ite (.refl _) (endEntryless_keepsRandom _ _)).trans
    ((judgeWinch_touches _).keepsRandom.trans (requestView_keepsRandom _)))

theorem ackChange_keepsRandom (s : State) (on : Bool) : KeepsRandom s (s.ackChange on) := by
  unfold State.ackChange
  split
  · exact .refl s
  · exact .trans .of_eq (.whenever _ _ (pressAck_keepsRandom _))

/-! ## Receiver and routing (sections 1.2, 9.1) -/

theorem endReception_keepsRandom (s : State) (r : Word) : KeepsRandom s (s.endReception r) := .of_eq

theorem noteReception_keepsRandom (s : State) (b : Bool) : KeepsRandom s (s.noteReception b) :=
  .ite .of_eq (.whenever s _ (follow_keepsRandom s _ _))

theorem ownFrame_keepsRandom (s : State) : KeepsRandom s s.ownFrame :=
  .ite .of_eq (.whenever s _ (duplicateAddress_keepsRandom s))

theorem tableChanged_keepsRandom (s : State) (was : Bool) : KeepsRandom s (s.tableChanged was) :=
  (judgeSilent_keepsRandom s was).trans ((pruneLag_keepsRandom _).trans
    ((refreshStrain_touches _).keepsRandom.trans (judgeWinch_touches _).keepsRandom))

theorem route_keepsRandom (s : State) (f : Frame) : KeepsRandom s (s.route f) := by
  unfold State.route
  split
  · exact routeDemand_keepsRandom s _ _
  · exact routeRequest_keepsRandom s _ _
  · exact routeGrant_keepsRandom s _
  · exact (routeDecline_touches s _ _).keepsRandom
  · exact offerView_keepsRandom s _ _
  · exact lagOne_keepsRandom s _
  · exact .refl s
  · exact takeFuel_keepsRandom s _ _
  · exact .whenever s _ (setHolderLow_keepsRandom s _)
  · exact takeAlert_keepsRandom s _ _
  · exact .whenever s _ (ackAll_keepsRandom _ s)
  · exact .whenever s _ (forget_keepsRandom s)
  · exact .whenever s _ (setRequest_keepsRandom s)
  · exact .whenever s _ (clearRequest_keepsRandom s)

theorem tableTakes_keepsRandom (s : State) (f : Frame) : KeepsRandom s (s.tableTakes f) :=
  .ite (ownFrame_keepsRandom s) (.ite (recordConflict_keepsRandom s _)
    (.trans .of_eq ((noteStart_touches _ f).keepsRandom.trans ((tableChanged_keepsRandom _ _).trans
      ((route_keepsRandom _ f).trans (judgeWinch_touches _).keepsRandom)))))

theorem takeGood_keepsRandom (s : State) (f : Frame) : KeepsRandom s (s.takeGood f) :=
  (endReception_keepsRandom s 0).trans ((noteReception_keepsRandom _ false).trans
    (.ite (tableTakes_keepsRandom _ f) (.whenever _ _ (ownFrame_keepsRandom _))))

theorem takeError_keepsRandom (s : State) (r : Word) : KeepsRandom s (s.takeError r) :=
  (endReception_keepsRandom s r).trans (noteReception_keepsRandom _ _)

theorem takeFrame_keepsRandom (s : State) (f : Frame) : KeepsRandom s (s.takeFrame f) :=
  .whenever s _ (.ite (takeGood_keepsRandom s f) (takeError_keepsRandom s 0))

theorem takeBits_keepsRandom (s : State) (b : List Bool) : KeepsRandom s (s.takeBits b) := by
  refine .whenever s _ ?_
  split
  · exact takeGood_keepsRandom s _
  · exact takeError_keepsRandom s _

/-! ## Channels, converter, control tick (chapters 10 and 11, R22) -/

theorem ownEdge_keepsRandom (s : State) (ch : Fin 4) : KeepsRandom s (s.ownEdge ch) := by
  unfold State.ownEdge
  split
  · exact .ite (.whenever s _ (shaftEdge_keepsRandom s _)) (.ite (.trans .of_eq (judgeFlow_keepsRandom _)) (.refl s))
  · exact .ite (drumEdge_keepsRandom s) (.refl s)
  · exact .refl s
  · exact .refl s

theorem ownNoise_keepsRandom (s : State) (ch : Fin 4) : KeepsRandom s (s.ownNoise ch) :=
  .ite (judgeShaft_keepsRandom s) (.ite (.refl s) (judgeFlow_keepsRandom s))

theorem edge_keepsRandom (s : State) (ch : Fin 4) : KeepsRandom s (s.edge ch) :=
  .ite (.trans .of_eq (ownEdge_keepsRandom _ _)) (.trans .of_eq (ownNoise_keepsRandom _ _))

theorem overrun_keepsRandom (s : State) : KeepsRandom s s.overrun :=
  .trans .of_eq (.whenever _ _ (raiseNew_keepsRandom _ _))

theorem sequenceStart_keepsRandom (s : State) : KeepsRandom s s.sequenceStart :=
  .whenever s _ (.trans .of_eq (.ite .of_eq (overrun_keepsRandom _)))

theorem deliver_keepsRandom (s : State) (a b r : Raw) : KeepsRandom s (s.deliver a b r) := by
  unfold State.deliver
  dsimp only
  split
  · exact leverDelivery_keepsRandom s _ _ _ _
  · exact .whenever s _ (rudderDelivery_keepsRandom s _ _)
  · exact tensionDelivery_keepsRandom s _ _
  · exact .refl s

theorem sequenceComplete_keepsRandom (s : State) : KeepsRandom s s.sequenceComplete := by
  unfold State.sequenceComplete
  split
  · exact .whenever s _ (.trans .of_eq (deliver_keepsRandom _ _ _ _))
  · exact .refl s
  · exact .refl s

theorem tickPart_keepsRandom (s : State) (p : TickPart) : KeepsRandom s (s.tickPart p) := by
  cases p with
  | decay => exact (decayTick_touches s).keepsRandom
  | thrust => exact .whenever s _ (thrustTick_touches s).keepsRandom
  | gear => exact (gearTick_touches s).keepsRandom
  | metering => exact meterTick_keepsRandom s
  | standbyTest => exact .whenever s _ (propStandby_keepsRandom s)

theorem tickParts_keepsRandom (l : List TickPart) : ∀ s : State, KeepsRandom s (s.tickParts l) := by
  induction l with
  | nil => exact KeepsRandom.refl
  | cons p ps ih => intro s; exact (tickPart_keepsRandom s p).trans (ih _)

/-! ## The draw (R150, R159) -/

/-- The residue stepped 16 times, and a backoff of as many slots as its low bits say. -/
def Draws (hand : InHand) (s t : State) : Prop :=
  t.comms.link.random = randomSteps 16 s.comms.link.random ∧
    t.comms.link.tx = .backingOff hand (t.comms.link.random.toNat % 2 ^ min hand.collisions 5)

theorem drawBackoff_draws (s : State) (hand : InHand) : Draws hand s (s.drawBackoff hand) := ⟨rfl, rfl⟩

theorem jamEnd_of_jamming {s : State} {hand : InHand} (h : s.comms.link.tx = .jamming hand) :
    s.jamEnd = s.whenever (s.transmits && decide (bitTimes 16 ≤ elapsed s.clock hand.since))
      (fun s => if hand.collisions < 10 then s.releaseLine.drawBackoff hand else s.releaseLine.discardHand hand) := by
  unfold State.jamEnd
  rw [h]

/-- The jam's end after fewer than ten collisions is a draw. -/
theorem jamEnd_draws {s : State} {hand : InHand} (on : s.transmits = true) (h : s.comms.link.tx = .jamming hand)
    (jammed : 128 ≤ elapsed s.clock hand.since) (few : hand.collisions < 10) : Draws hand s s.jamEnd := by
  have ended : (s.transmits && decide (bitTimes 16 ≤ elapsed s.clock hand.since)) = true := by
    simp [on, bitTimes, jammed]
  rw [jamEnd_of_jamming h, whenever_pos ended, if_pos few]
  exact drawBackoff_draws s.releaseLine hand

/-- And anything else that the jam's end does leaves the residue alone. -/
theorem jamEnd_keepsRandom_or_draws (s : State) :
    KeepsRandom s s.jamEnd ∨
      ∃ hand, s.comms.link.tx = .jamming hand ∧ hand.collisions < 10 ∧ Draws hand s s.jamEnd := by
  cases h : s.comms.link.tx with
  | jamming hand =>
    rw [jamEnd_of_jamming h]
    by_cases few : hand.collisions < 10
    · simp only [few, if_true]
      unfold State.whenever
      split
      · exact .inr ⟨hand, rfl, few, drawBackoff_draws s.releaseLine hand⟩
      · exact .inl (.refl s)
    · simp only [few, if_false]
      exact .inl (.whenever s _ ((releaseLine_keepsRandom s).trans (discardHand_keepsRandom _ hand)))
  | idle | deferring | sending | backingOff =>
    refine .inl ?_
    unfold State.jamEnd
    rw [h]
    exact .refl s

/-! ## Every command -/

/-- A command's answer once its time has passed: the clock is no part of the link. -/
theorem next_of_keepsRandom {s t : State} (dt : Micros) (h : KeepsRandom (s.advance dt) t) :
    ∃ u, (.next t : Host.Outcome State Fault Refusal) = .next u ∧ KeepsRandom s u :=
  ⟨t, rfl, h⟩

theorem next_of_link_untouched {s t : State} {ps : List Part} (dt : Micros) (h : OnlyTouches ps (s.advance dt) t)
    (n : Part.link ∉ ps := by decide) :
    ∃ u, (.next t : Host.Outcome State Fault Refusal) = .next u ∧ KeepsRandom s u :=
  next_of_keepsRandom dt (h.keepsRandom n)

/-- Every command but the resets and the end of the jam leaves the residue as it was. -/
theorem exec_keepsRandom (c : Instr) (s : State) (r : isReset c = false) (j : ∀ dt, c ≠ .jamEnd dt) :
    ∃ t, exec c s = .next t ∧ KeepsRandom s t := by
  cases c with
  | powerOnReset | resetLineReset => nomatch r
  | jamEnd dt => exact absurd rfl (j dt)
  | demand dt | conRequest dt | conGrant dt | conDecline dt | conTake dt | propState dt | strain dt | fuel dt
  | account dt | alert dt | ack dt | roster dt | standby dt | wake dt =>
    exact next_of_keepsRandom dt (takeFrame_keepsRandom _ _)
  | receiveError dt bits => exact next_of_keepsRandom dt (takeBits_keepsRandom _ bits)
  | fragment dt | receptionStart dt => exact next_of_keepsRandom dt (.whenever _ _ .of_eq)
  | lineQuiet found => exact next_of_keepsRandom found.dt (.whenever _ _ .of_eq)
  | transmitStart dt tank =>
    exact next_of_keepsRandom dt ((selectTank_touches _ tank).keepsRandom.trans
      (.whenever _ _ (startHead_keepsRandom _ _)))
  | backoffEnd dt tank =>
    exact next_of_keepsRandom dt ((selectTank_touches _ tank).keepsRandom.trans (backoffEnd_keepsRandom _))
  | collision dt => exact next_of_keepsRandom dt (collide_keepsRandom _)
  | transmitFault dt => exact next_of_keepsRandom dt (transmitFault_keepsRandom _)
  | sentEnd dt => exact next_of_keepsRandom dt (sentEnd_keepsRandom _)
  | txLossExpiry dt | fuelDiscontinuityExpiry dt | overrunExpiry dt =>
    exact next_of_keepsRandom dt (.whenever _ _ (clear_keepsRandom _ _))
  | stationLag dt | rudderSpread dt =>
    exact next_of_keepsRandom dt (.whenever _ _ (raiseNew_keepsRandom _ _))
  | rudderFollowTimerExpiry dt =>
    exact next_of_keepsRandom dt (.whenever _ _ (.trans .of_eq (raiseNew_keepsRandom _ _)))
  | repeatTimerExpiry dt =>
    exact next_of_keepsRandom dt (.whenever _ _ (.trans .of_eq (offerAlert_keepsRandom _)))
  | demandIntervalExpiry dt | stateIntervalExpiry dt | fuelIntervalExpiry dt | accountIntervalExpiry dt =>
    exact next_of_keepsRandom dt (.whenever _ _ (.trans .of_eq (offer_keepsRandom _ _ _)))
  | strainIntervalExpiry dt =>
    exact next_of_keepsRandom dt (.whenever _ _ (.trans .of_eq (offerStrain_keepsRandom _)))
  | joinTimeExpiry dt => exact next_of_keepsRandom dt (.whenever _ _ (enterActive_keepsRandom _))
  | configReadComplete dt bytes => exact next_of_keepsRandom dt (.whenever _ _ (readComplete_keepsRandom _ bytes))
  | referenceCheckComplete dt result => exact next_of_keepsRandom dt (referenceDone_keepsRandom _ result)
  | configWatch dt damage => exact next_of_keepsRandom dt (watchRun_keepsRandom _ damage)
  | controlTick dt order tank =>
    exact next_of_keepsRandom dt ((selectTank_touches _ tank).keepsRandom.trans
      (.whenever _ _ (.trans .of_eq (tickParts_keepsRandom _ _))))
  | sweep dt =>
    exact next_of_keepsRandom dt (.whenever _ _ (.trans .of_eq ((judgeConflict_keepsRandom _ _).trans
      (tableChanged_keepsRandom _ _))))
  | conRequestInput dt on =>
    exact next_of_keepsRandom dt (.whenever _ _ (.trans .of_eq (.whenever _ _ (claimCon_keepsRandom _))))
  | requestTimerExpiry dt => exact next_of_keepsRandom dt (requestExpiry_keepsRandom _)
  | demandTimeoutExpiry dt => exact next_of_keepsRandom dt (timeoutExpiry_keepsRandom _)
  | helmSwitchChange dt mode economy stopAll =>
    exact next_of_keepsRandom dt (.whenever _ _ (switchChange_keepsRandom _ mode economy stopAll))
  | standbySwitch dt on =>
    exact next_of_keepsRandom dt (.whenever _ _ (.trans .of_eq (.whenever _ _
      (.ite (switchOn_keepsRandom _) (switchOff_keepsRandom _)))))
  | rosterClearInput dt on =>
    exact next_of_keepsRandom dt (.whenever _ _ (.trans .of_eq (.whenever _ _ (offerWith_keepsRandom _ _ _))))
  | tankFilledInput dt tank on =>
    exact next_of_keepsRandom dt (.whenever _ _ (.trans .of_eq (.whenever _ _ (recordFill_keepsRandom _ tank))))
  | acknowledgeInput dt on => exact next_of_keepsRandom dt (ackChange_keepsRandom _ on)
  | wakeInput dt on =>
    refine next_of_keepsRandom dt ?_
    split
    · exact wakeChange_keepsRandom _ 7 on
    · exact wakeChange_keepsRandom _ 2 on
    · exact .refl _
    · exact .refl _
  | engineReadyChange dt on => exact next_of_keepsRandom dt (.whenever _ _ (readyChange_keepsRandom _ on))
  | gearFeedbackChange dt ahead astern =>
    exact next_of_keepsRandom dt (.whenever _ _ (.trans .of_eq (.whenever _ _ (judgeFeedback_keepsRandom _))))
  | gearFeedbackTimerExpiry dt => exact next_of_keepsRandom dt (.whenever _ _ (faultGear_keepsRandom _ _))
  | shaftPulseTimeout dt => exact next_of_keepsRandom dt (.whenever _ _ (.trans .of_eq (setSpeed_keepsRandom _ _)))
  | noPulseWatchExpiry dt => exact next_of_keepsRandom dt (.whenever _ _ (.trans .of_eq (judgeShaft_keepsRandom _)))
  | deviationStartExpiry dt | agreementStartExpiry dt =>
    exact next_of_keepsRandom dt (.whenever _ _ (.trans .of_eq (followAvail_keepsRandom _ _ _)))
  | valveSenseChange dt port starboard =>
    exact next_of_keepsRandom dt (.whenever _ _ (.trans .of_eq (.whenever _ _ (valveInterlock_keepsRandom _))))
  | flowWatchExpiry dt => exact next_of_keepsRandom dt (.whenever _ _ (.trans .of_eq (judgeFlow_keepsRandom _)))
  | wireBrokenInput dt on =>
    exact next_of_keepsRandom dt (.whenever _ _ (.trans .of_eq (.whenever _ _ (partedOnset_keepsRandom _))))
  | runTimerExpiry dt => exact next_of_keepsRandom dt (.whenever _ _ (winchRun_keepsRandom _))
  | captureEdge dt ch => exact next_of_keepsRandom dt (edge_keepsRandom _ ch)
  | noiseTimerExpiry dt ch =>
    exact next_of_keepsRandom dt (.whenever _ _ (.trans .of_eq (ownNoise_keepsRandom _ ch)))
  | sequenceStart dt => exact next_of_keepsRandom dt (sequenceStart_keepsRandom _)
  | sequenceCompletion dt a0 a1 reference =>
    exact next_of_keepsRandom dt ((sequenceComplete_keepsRandom _).trans .of_eq)
  | holdTimeExpiry dt => exact next_of_link_untouched dt (holdExpiry_touches _)
  | economyTrimEvaluation dt => exact next_of_link_untouched dt (economyEvent_touches _)
  | releaseTimerExpiry dt => exact next_of_link_untouched dt (releaseExpiry_touches _)
  | dwellExpiry dt => exact next_of_link_untouched dt (dwellEnd_touches _)
  | stampExpiry dt ch => exact next_of_link_untouched dt (stampExpiry_touches _ ch)
  | settleTimerExpiry dt => exact next_of_link_untouched dt (settleExpiry_touches _)
  | winchLockoutInput dt on =>
    exact next_of_link_untouched dt (whenever_touches _ _ (lockoutChange_touches _ on))
  | slackDwellExpiry dt => exact next_of_link_untouched dt (dwellExpiry_touches _)
  | winchSettleExpiry dt => exact next_of_link_untouched dt (settleEnd_touches _)
  | fuelRateEvaluation dt => exact next_of_link_untouched dt (rateEvent_touches _)
  | periodStart dt => exact next_of_link_untouched dt (startPeriod_touches _)

/-- What a command does with the residue: it stands, or the end of a jam is a draw (R150, R159). -/
theorem exec_keepsRandom_or_draws (c : Instr) (s : State) (r : isReset c = false) :
    ∃ t, exec c s = .next t ∧
      (KeepsRandom s t ∨
        ∃ dt hand, c = .jamEnd dt ∧ s.comms.link.tx = .jamming hand ∧ hand.collisions < 10 ∧
          Draws hand s t) := by
  by_cases j : ∃ dt, c = .jamEnd dt
  · obtain ⟨dt, rfl⟩ := j
    refine ⟨(s.advance dt).jamEnd, rfl, ?_⟩
    rcases jamEnd_keepsRandom_or_draws (s.advance dt) with keeps | ⟨hand, jamming, few, draws⟩
    · exact .inl keeps
    · exact .inr ⟨dt, hand, rfl, jamming, few, draws⟩
  · obtain ⟨t, next, keeps⟩ := exec_keepsRandom c s r fun dt e => j ⟨dt, e⟩
    exact ⟨t, next, .inl keeps⟩

/-- Either reset seeds the residue by the address. -/
theorem resetTo_random (s : State) (c : ResetCause) (pins : BitVec 2) (addr : Addr) (lines : BitVec 16) :
    (s.resetTo c pins addr lines).comms.link.random = randomSeed addr := by
  unfold State.resetTo State.judgeStrapping
  dsimp only
  split
  · exact (enterFailed_touches _).keepsRandom
  · rfl

/-- Settles O26: the resets seed the residue, a step is one to one on it, and the draw at the end of a jam alone steps
it. -/
theorem randomResidue : Obligations.RandomResidue := by
  unfold Obligations.RandomResidue
  refine ⟨fun s pins addr lines => ⟨?powerOn, ?resetLine⟩, ?apart, ?step, exec_keepsRandom_or_draws, ?draw, ?worked⟩
  case powerOn =>
    exact ⟨_, rfl, (congrArg _ (resetTo_random s .powerOn pins addr lines)).trans (randomSeed_toNat addr)⟩
  case resetLine =>
    exact ⟨_, rfl, (congrArg _ (resetTo_random s .resetLine pins addr lines)).trans (randomSeed_toNat addr)⟩
  case apart => exact fun a b ne h => ne (randomSeed_injective (randomSteps_injective 16 h))
  case step => exact fun r => ⟨randomStep_getLsbD_zero r, fun i h => randomStep_getLsbD_succ r h⟩
  case draw =>
    exact fun s dt hand on jamming jammed few => ⟨_, rfl, jamEnd_draws (s := s.advance dt) on jamming jammed few⟩
  case worked => decide

end Sys2Proof.Machine
end

section
/-! SUPPORT. How every command works on the reports: one after another it raises and clears conditions, acknowledges
entries, offers frames and moves the station state, and each of these is a step of `Works`. What all steps keep, every
command keeps. -/

namespace Sys2Proof.Machine

-- As in Laws/Touches.lean: one theorem at a time.
set_option Elab.async false

/-! ## The steps -/

/-- Nothing that the reports rest on changes: neither conditions, list and link nor the station state, nor what only a
reset changes. -/
structure Quiet (s t : State) : Prop where
  comms : t.comms = s.comms
  station : t.station = s.station
  role : t.role = s.role
  address : t.address = s.address
  cause : t.start.cause = s.start.cause
  pending : t.pending = s.pending

/-- A change of the link that enters no frame and wakes no transmitter of a station that may not send. -/
structure LinkMoves (s : State) (l : LinkUnit) : Prop where
  length : l.queue.length ≤ s.comms.link.queue.length
  kinds : ∀ k, waitingOf k l.queue ≤ waitingOf k s.comms.link.queue
  silent : s.transmits = false → s.comms.link.queue = [] → s.comms.link.tx = .idle → l.tx = .idle

/-- The station with another link unit. -/
abbrev State.withLink (s : State) (l : LinkUnit) : State := { s with comms := { s.comms with link := l } }

/-- The station at its withdrawal from service, before the con and the outputs follow (R192). -/
def State.withdrawn (s : State) (halted : Bool) : State :=
  { s with
    station := if halted then .halted else .listenOnly,
    comms := { s.comms with
      link := s.comms.link.silence s.clock,
      alerts := { s.comms.alerts with repeatTimer := none } } }

/-- What a command other than the resets, the load and the config watch does to the reports, in steps. -/
inductive Works : State → State → Prop
  | trans {s t u : State} (h : Works s t) (k : Works t u) : Works s u
  | quiet {s t : State} (h : Quiet s t) : Works s t
  | raise (s : State) (c : AlertCode) (h : tripClass c = true → s.station.joined = true) : Works s (s.raise c)
  | clear (s : State) (c : AlertCode) : Works s (s.clear c)
  | acked (s : State) (c : AlertCode) : Works s (s.relist (markAcked c s.comms.alerts.list))
  | removed (s : State) (c : AlertCode)
      (h : s.has c = false ∨ ∃ e ∈ s.comms.alerts.list, e.code = c ∧ e.state = .clearedUnack) :
      Works s (s.relist (removeEntry c s.comms.alerts.list))
  | ended (s : State) (c : AlertCode) :
      Works s { s with comms := { s.comms with present := s.comms.present.set (alertIndex c) false } }
  | offered (s : State) (w : Waiting) : Works s { s with comms := s.comms.offer s.station s.clock w }
  | alerts (s : State) (a : AlertUnit) (h : a.list = s.comms.alerts.list) :
      Works s { s with comms := { s.comms with alerts := a } }
  | link (s : State) (l : LinkUnit) (h : LinkMoves s l) : Works s (s.withLink l)
  | stands (s : State) (x : StationState) (h : s.station.acting = true ∨ s.station = .joining)
      (k : x.acting = true) : Works s { s with station := x }
  | withdraws (s : State) (h : s.station.acting = true ∨ s.station = .joining) : Works s (s.withdrawn false)

theorem Works.refl (s : State) : Works s s := .quiet ⟨rfl, rfl, rfl, rfl, rfl, rfl⟩

/-- A change of units that the reports do not rest on. -/
theorem Works.still {s t : State} (comms : t.comms = s.comms := by rfl) (station : t.station = s.station := by rfl)
    (role : t.role = s.role := by rfl) (address : t.address = s.address := by rfl)
    (cause : t.start.cause = s.start.cause := by rfl) (pending : t.pending = s.pending := by rfl) : Works s t :=
  .quiet ⟨comms, station, role, address, cause, pending⟩

/-- A change of the link beside its queue and its transmitter. -/
theorem Works.receiver {s : State} {l : LinkUnit} (queue : l.queue = s.comms.link.queue := by rfl)
    (tx : l.tx = s.comms.link.tx := by rfl) : Works s (s.withLink l) :=
  .link s l ⟨queue ▸ le_rfl, fun _ => queue ▸ le_rfl, fun _ _ h => tx.trans h⟩

/-- A change of the transmitter where the station may send. -/
theorem Works.transmitter {s : State} {l : LinkUnit} (sends : s.transmits = true)
    (queue : l.queue = s.comms.link.queue := by rfl) : Works s (s.withLink l) :=
  .link s l ⟨queue ▸ le_rfl, fun _ => queue ▸ le_rfl, fun n _ => absurd sends (n ▸ Bool.false_ne_true)⟩

theorem Works.ite {s t u : State} {c : Prop} [Decidable c] (h : Works s t) (k : Works s u) :
    Works s (if c then t else u) := by
  split <;> assumption

/-- A step taken under its test. -/
theorem Works.under {f : State → State} (s : State) (p : Bool) (h : p = true → Works s (f s)) :
    Works s (s.whenever p f) := by
  unfold State.whenever
  split
  · exact h ‹_›
  · exact .refl s

theorem Works.whenever {f : State → State} (s : State) (p : Bool) (h : Works s (f s)) :
    Works s (s.whenever p f) :=
  .under s p fun _ => h

/-- What leaves the reports, the station state and the start unit alone. -/
theorem OnlyTouches.works {ps : List Part} {s t : State} (h : OnlyTouches ps s t)
    (present : Part.present ∉ ps := by decide) (alerts : Part.alerts ∉ ps := by decide)
    (link : Part.link ∉ ps := by decide) (station : Part.station ∉ ps := by decide)
    (role : Part.role ∉ ps := by decide) (address : Part.address ∉ ps := by decide)
    (start : Part.start ∉ ps := by decide) (pending : Part.pending ∉ ps := by decide) : Works s t := by
  refine .quiet ⟨?_, h.station station, h.role role, h.address address, congrArg _ (h.start start), h.pending pending⟩
  have e : ∀ m : Comms, m = ⟨m.present, m.alerts, m.link⟩ := fun _ => rfl
  rw [e t.comms, h.present present, h.alerts alerts, h.link link]

/-! ## The reports keep the station state -/

theorem joined_of_acting {x : StationState} (h : x.acting = true) : x.joined = true := by
  cases x <;> first | rfl | cases h

theorem joined_of_taking {x : StationState} (h : x.taking = true) : x.joined = true := by
  cases x <;> first | rfl | cases h

/-- A station that has joined stays so until a reset. -/
theorem Works.joined {s t : State} (w : Works s t) : s.station.joined = true → t.station.joined = true := by
  induction w with
  | trans _ _ h k => exact fun u => k (h u)
  | quiet h => rw [h.station]; exact id
  | stands s x h k => exact fun _ => joined_of_acting k
  | withdraws s h => exact fun _ => rfl
  | _ => exact id

/-- What works on at a station that has joined. -/
theorem Works.andThen {s t u : State} (up : s.station.joined = true) (w : Works s t)
    (k : t.station.joined = true → Works t u) : Works s u :=
  w.trans (k (w.joined up))

/-! ## Reports (sections 8.2, 9.6) -/

theorem raise_works (s : State) {c : AlertCode} (h : tripClass c = true → s.station.joined = true := by exact nofun) :
    Works s (s.raise c) := .raise s c h

theorem raiseNew_works (s : State) {c : AlertCode}
    (h : tripClass c = true → s.station.joined = true := by exact nofun) : Works s (s.raiseNew c) := by
  by_cases p : s.has c = true
  · exact .still (by unfold State.raiseNew; rw [if_pos p])
  · rw [show s.raiseNew c = s.raise c by unfold State.raiseNew; rw [if_neg p]; rfl]
    exact raise_works s h

theorem follow_works (s : State) {c : AlertCode} (b : Bool)
    (h : tripClass c = true → s.station.joined = true := by exact nofun) : Works s (s.follow c b) :=
  .ite (raiseNew_works s h) (.clear s c)

theorem followChange_works (s : State) {c : AlertCode} (was b : Bool)
    (h : tripClass c = true → s.station.joined = true := by exact nofun) : Works s (s.followChange c was b) :=
  .ite (.refl s) (follow_works s b h)

theorem offer_works (s : State) (k : FrameKind) (c : Fin 4) : Works s (s.offer k c) := .offered s _

theorem offerWith_works (s : State) (c : Fin 4) (p : Payload) : Works s (s.offerWith c p) := .offered s _

theorem offerAlert_works (s : State) : Works s s.offerAlert := offer_works s _ _

/-! ## Peer table (chapter 1) -/

/-- The reports taken over from a step that touches nothing else. -/
theorem Works.comms {s t : State} (w : Works s t) (h : OnlyTouches commsParts s t) :
    Works s { s with comms := t.comms } := by
  refine w.trans (.still rfl (h.station (by decide)).symm (h.role (by decide)).symm (h.address (by decide)).symm
    (congrArg _ (h.start (by decide)).symm) (h.pending (by decide)).symm)

theorem judgeConflict_works (s : State) (was : Bool) : Works s (s.judgeConflict was) :=
  (Works.ite (c := s.station.reporting = true) (followChange_works s was _) (.refl s)).comms
    (.ite (followChange_touches s _ _ _) (.refl _ s))

theorem judgeSilent_works (s : State) (was : Bool) : Works s (s.judgeSilent was) :=
  (Works.ite (c := (s.station.reporting && (s.isHelm || s.isProp)) = true) (followChange_works s was _) (.refl s)).comms
    (.ite (followChange_touches s _ _ _) (.refl _ s))

theorem recordConflict_works (s : State) (a : Addr) : Works s (s.recordConflict a) :=
  .trans .still (judgeConflict_works _ _)

/-! ## Thrust unit and gear (chapters 3 and 4) -/

theorem judgeEngine_works (s : State) : Works s s.judgeEngine :=
  (Works.ite (c := (s.isProp && !s.line 2) = true) (raiseNew_works s) (.refl s)).comms
    (.ite (raiseNew_touches s _) (.refl _ s))

theorem faultGear_works {s : State} (u : s.station.joined = true) (c : AlertCode) : Works s (s.faultGear c) :=
  (raise_works s fun _ => u).trans (enterGear_touches _ _).works

theorem judgeFeedback_works {s : State} (u : s.station.joined = true) : Works s s.judgeFeedback := by
  unfold State.judgeFeedback
  split
  · exact faultGear_works u _
  · exact faultGear_works u _
  · exact (enterGear_touches s _).works
  · exact .refl s

theorem superviseGear_works {s : State} (u : s.station.joined = true) : Works s s.superviseGear := by
  unfold State.superviseGear
  refine .trans (t := { s with gear := { s.gear with supervised := true } }) .still ?_
  dsimp only
  split
  · exact (enterGear_touches _ _).works
  · exact faultGear_works (s := { s with gear := { s.gear with supervised := true } }) u _
  · exact (enterGear_touches _ _).works
  · exact (enterGear_touches _ _).works

theorem gearAnswer_works {s : State} (u : s.station.joined = true) : Works s s.gearAnswer := by
  unfold State.gearAnswer
  split
  · split
    · exact (enterGear_touches s _).works
    all_goals exact raise_works s fun _ => u
  · exact .refl s

/-! ## Governor supervisor (section 4.7) -/

theorem followAvail_works (s : State) {c : AlertCode} (b : Bool)
    (h : tripClass c = true → s.station.joined = true := by exact nofun) : Works s (s.followAvail c b) :=
  .ite (.refl s) ((follow_works s b h).trans (refreshAvailability_touches _).works)

theorem raiseAvail_works {s : State} (u : s.station.joined = true) (c : AlertCode) : Works s (s.raiseAvail c) :=
  (raise_works s fun _ => u).trans (refreshAvailability_touches _).works

theorem judgeShaft_works (s : State) : Works s s.judgeShaft :=
  .whenever s _ (followAvail_works s _)

theorem judgeOverspeed_works (s : State) : Works s s.judgeOverspeed :=
  .under s _ fun h => by
    simp only [Bool.and_eq_true] at h
    exact raiseAvail_works (joined_of_acting h.1.1.2) _

theorem setSpeed_works (s : State) (r : Nat) : Works s (s.setSpeed r) :=
  .ite (.refl s) (.trans .still ((judgeOverspeed_works _).trans
    (.whenever _ _ (followJudgement_touches _).works)))

theorem shaftEdge_works (s : State) (p : Option Nat) : Works s (s.shaftEdge p) := by
  cases p with
  | none => exact .trans .still (judgeShaft_works _)
  | some p => exact .trans .still ((judgeShaft_works _).trans (setSpeed_works _ _))

theorem judgeReady_works (s : State) (on : Bool) : Works s (s.judgeReady on) :=
  .ite (.whenever s _ (.clear s _)) (.whenever s _ (raiseNew_works s))

theorem readyChange_works (s : State) (on : Bool) : Works s (s.readyChange on) :=
  .ite (.refl s) (.trans .still ((judgeReady_works _ _).trans (refreshAvailability_touches _).works))

theorem superviseGovernor_works (s : State) : Works s s.superviseGovernor :=
  .trans .still ((judgeShaft_works _).trans (judgeOverspeed_works _))

/-! ## Steering unit (chapter 5) -/

theorem driveRunning_works (s : State) (b : Bool) : Works s (s.driveRunning b) :=
  .ite (.trans .still (.clear _ _)) (.ite .still (.ite .still (.ite (.refl s) .still)))

theorem driveStep_works (s : State) : Works s s.driveStep := by
  unfold State.driveStep
  split
  · exact (driveStopped_touches s).works
  · exact driveRunning_works s _
  · exact driveRunning_works s _
  · exact .refl s

theorem feedbackFault_works {s : State} (u : s.station.joined = true) : Works s s.feedbackFault :=
  .ite (.refl s) ((raiseNew_works s fun _ => u).trans (.trans .still (inhibitDrive_touches _).works))

theorem valveInterlock_works {s : State} (u : s.station.joined = true) : Works s s.valveInterlock :=
  (raise_works s fun _ => u).trans (.trans .still (inhibitDrive_touches _).works)

theorem feedbackEnd_works (s : State) : Works s s.feedbackEnd :=
  .ite ((Works.clear s _).trans .still) (.refl s)

theorem spreadStep_works (s : State) : Works s s.spreadStep := by
  unfold State.spreadStep
  split
  · exact .still
  · exact .trans .still (.clear _ _)
  · exact .trans .still (.clear _ _)

theorem rudderStep_works (s : State) : Works s s.rudderStep :=
  (feedbackEnd_works s).trans (.trans .still ((driveStep_works _).trans (spreadStep_works _)))

theorem rudderFault_works {s : State} (u : s.station.joined = true) : Works s s.rudderFault :=
  .ite (.refl s) ((feedbackFault_works u).trans .still)

theorem rudderDelivery_works (s : State) (r : Raw) (ok : Bool) : Works s (s.rudderDelivery r ok) :=
  .ite (.trans .still (.whenever _ _ (rudderStep_works _))) (.under s _ fun h =>
    rudderFault_works (joined_of_acting (Bool.and_eq_true_iff.mp h).2))

theorem superviseSteering_works {s : State} (u : s.station.joined = true) : Works s s.superviseSteering :=
  have t : Works s { s with steer := { s.steer with
    supervised := true, drive := .stopped, followTimer := none, deviation := none } } := .still
  .andThen u t fun v => .ite
    (.andThen v (Works.ite (valveInterlock_works v) (.refl _)) fun x => feedbackFault_works x)
    (.ite (valveInterlock_works v) (.refl _))

/-! ## Winch (section 6.6) -/

theorem winchRun_works (s : State) : Works s s.winchRun :=
  .trans .still (raise_works _)

theorem drumEdge_works (s : State) : Works s s.drumEdge :=
  .whenever s _ (.trans .still (.whenever _ _ (winchRun_works _)))

/-! ## Standing by (section 12.5) -/

theorem propStandby_works {s : State} (a : s.station.acting = true) : Works s s.propStandby :=
  (Works.clear s _).trans ((Works.stands (s.clear .engineNotReady) .standby (.inl a) rfl).trans
    (.trans .still ((offer_works _ _ _).trans (offer_works _ _ _))))

theorem restartRepeat_works (s : State) : Works s s.restartRepeat := .alerts s _ rfl

theorem propReturn_works {s : State} (a : s.station.acting = true) : Works s s.propReturn :=
  (Works.stands s .active (.inl a) rfl).trans (.trans .still ((restartRepeat_works _).trans (.trans .still
    ((offer_works _ _ _).trans (judgeEngine_works _)))))

theorem offerStrain_works (s : State) : Works s s.offerStrain := offer_works s _ _

theorem coupStandby_works {s : State} (a : s.station.acting = true) : Works s s.coupStandby :=
  (Works.stands s .standby (.inl a) rfl).trans (.trans .still (offerStrain_works _))

theorem coupReturn_works {s : State} (a : s.station.acting = true) : Works s s.coupReturn :=
  (Works.stands s .active (.inl a) rfl).trans (.trans .still ((restartRepeat_works _).trans
    ((offerStrain_works _).trans (winchCauses_touches _).works)))

theorem acting_of_active {s : State} (h : (s.station == .active) = true) : s.station.acting = true := by
  rw [eq_of_beq h]; rfl

theorem acting_of_standby {s : State} (h : (s.station == .standby) = true) : s.station.acting = true := by
  rw [eq_of_beq h]; rfl

theorem judgeCoupStandby_works (s : State) : Works s s.judgeCoupStandby :=
  .under s _ fun h => by
    simp only [Bool.and_eq_true] at h
    exact coupStandby_works (acting_of_active h.1.1.2)

theorem standbyByClass_works (s : State) : Works s s.standbyByClass := by
  unfold State.standbyByClass
  split
  · rename_i h
    simp only [Bool.and_eq_true] at h
    exact coupReturn_works (acting_of_standby h.1.2)
  · exact judgeCoupStandby_works s

theorem setRequest_works (s : State) : Works s s.setRequest :=
  .ite (.refl s) (.trans .still (judgeCoupStandby_works _))

theorem clearRequest_works (s : State) : Works s s.clearRequest := by
  unfold State.clearRequest
  dsimp only
  split
  · rename_i h
    have a : s.station.acting = true := acting_of_standby (Bool.and_eq_true_iff.mp h).2
    exact .ite (.trans .still (propReturn_works a)) (.ite (.trans .still (coupReturn_works a)) .still)
  · exact .still

theorem wakeChange_works (s : State) (i : Fin 16) (on : Bool) : Works s (s.wakeChange i on) :=
  .trans .still (.whenever _ _ (clearRequest_works _))

/-! ## Coupling unit (chapter 6) -/

/-- Raising the class of a waiting frame keeps how many wait. -/
theorem waitingOf_map {f : Waiting → Waiting} (h : ∀ w, (f w).kind = w.kind) (k : FrameKind) (q : List Waiting) :
    waitingOf k (q.map f) = waitingOf k q := by
  unfold waitingOf
  rw [List.filter_map, List.length_map]
  congr 2
  funext w
  simp [h]

theorem markOnset_works (s : State) : Works s s.markOnset :=
  .trans (t := { s with coup := { s.coup with onset := some s.clock } }) .still
    (.link _ _ ⟨(List.length_map _).le,
      fun k => (waitingOf_map (fun w => by split <;> rfl) k _).le, fun _ _ h => h⟩)

theorem clearClass_works (s : State) (c : StrainClass) : Works s (s.clearClass c) := by
  unfold State.clearClass
  split
  · exact .clear s _
  · exact .refl s

theorem raiseClass_works {s : State} (u : s.station.joined = true) (c : StrainClass) : Works s (s.raiseClass c) := by
  unfold State.raiseClass
  split
  · exact raiseNew_works s fun _ => u
  · exact .refl s

theorem reportClass_works (s : State) : Works s s.reportClass :=
  (offerStrain_works s).trans ((judgeWinch_touches _).works.trans (standbyByClass_works _))

theorem changeClass_works {s : State} (u : s.station.joined = true) (c : StrainClass) : Works s (s.changeClass c) :=
  .ite (.refl s) (.andThen u ((clearClass_works s _).trans .still) fun v => (raiseClass_works v _).trans
    ((Works.ite (markOnset_works _) (.refl _)).trans (reportClass_works _)))

theorem partedOnset_works {s : State} (u : s.station.joined = true) : Works s s.partedOnset :=
  .andThen u ((Works.ite (.refl s) (clearClass_works s _)).trans .still) fun v =>
    (raise_works _ fun _ => v).trans ((markOnset_works _).trans (reportClass_works _))

theorem partedAnswer_works {s : State} (u : s.station.joined = true) : Works s s.partedAnswer :=
  .ite ((raise_works s fun _ => u).trans ((markOnset_works _).trans (offerStrain_works _)))
    (.trans .still (changeClass_works (s := { s with coup := { s.coup with partedLatch := false } }) u _))

theorem judgeClass_works {s : State} (u : s.station.joined = true) : Works s s.judgeClass :=
  .ite (.trans .still (changeClass_works (s := s.noteWindow) u _)) .still

theorem tensionInRange_works {s : State} (u : s.station.joined = true) (t : Nat) : Works s (s.tensionInRange t) :=
  .andThen u ((Works.whenever s _ (.clear s _)).trans .still) fun v =>
    (Works.ite (partedOnset_works v) (.ite .still (judgeClass_works v))).trans
      ((judgeWinch_touches _).works.trans (hauledTaut_touches _).works)

theorem tensionFault_works (s : State) : Works s s.tensionFault :=
  .whenever s _ ((raiseNew_works s).trans (judgeWinch_touches _).works)

theorem tensionDelivery_works (s : State) (r : Raw) (ok : Bool) : Works s (s.tensionDelivery r ok) :=
  .under s _ fun h => .ite (tensionInRange_works (joined_of_taking h) _) (tensionFault_works s)

theorem superviseClass_works {s : State} (u : s.station.joined = true) : Works s s.superviseClass :=
  .ite ((raiseClass_works u _).trans ((markOnset_works _).trans (offerStrain_works _)))
    (raiseClass_works u _)

theorem superviseCoupling_works {s : State} (u : s.station.joined = true) : Works s s.superviseCoupling :=
  .andThen u (.trans .still (Works.ite (raiseNew_works _) (.refl _))) fun v =>
    .andThen v (superviseClass_works v) fun x =>
      (Works.ite (partedOnset_works x) (.refl _)).trans (winchCauses_touches _).works

/-! ## Fuel unit (chapter 7) -/

theorem meterTick_works (s : State) : Works s s.meterTick :=
  .whenever s _ (.trans .still (.whenever _ _ (follow_works _ _)))

theorem judgeFlow_works (s : State) : Works s s.judgeFlow :=
  .whenever s _ (follow_works s _)

theorem superviseFuel_works (s : State) : Works s s.superviseFuel :=
  (Works.whenever s _ (raiseNew_works s (c := .returnExceeds))).trans (.trans .still (judgeFlow_works _))

theorem judgeTankLow_works (s : State) : Works s s.judgeTankLow :=
  .whenever s _ (follow_works s _)

theorem setHolderLow_works (s : State) (h : Option (Tab 4 Bool)) : Works s (s.setHolderLow h) :=
  .trans .still (judgeTankLow_works _)

theorem discontinuity_works (s : State) : Works s s.discontinuity := by
  unfold State.discontinuity
  exact (account_touches s { s.account with lastDisc := some s.clock }).works.trans
    (.whenever _ _ (raiseNew_works _ (c := .fuelDiscontinuity)))

theorem takeFuel_works (s : State) (a : Addr) (p : FuelFields) : Works s (s.takeFuel a p) :=
  .whenever s _ (.trans .still ((Works.ite (discontinuity_works _) (.refl _)).trans
    (judgeTankLow_works _)))

theorem recordFill_works (s : State) (k : Fin 4) : Works s (s.recordFill k) :=
  .trans .still (judgeTankLow_works _)

theorem fillChange_works (s : State) (k : Fin 4) (on : Bool) : Works s (s.fillChange k on) := by
  unfold State.fillChange
  exact (setLine_touches s _ on).works.trans (.whenever _ _ (recordFill_works _ k))

theorem superviseAccount_works (s : State) : Works s s.superviseAccount :=
  (Works.whenever s _ (raiseNew_works s (c := .fuelDiscontinuity))).trans ((judgeTankLow_works _).trans .still)

/-! ## Convoy alert view (section 8.6) -/

theorem judgeViewRoom_works (s : State) : Works s s.judgeViewRoom :=
  .whenever s _ (.clear s _)

theorem takeAlert_works (s : State) (a : Addr) (p : AlertFields) : Works s (s.takeAlert a p) :=
  .whenever s _ (.trans .still ((Works.whenever _ _ (raiseNew_works _)).trans
    ((judgeViewRoom_works _).trans (.whenever _ _ (offer_works _ _ _)))))

theorem forgetItems_works (s : State) (l : List Nat) : Works s (s.forgetItems l) :=
  .whenever s _ (.trans .still (judgeViewRoom_works _))

theorem requestView_works (s : State) : Works s s.requestView :=
  .whenever s _ (.trans .still (.whenever _ _ (offer_works _ _ _)))

theorem nextAck_works (s : State) : Works s s.nextAck :=
  .whenever s _ (offer_works s _ _)

/-! ## Demand unit (chapter 2) -/

theorem foundDemand_works (s : State) : Works s s.foundDemand :=
  .whenever s _ (.clear s _)

theorem acceptDemand_works (s : State) (p : DemandFields) : Works s (s.acceptDemand p) :=
  .trans .still ((foundDemand_works _).trans (.whenever _ _ (clearRequest_works _)))

theorem timeoutExpiry_works (s : State) : Works s s.timeoutExpiry :=
  .whenever s _ (.trans .still ((Works.whenever _ _ (raiseNew_works _)).trans
    (judgeWinch_touches _).works))

theorem judgeLagEnd_works (s : State) : Works s s.judgeLagEnd :=
  .whenever s _ (.clear s _)

theorem lagAll_works (s : State) : Works s s.lagAll := .trans .still (judgeLagEnd_works _)

theorem lagRenumber_works (s : State) (n : Byte) : Works s (s.lagRenumber n) :=
  .trans .still (judgeLagEnd_works _)

theorem lagOne_works (s : State) (a : Addr) : Works s (s.lagOne a) :=
  .whenever s _ (.trans .still (judgeLagEnd_works _))

theorem pruneLag_works (s : State) : Works s s.pruneLag :=
  .whenever s _ (.trans .still (judgeLagEnd_works _))

theorem queueStandby_works (s : State) : Works s s.queueStandby :=
  .trans .still (offerWith_works _ _ _)

theorem switchOn_works (s : State) : Works s s.switchOn :=
  .ite (queueStandby_works s) .still

theorem switchOff_works (s : State) : Works s s.switchOff :=
  .ite (.trans .still (offerWith_works _ _ _)) .still

theorem renumber_works (s : State) : Works s s.renumber :=
  .trans .still ((offer_works _ _ _).trans ((lagRenumber_works _ _).trans
    (.whenever _ _ (queueStandby_works _))))

theorem testNumber_works (s : State) : Works s s.testNumber :=
  .whenever s _ (renumber_works s)

theorem leverDelivery_works (s : State) (a b : Raw) (x y : Bool) : Works s (s.leverDelivery a b x y) :=
  .whenever s _ (.trans .still ((Works.whenever _ _ (follow_works _ _)).trans
    (testNumber_works _)))

theorem switchChange_works (s : State) (m e : BitVec 2) (b : Bool) : Works s (s.switchChange m e b) := by
  unfold State.switchChange
  exact (setSwitches_touches s m e b).works.trans (.whenever (s.setSwitches m e b) _
    ((readSwitches_touches _).works.trans (testNumber_works _)))

theorem enterHolding_works (s : State) : Works s s.enterHolding :=
  .trans .still ((foundDemand_works _).trans ((Works.clear _ _).trans
    ((setHolderLow_works _ _).trans ((offer_works _ _ _).trans ((lagAll_works _).trans
      (.whenever _ _ (switchOn_works _)))))))

theorem leaveHolding_works (s : State) : Works s s.leaveHolding :=
  .trans .still (.clear _ _)

theorem conAfterView_works (s : State) (h : Addr) : Works s (s.conAfterView h) := by
  unfold State.conAfterView
  split
  · exact .ite (.refl s) ((leaveHolding_works s).trans (.whenever _ _ (raiseNew_works _)))
  · exact .ite (.refl s) .still
  · exact .refl s

theorem offerView_works (s : State) (h : Addr) (e : Byte) : Works s (s.offerView h e) :=
  .ite (.trans .still (.whenever _ _ ((setHolderLow_works _ _).trans (conAfterView_works _ _)))) (.refl s)

theorem takeCon_works (s : State) : Works s s.takeCon :=
  (offerWith_works s _ _).trans ((offerView_works _ _ _).trans (enterHolding_works _))

theorem claimCon_works (s : State) : Works s s.claimCon := by
  unfold State.claimCon
  split
  · exact takeCon_works s
  · exact .ite (takeCon_works s) (.trans .still (offerWith_works _ _ _))

theorem requestExpiry_works (s : State) : Works s s.requestExpiry :=
  .whenever s _ (.ite (.trans .still (takeCon_works _)) .still)

theorem grantCon_works (s : State) (a : Addr) : Works s (s.grantCon a) :=
  (offerWith_works s _ _).trans ((leaveHolding_works _).trans (offerView_works _ _ _))

theorem routeRequest_works (s : State) (a : Addr) (p : ConFields) : Works s (s.routeRequest a p) :=
  .whenever s _ (.ite (grantCon_works s a) (offerWith_works s _ _))

theorem routeGrant_works (s : State) (p : ConFields) : Works s (s.routeGrant p) :=
  (offerView_works s _ _).trans (.whenever _ _ (enterHolding_works _))

theorem routeDemand_works (s : State) (a : Addr) (p : DemandFields) : Works s (s.routeDemand a p) := by
  unfold State.routeDemand
  exact (offerView_works s a p.epoch).trans (.whenever (s.offerView a p.epoch) _ (acceptDemand_works _ p))

theorem superviseHelm_works (s : State) : Works s s.superviseHelm := by
  unfold State.superviseHelm
  refine (Works.whenever (f := fun s => s.raiseNew .leverSignal) s
    (s.helm.thrustFault || s.helm.turnFault) (raiseNew_works s)).trans ?_
  dsimp only
  split
  · exact .ite (takeCon_works _) (.refl _)
  · exact .ite (enterHolding_works _) (.refl _)

theorem leaveCon_works (s : State) : Works s s.leaveCon :=
  (Works.ite (leaveHolding_works s) (.refl s)).trans .still

/-! ## Start unit (chapter 12) -/

theorem entryDemand_works (s : State) : Works s s.entryDemand :=
  .whenever s _ (raiseNew_works s)

theorem entryHelm_works (s : State) : Works s s.entryHelm := by
  unfold State.entryHelm
  exact (superviseHelm_works s).trans ((superviseAccount_works _).trans
    (.whenever s.superviseHelm.superviseAccount _ (raiseNew_works _ (c := .viewFull))))

theorem entryProp_works {s : State} (u : s.station.joined = true) : Works s s.entryProp :=
  .andThen u ((judgeEngine_works s).trans .still) fun v => .andThen v (superviseGear_works v) fun x =>
    .andThen x (superviseGovernor_works _) fun y => (superviseSteering_works y).trans (superviseFuel_works _)

theorem entryUnits_works {s : State} (u : s.station.joined = true) : Works s s.entryUnits := by
  unfold State.entryUnits
  split
  · exact entryHelm_works s
  · exact entryProp_works u
  · exact superviseCoupling_works u
  · exact .refl s

theorem entryCommon_works (s : State) : Works s s.entryCommon := by
  unfold State.entryCommon
  have marked := Works.whenever (f := fun s => s.raiseNew .rxError) s s.comms.link.errorMark (raiseNew_works s)
  exact marked.trans (.whenever _ _ (raiseNew_works _ (c := .converterOverrun)))

theorem entryAlert_works (s : State) : Works s s.entryAlert :=
  (restartRepeat_works s).trans (.whenever _ _ (offerAlert_works _))

theorem enterActive_works {s : State} (j : s.station = .joining) : Works s s.enterActive :=
  .andThen (by rw [j]; rfl) ((Works.stands s .active (.inr j) rfl).trans (.trans .still
      ((judgeConflict_works _ _).trans ((judgeSilent_works _ _).trans (entryDemand_works _))))) fun v =>
    (entryUnits_works v).trans ((entryCommon_works _).trans ((entryAlert_works _).trans (judgeCoupStandby_works _)))

/-- After the withdrawal the units, the con and the outputs follow. -/
theorem withdrawn_works (s : State) (b : Bool) : Works (s.withdrawn b) (s.leaveService b) :=
  .trans .still ((leaveCon_works _).trans (applySafe_touches _).works)

theorem duplicateAddress_works {s : State} (h : s.station.acting = true ∨ s.station = .joining) :
    Works s s.duplicateAddress :=
  (raise_works s fun _ => h.elim joined_of_acting fun j => by rw [j]; rfl).trans
    ((Works.withdraws (s.raise .duplicateAddress) h).trans (withdrawn_works _ false))

/-! ## Transmitter (sections 9.5 and 9.6) -/

theorem noteAssembly_works (s : State) (p : Payload) : Works s (s.noteAssembly p) := by
  unfold State.noteAssembly
  split
  case h_2 => exact .ite (.refl s) (.alerts s _ rfl)
  all_goals exact .still

theorem attempt_works {s : State} (sends : s.transmits = true) (p : Payload) (c : Fin 4) (n : Nat) :
    Works s (s.attempt p c n) := by
  unfold State.attempt
  split
  · exact .refl s
  · refine (noteAssembly_works s p).trans (.transmitter ?_)
    rw [State.transmits, (noteAssembly_touches s p).station (by decide)]
    exact sends

theorem dropFirst_sublist (p : Waiting → Bool) (q : List Waiting) : (dropFirst p q).Sublist q := by
  induction q with
  | nil => exact .slnil
  | cons w ws ih =>
    unfold dropFirst
    split
    · exact List.sublist_cons_self w ws
    · exact ih.cons_cons w

theorem waitingOf_sublist {p q : List Waiting} (h : p.Sublist q) (k : FrameKind) : waitingOf k p ≤ waitingOf k q :=
  (h.filter _).length_le

theorem dropHead_works (s : State) : Works s s.dropHead :=
  .link s _ ⟨(dropFirst_sublist _ _).length_le, fun k => waitingOf_sublist (dropFirst_sublist _ _) k,
    fun _ q _ => by rw [q]; rfl⟩

theorem handOver_works (s : State) : Works s s.handOver :=
  .link s _ ⟨le_rfl, fun _ => le_rfl, fun _ q _ => by show restTx _ = _; rw [q]; rfl⟩

theorem releaseLine_works (s : State) : Works s s.releaseLine := .receiver

theorem startHead_works (n : Nat) : ∀ {s : State}, s.transmits = true → Works s (s.startHead n) := by
  induction n with
  | zero => exact fun _ => .refl _
  | succ n ih =>
    intro s sends
    unfold State.startHead
    split
    · exact .refl s
    · split
      · split
        · exact (dropHead_works s).trans (ih (s := s.dropHead) sends)
        · exact (dropHead_works s).trans (attempt_works (s := s.dropHead) sends _ _ _)
      · exact .refl s

theorem collide_works (s : State) : Works s s.collide := by
  unfold State.collide
  split
  · exact .under s _ fun h => by
      simp only [Bool.and_eq_true] at h
      exact .transmitter h.1.1
  all_goals exact .refl s

theorem forget_works (s : State) : Works s s.forget :=
  .trans .still ((judgeConflict_works _ _).trans ((judgeSilent_works _ _).trans
    ((forgetItems_works _ _).trans ((pruneLag_works _).trans
      ((refreshStrain_touches _).works.trans (judgeWinch_touches _).works)))))

theorem alertEnd_works (s : State) (a : AlertFields) (b : Bool) : Works s (s.alertEnd a b) :=
  .ite (.trans (.alerts s { s.comms.alerts with part1Due := false } rfl) (.whenever _ _ (offerAlert_works _)))
    (.ite (.trans (.alerts s { s.comms.alerts with part1Due := true } rfl) (offerAlert_works _)) (.refl s))

theorem tellOwner_works (s : State) (h : InHand) (b : Bool) : Works s (s.tellOwner h b) := by
  unfold State.tellOwner
  split
  · exact .ite .still (.refl s)
  · exact alertEnd_works s _ _
  · exact (Works.ite .still (.refl s)).trans (nextAck_works _)
  · exact .ite (forget_works s) (.refl s)
  all_goals exact .refl s

theorem endTold_works (s : State) (h : InHand) (b : Bool) : Works s (s.endTold h b) :=
  .whenever s _ (tellOwner_works s h b)

theorem lose_works (s : State) : Works s s.lose := by
  unfold State.lose
  exact (Works.receiver (s := s) (l := { s.comms.link with lastLoss := some s.clock })).trans
    (.whenever _ _ (raiseNew_works _ (c := .txLoss)))

theorem discardHand_works (s : State) (h : InHand) : Works s (s.discardHand h) :=
  (handOver_works s).trans ((lose_works _).trans (endTold_works _ _ _))

theorem jamEnd_works (s : State) : Works s s.jamEnd := by
  unfold State.jamEnd
  split
  · refine .under s _ fun h => .ite ((releaseLine_works s).trans ?_) ((releaseLine_works s).trans (discardHand_works _ _))
    exact .transmitter (s := s.releaseLine) (Bool.and_eq_true_iff.mp h).1
  all_goals exact .refl s

theorem retry_works {s : State} (sends : s.transmits = true) (h : InHand) : Works s (s.retry h) := by
  unfold State.retry
  split
  · exact handOver_works s
  · exact attempt_works sends _ _ _

theorem backoffEnd_works (s : State) : Works s s.backoffEnd := by
  unfold State.backoffEnd
  split
  · exact .under s _ fun h => retry_works (Bool.and_eq_true_iff.mp h).1 _
  all_goals exact .refl s

theorem transmitFault_works (s : State) : Works s s.transmitFault := by
  unfold State.transmitFault
  split
  · rename_i h _
    exact .whenever s _ ((Works.receiver (s := s) (l := { s.comms.link with
        txResidue := residueAt h.frame (bitTimeOf s.clock h.since) })).trans ((handOver_works _).trans
      ((Works.whenever _ _ (raiseNew_works _ (c := .txFault))).trans (endTold_works _ _ _))))
  all_goals exact .refl s

theorem sentEnd_works (s : State) : Works s s.sentEnd := by
  unfold State.sentEnd
  split
  · rename_i h _
    exact .whenever s _ ((Works.receiver (s := s) (l := { s.comms.link with
        startMark := false, txResidue := frameCheck h.frame })).trans ((handOver_works _).trans
      ((Works.whenever _ _ (.clear _ .txFault)).trans (endTold_works _ _ _))))
  all_goals exact .refl s

/-! ## Acknowledgement (section 8.3) -/

theorem answer_works {s : State} (u : s.station.joined = true) (c : AlertCode) : Works s (s.answer c) := by
  unfold State.answer
  split
  · exact gearAnswer_works u
  · exact gearAnswer_works u
  · exact .ite (raiseAvail_works u _) (refreshAvailability_touches s).works
  · exact .ite (raise_works s fun _ => u) .still
  · exact partedAnswer_works u
  · exact (unlockWinch_touches s).works
  · exact .refl s

theorem endCondition_works {s : State} (u : s.station.joined = true) (c : AlertCode) : Works s (s.endCondition c) :=
  .andThen u (.ended s c) fun v => answer_works v c

theorem endByAck_works {s : State} (u : s.station.joined = true) (c : AlertCode) : Works s (s.endByAck c) := by
  unfold State.endByAck
  dsimp only
  split
  · exact endCondition_works u c
  · rename_i h
    exact (endCondition_works u c).trans (.removed _ c (.inl (by simpa using h)))

theorem ackEntry_works {s : State} (u : s.station.joined = true) {e : AlertEntry} (m : e ∈ s.comms.alerts.list) :
    Works s (s.ackEntry e) := by
  unfold State.ackEntry
  split
  · exact .ite (endByAck_works u _) (.acked s _)
  · exact .refl s
  · rename_i h
    exact .removed s _ (.inr ⟨e, m, rfl, h⟩)

theorem entryOf_mem {c : AlertCode} {l : List AlertEntry} {e : AlertEntry} (h : entryOf c l = some e) : e ∈ l :=
  List.mem_of_find?_eq_some h

theorem ackItem_works {s : State} (u : s.station.joined = true) (c : AlertCode) (o : Byte) :
    Works s (s.ackItem c o) := by
  unfold State.ackItem
  split
  · exact .refl s
  · rename_i e he
    exact .ite (ackEntry_works u (entryOf_mem he)) (offerAlert_works s)

theorem ackAll_works (l : List AckItem) : ∀ {s : State}, s.station.joined = true → Works s (s.ackAll l) := by
  induction l with
  | nil => exact fun _ => .refl _
  | cons i is ih => exact fun u => .andThen u (Works.ite (ackItem_works u _ _) (.refl _)) fun v => ih v

theorem ackCode_works {s : State} (u : s.station.joined = true) (c : AlertCode) : Works s (s.ackCode c) := by
  unfold State.ackCode
  split
  · exact .refl s
  · rename_i e he
    exact .ite (ackEntry_works u (entryOf_mem he)) (.refl s)

theorem ackCodes_works (l : List AlertCode) : ∀ {s : State}, s.station.joined = true → Works s (s.ackCodes l) := by
  induction l with
  | nil => exact fun _ => .refl _
  | cons c cs ih => exact fun u => .andThen u (ackCode_works u c) fun v => ih v

theorem endEntryless_works (l : List AlertCode) :
    ∀ {s : State}, s.station.joined = true → Works s (s.endEntryless l) := by
  induction l with
  | nil => exact fun _ => .refl _
  | cons c cs ih => exact fun u => .andThen u (Works.ite (endCondition_works u c) (.refl _)) fun v => ih v

theorem pressAck_works {s : State} (u : s.station.joined = true) : Works s s.pressAck :=
  .andThen u (ackCodes_works _ u) fun v => (Works.ite (.refl _) (endEntryless_works _ v)).trans
    ((judgeWinch_touches _).works.trans (requestView_works _))

theorem ackChange_works (s : State) (on : Bool) : Works s (s.ackChange on) := by
  unfold State.ackChange
  split
  · exact .refl s
  · exact .trans .still (.under _ _ fun h => pressAck_works (Bool.and_eq_true_iff.mp h).2)

/-! ## Receiver and routing (sections 1.2, 9.1) -/

theorem endReception_works (s : State) (r : Word) : Works s (s.endReception r) := .receiver

theorem noteReception_works (s : State) (b : Bool) : Works s (s.noteReception b) :=
  .ite .receiver (.whenever s _ (follow_works s _))

theorem ownFrame_works (s : State) : Works s s.ownFrame := by
  unfold State.ownFrame
  split
  · rename_i h
    exact .link s _ ⟨le_rfl, fun _ => le_rfl, fun _ _ i => by rw [i] at h; cases h⟩
  · refine .under s _ fun h => duplicateAddress_works ?_
    simpa [or_comm] using h

theorem tableChanged_works (s : State) (was : Bool) : Works s (s.tableChanged was) :=
  (judgeSilent_works s was).trans ((pruneLag_works _).trans
    ((refreshStrain_touches _).works.trans (judgeWinch_touches _).works))

theorem route_works {s : State} (u : s.station.joined = true) (f : Frame) : Works s (s.route f) := by
  unfold State.route
  split
  · exact routeDemand_works s _ _
  · exact routeRequest_works s _ _
  · exact routeGrant_works s _
  · exact (routeDecline_touches s _ _).works
  · exact offerView_works s _ _
  · exact lagOne_works s _
  · exact .refl s
  · exact takeFuel_works s _ _
  · exact .whenever s _ (setHolderLow_works s _)
  · exact takeAlert_works s _ _
  · exact .whenever s _ (ackAll_works _ u)
  · exact .whenever s _ (forget_works s)
  · exact .whenever s _ (setRequest_works s)
  · exact .whenever s _ (clearRequest_works s)

theorem tableTakes_works {s : State} (u : s.station.joined = true) (f : Frame) : Works s (s.tableTakes f) :=
  .ite (ownFrame_works s) (.ite (recordConflict_works s _)
    (.andThen u (.trans .still ((noteStart_touches _ f).works.trans (tableChanged_works _ _))) fun v =>
      (route_works v f).trans (judgeWinch_touches _).works))

theorem takeGood_works {s : State} (u : s.station.joined = true) (f : Frame) : Works s (s.takeGood f) :=
  .andThen u ((endReception_works s 0).trans (noteReception_works _ false)) fun v =>
    .ite (tableTakes_works v f) (.whenever _ _ (ownFrame_works _))

theorem takeError_works (s : State) (r : Word) : Works s (s.takeError r) :=
  (endReception_works s r).trans (noteReception_works _ _)

theorem takeFrame_works (s : State) (f : Frame) : Works s (s.takeFrame f) :=
  .under s _ fun h => .ite (takeGood_works (Bool.and_eq_true_iff.mp h).1 f) (takeError_works s 0)

theorem takeBits_works (s : State) (b : List Bool) : Works s (s.takeBits b) := by
  refine .under s _ fun h => ?_
  split
  · exact takeGood_works (Bool.and_eq_true_iff.mp h).1 _
  · exact takeError_works s _

/-! ## Channels, converter, control tick (chapters 10 and 11, R22) -/

theorem ownEdge_works (s : State) (ch : Fin 4) : Works s (s.ownEdge ch) := by
  unfold State.ownEdge
  split
  · exact .ite (.whenever s _ (shaftEdge_works s _)) (.ite (.trans .still (judgeFlow_works _)) (.refl s))
  · exact .ite (drumEdge_works s) (.refl s)
  · exact .refl s
  · exact .refl s

theorem ownNoise_works (s : State) (ch : Fin 4) : Works s (s.ownNoise ch) :=
  .ite (judgeShaft_works s) (.ite (.refl s) (judgeFlow_works s))

theorem edge_works (s : State) (ch : Fin 4) : Works s (s.edge ch) :=
  .ite (.trans .still (ownEdge_works _ _)) (.trans .still (ownNoise_works _ _))

theorem overrun_works (s : State) : Works s s.overrun := by
  unfold State.overrun
  exact (conv_touches s { s.conv with lastOverrun := some s.clock }).works.trans
    (.whenever _ _ (raiseNew_works _ (c := .converterOverrun)))

theorem sequenceStart_works (s : State) : Works s s.sequenceStart :=
  .whenever s _ (.trans .still (.ite .still (overrun_works _)))

theorem deliver_works (s : State) (a b r : Raw) : Works s (s.deliver a b r) := by
  unfold State.deliver
  dsimp only
  split
  · exact leverDelivery_works s _ _ _ _
  · exact .whenever s _ (rudderDelivery_works s _ _)
  · exact tensionDelivery_works s _ _
  · exact .refl s

theorem sequenceComplete_works (s : State) : Works s s.sequenceComplete := by
  unfold State.sequenceComplete
  split
  · exact .whenever s _ (.trans .still (deliver_works _ _ _ _))
  · exact .refl s
  · exact .refl s

theorem standbyTest_works (s : State) : Works s s.standbyTest :=
  .under s _ fun h => by
    simp only [Bool.and_eq_true] at h
    exact propStandby_works (acting_of_active h.1.1.2)

theorem tickPart_works (s : State) (p : TickPart) : Works s (s.tickPart p) := by
  cases p with
  | decay => exact (decayTick_touches s).works
  | thrust => exact .whenever s _ (thrustTick_touches s).works
  | gear => exact (gearTick_touches s).works
  | metering => exact meterTick_works s
  | standbyTest => exact standbyTest_works s

theorem tickParts_works (l : List TickPart) : ∀ s : State, Works s (s.tickParts l) := by
  induction l with
  | nil => exact Works.refl
  | cons p ps ih => intro s; exact (tickPart_works s p).trans (ih _)

end Sys2Proof.Machine
end

section
/-! SUPPORT. The alert list over a step (R131 to R135): its length, its codes, and the active entries of the present
trip-class conditions. -/

namespace Sys2Proof.Machine

-- As in Laws/Touches.lean: one theorem at a time.
set_option Elab.async false

/-! ## Lists of entries -/

/-- At most 16 entries, one for each code. -/
def WellListed (l : List AlertEntry) : Prop := l.length ≤ 16 ∧ (l.map AlertEntry.code).Nodup

/-- A list has an active entry of a code. -/
def ListsActive (c : AlertCode) (l : List AlertEntry) : Prop := ∃ e ∈ l, e.code = c ∧ isActive e.state = true

theorem WellListed.sublist {k l : List AlertEntry} (h : WellListed l) (sub : k.Sublist l) : WellListed k :=
  ⟨sub.length_le.trans h.1, (sub.map _).nodup h.2⟩

theorem WellListed.map {l : List AlertEntry} (h : WellListed l) {f : AlertEntry → AlertEntry}
    (same : ∀ e, (f e).code = e.code) : WellListed (l.map f) := by
  refine ⟨by rw [List.length_map]; exact h.1, ?_⟩
  rw [List.map_map, show AlertEntry.code ∘ f = AlertEntry.code from funext same]
  exact h.2

/-- The nine trip-class codes (section 8.1). -/
def tripCodes : List AlertCode :=
  [.duplicateAddress, .configCorrupt, .gearInterlock, .gearTimeout, .overspeed, .rudderInterlock, .rudderFeedback,
   .overload, .parted]

theorem tripClass_iff (c : AlertCode) : tripClass c = true ↔ c ∈ tripCodes := by
  cases c <;> decide

/-- A full list with one entry for each code holds a warn-class entry: there are only nine trip-class codes. -/
theorem WellListed.warn_of_full {l : List AlertEntry} (h : WellListed l) (full : ¬ l.length < 16) :
    l.any anyWarn = true := by
  by_contra none
  have sub : l.map AlertEntry.code ⊆ tripCodes := by
    intro c m
    obtain ⟨e, me, rfl⟩ := List.mem_map.mp m
    rw [← tripClass_iff]
    by_contra t
    exact none (List.any_eq_true.mpr ⟨e, me, by simp [anyWarn, t]⟩)
  have le := (List.subperm_of_subset h.2 sub).length_le
  rw [List.length_map] at le
  exact full (lt_of_le_of_lt le (by decide))

theorem dropEntry_sublist (p : AlertEntry → Bool) (l : List AlertEntry) : (dropEntry p l).Sublist l := by
  induction l with
  | nil => exact .slnil
  | cons e es ih =>
    unfold dropEntry
    split
    · exact List.sublist_cons_self e es
    · exact ih.cons_cons e

theorem dropEntry_length {p : AlertEntry → Bool} {l : List AlertEntry} (h : l.any p = true) :
    (dropEntry p l).length + 1 = l.length := by
  induction l with
  | nil => cases h
  | cons e es ih =>
    unfold dropEntry
    split
    · rfl
    · rename_i n
      rw [List.any_cons, (Bool.not_eq_true _).mp n, Bool.false_or] at h
      rw [List.length_cons, ih h, List.length_cons]

theorem mem_dropEntry {p : AlertEntry → Bool} {l : List AlertEntry} {e : AlertEntry} (m : e ∈ l) (n : p e = false) :
    e ∈ dropEntry p l := by
  induction l with
  | nil => cases m
  | cons a es ih =>
    unfold dropEntry
    rcases List.mem_cons.mp m with rfl | m
    · rw [n]; exact List.mem_cons_self
    · split
      · exact m
      · exact List.mem_cons_of_mem _ (ih m)

theorem makeRoom_sublist (l : List AlertEntry) : (makeRoom l).Sublist l := by
  unfold makeRoom; split <;> exact dropEntry_sublist _ _

theorem mem_makeRoom {l : List AlertEntry} {e : AlertEntry} (m : e ∈ l) (t : tripClass e.code = true) :
    e ∈ makeRoom l := by
  unfold makeRoom
  split
  · exact mem_dropEntry m (by simp [clearedWarn, t])
  · exact mem_dropEntry m (by simp [anyWarn, t])

/-- A full list always has room made in it (R133). -/
theorem makeRoom_length {l : List AlertEntry} (h : WellListed l) (full : ¬ l.length < 16) :
    (makeRoom l).length < 16 := by
  have warn := h.warn_of_full full
  obtain ⟨le, -⟩ := h
  unfold makeRoom
  split
  · have := dropEntry_length ‹l.any clearedWarn = true›; omega
  · have := dropEntry_length warn; omega

/-! ## Raise and clear (R132, R133, R134) -/

theorem appendEntry_eq {l : List AlertEntry} (h : WellListed l) (c : AlertCode) :
    ∃ k, k.Sublist l ∧ k.length < 16 ∧ (∀ e ∈ l, tripClass e.code = true → e ∈ k) ∧
      appendEntry c l = k ++ [{ code := c, state := .activeUnack, occ := 1 }] := by
  unfold appendEntry
  split
  · exact ⟨l, .refl l, ‹_›, fun _ m _ => m, rfl⟩
  · rename_i full
    rw [if_pos (makeRoom_length h full)]
    exact ⟨makeRoom l, makeRoom_sublist l, makeRoom_length h full, fun _ m t => mem_makeRoom m t, rfl⟩

theorem raiseList_wellListed {l : List AlertEntry} (h : WellListed l) (c : AlertCode) :
    WellListed (raiseList c l) := by
  unfold raiseList
  split
  · exact h.map fun e => by split <;> rfl
  · rename_i absent
    obtain ⟨k, sub, room, -, e⟩ := appendEntry_eq h c
    rw [e]
    refine ⟨by simp only [List.length_append, List.length_cons, List.length_nil]; omega, ?_⟩
    rw [List.map_append, List.nodup_append]
    refine ⟨(sub.map _).nodup h.2, List.nodup_singleton _, ?_⟩
    rintro a ma b mb rfl
    obtain ⟨x, mx, rfl⟩ := List.mem_map.mp ma
    simp only [List.map_cons, List.map_nil, List.mem_singleton] at mb
    exact absent (List.any_eq_true.mpr ⟨x, sub.subset mx, by simp [mb]⟩)

/-- The code raised has an active entry. -/
theorem raiseList_lists {l : List AlertEntry} (h : WellListed l) (c : AlertCode) : ListsActive c (raiseList c l) := by
  unfold raiseList
  split
  · rename_i p
    obtain ⟨e, m, ec⟩ := List.any_eq_true.mp p
    have ec : e.code = c := eq_of_beq ec
    exact ⟨_, List.mem_map.mpr ⟨e, m, rfl⟩, by simp [ec], by simp [ec, isActive]⟩
  · obtain ⟨k, -, -, -, e⟩ := appendEntry_eq h c
    rw [e]
    exact ⟨_, List.mem_append_right _ List.mem_cons_self, rfl, rfl⟩

/-- The active entries of the trip-class codes stay: what is evicted is of the warn class. -/
theorem raiseList_keeps {l : List AlertEntry} (h : WellListed l) (c : AlertCode) {d : AlertCode}
    (t : tripClass d = true) (k : ListsActive d l) : ListsActive d (raiseList c l) := by
  obtain ⟨e, m, rfl, a⟩ := k
  unfold raiseList
  split
  · refine ⟨_, List.mem_map.mpr ⟨e, m, rfl⟩, by split <;> rfl, ?_⟩
    split
    · rfl
    · exact a
  · obtain ⟨k, -, -, keep, eq⟩ := appendEntry_eq h c
    rw [eq]
    exact ⟨e, List.mem_append_left _ (keep e m t), rfl, a⟩

theorem clearList_wellListed {l : List AlertEntry} (h : WellListed l) (c : AlertCode) :
    WellListed (clearList c l) :=
  (h.sublist List.filter_sublist).map fun e => by split <;> rfl

theorem clearList_keeps (c : AlertCode) {l : List AlertEntry} {d : AlertCode} (ne : d ≠ c) (k : ListsActive d l) :
    ListsActive d (clearList c l) := by
  obtain ⟨e, m, rfl, a⟩ := k
  refine ⟨e, List.mem_map.mpr ⟨e, List.mem_filter.mpr ⟨m, by simp [ne]⟩, by simp [ne]⟩, rfl, a⟩

theorem markAcked_wellListed {l : List AlertEntry} (h : WellListed l) (c : AlertCode) : WellListed (markAcked c l) :=
  h.map fun e => by split <;> rfl

theorem markAcked_keeps (c : AlertCode) {l : List AlertEntry} {d : AlertCode} (k : ListsActive d l) :
    ListsActive d (markAcked c l) := by
  obtain ⟨e, m, rfl, a⟩ := k
  refine ⟨_, List.mem_map.mpr ⟨e, m, rfl⟩, by split <;> rfl, ?_⟩
  split
  · rfl
  · exact a

theorem removeEntry_keeps (c : AlertCode) {l : List AlertEntry} {d : AlertCode} (ne : d ≠ c) (k : ListsActive d l) :
    ListsActive d (removeEntry c l) := by
  obtain ⟨e, m, rfl, a⟩ := k
  exact ⟨e, List.mem_filter.mpr ⟨m, by simp [ne]⟩, rfl, a⟩

/-- With one entry for each code, a cleared entry of a code is its only one. -/
theorem WellListed.not_active {l : List AlertEntry} (h : WellListed l) {e : AlertEntry} (m : e ∈ l)
    (cleared : e.state = .clearedUnack) : ¬ ListsActive e.code l := by
  rintro ⟨x, mx, same, active⟩
  rw [List.inj_on_of_nodup_map h.2 mx m same, cleared] at active
  cases active

/-! ## The invariants over a report -/

theorem alertInv_iff (s : State) : AlertInv s ↔ WellListed s.comms.alerts.list := Iff.rfl

theorem joined_iff (x : StationState) : x.joined = true ↔ x ≠ .start ∧ x ≠ .failed := by
  cases x <;> decide

theorem tripInv_iff (s : State) : TripInv s ↔ ∀ c, tripClass c = true → s.has c = true →
    s.station.joined = true ∧ ListsActive c s.comms.alerts.list := by
  unfold TripInv
  simp only [joined_iff, and_assoc, ListsActive]

/-- Both invariants of the alert list. -/
def Listed (s : State) : Prop := AlertInv s ∧ TripInv s

/-- What moves the list on as `step` says, with no trip-class condition come but one that the list has active. -/
theorem Listed.move {s t : State} (h : Listed s) (joined : s.station.joined = true → t.station.joined = true)
    (well : WellListed t.comms.alerts.list)
    (covers : ∀ c, tripClass c = true → t.has c = true →
      (s.has c = true ∧ (ListsActive c s.comms.alerts.list → ListsActive c t.comms.alerts.list)) ∨
        (t.station.joined = true ∧ ListsActive c t.comms.alerts.list)) : Listed t := by
  refine ⟨well, (tripInv_iff t).mpr fun c trip has => ?_⟩
  rcases covers c trip has with ⟨had, keeps⟩ | now
  · obtain ⟨up, active⟩ := (tripInv_iff s).mp h.2 c trip had
    exact ⟨joined up, keeps active⟩
  · exact now

theorem Listed.same {s t : State} (h : Listed s) (joined : s.station.joined = true → t.station.joined = true)
    (present : t.comms.present = s.comms.present) (list : t.comms.alerts.list = s.comms.alerts.list) : Listed t := by
  refine h.move joined (by rw [list]; exact h.1) fun c _ has => .inl ⟨?_, by rw [list]; exact id⟩
  unfold State.has Comms.has at has ⊢
  rwa [← present]

theorem trip_ne_txLoss {c : AlertCode} (t : tripClass c = true) : c ≠ .txLoss := by
  rintro rfl; cases t

theorem raise_listed {s : State} {c : AlertCode} (h : Listed s)
    (up : tripClass c = true → s.station.joined = true) : Listed (s.raise c) := by
  obtain ⟨-, -, others, list⟩ := raise_raises s c
  have once := raiseList_wellListed h.1 c
  refine h.move id ?well fun d trip has => ?covers
  case well =>
    rcases list with e | ⟨-, e⟩
    · rw [e]; exact once
    · rw [e]; exact raiseList_wellListed once _
  have lossKeeps : ListsActive d (raiseList c s.comms.alerts.list) → ListsActive d (s.raise c).comms.alerts.list := by
    intro k
    rcases list with e | ⟨-, e⟩
    · rw [e]; exact k
    · rw [e]; exact raiseList_keeps once _ trip k
  by_cases e : d = c
  · subst e
    exact .inr ⟨up trip, lossKeeps (raiseList_lists h.1 d)⟩
  · rw [others d e (.inl (trip_ne_txLoss trip))] at has
    exact .inl ⟨has, fun k => lossKeeps (raiseList_keeps h.1 c trip k)⟩

/-- A list put in place of the list, as an acknowledgement puts it. -/
theorem relist_listed {s : State} {l : List AlertEntry} (h : Listed s) (well : WellListed l)
    (keeps : ∀ c, tripClass c = true → s.has c = true → ListsActive c s.comms.alerts.list → ListsActive c l) :
    Listed (s.relist l) := by
  obtain ⟨-, others, list⟩ := relist_relisted s l
  refine h.move id ?well fun d trip has => ?covers
  case well =>
    rcases list with e | ⟨-, e⟩
    · rw [e]; exact well
    · rw [e]; exact raiseList_wellListed well _
  rw [others d (.inl (trip_ne_txLoss trip))] at has
  refine .inl ⟨has, fun k => ?_⟩
  rcases list with e | ⟨-, e⟩
  · rw [e]; exact keeps d trip has k
  · rw [e]; exact raiseList_keeps well _ trip (keeps d trip has k)

theorem clear_listed {s : State} (h : Listed s) (c : AlertCode) : Listed (s.clear c) := by
  by_cases p : s.has c = true
  · obtain ⟨-, gone, others, list⟩ := clear_clears p
    have well := clearList_wellListed h.1 c
    refine h.move id ?well fun d trip has => ?covers
    case well =>
      rcases list with e | ⟨-, e⟩
      · rw [e]; exact well
      · rw [e]; exact raiseList_wellListed well _
    have ne : d ≠ c := by
      rintro rfl
      rw [gone (.inl (trip_ne_txLoss trip))] at has
      cases has
    rw [others d ne (.inl (trip_ne_txLoss trip))] at has
    refine .inl ⟨has, fun k => ?_⟩
    rcases list with e | ⟨-, e⟩
    · rw [e]; exact clearList_keeps c ne k
    · rw [e]; exact raiseList_keeps well _ trip (clearList_keeps c ne k)
  · rw [show s.clear c = s by unfold State.clear; rw [if_neg p]]
    exact h

theorem removed_listed {s : State} {c : AlertCode} (h : Listed s)
    (r : s.has c = false ∨ ∃ e ∈ s.comms.alerts.list, e.code = c ∧ e.state = .clearedUnack) :
    Listed (s.relist (removeEntry c s.comms.alerts.list)) := by
  refine relist_listed h (WellListed.sublist h.1 List.filter_sublist) fun d _ has k => removeEntry_keeps c ?_ k
  rintro rfl
  rcases r with absent | ⟨e, m, rfl, cleared⟩
  · rw [absent] at has; cases has
  · exact WellListed.not_active h.1 m cleared k

theorem offered_listed {s : State} (h : Listed s) (w : Waiting) :
    Listed { s with comms := s.comms.offer s.station s.clock w } := by
  unfold Comms.offer
  split
  · have put : Listed { s with comms := { s.comms with link := s.comms.link.put s.clock w } } := h.same id rfl rfl
    unfold Comms.afterLoss
    split
    · have raised := raiseOnce_list { s.comms with link := s.comms.link.put s.clock w } s.station s.clock .txLoss
      refine h.move id (by rw [raised]; exact raiseList_wellListed h.1 _) fun d trip has => .inl ⟨?_, fun k => ?_⟩
      · exact (raiseOnce_has_ne { s.comms with link := s.comms.link.put s.clock w } s.station s.clock
          (trip_ne_txLoss trip)).symm.trans has
      · rw [raised]; exact raiseList_keeps h.1 _ trip k
    · exact put
  · exact h

/-- Every step of the reports keeps the list. -/
theorem Works.listed {s t : State} (w : Works s t) : Listed s → Listed t := by
  induction w with
  | trans _ _ h k => exact fun l => k (h l)
  | quiet q => exact fun l => l.same (fun u => by rw [q.station]; exact u) (by rw [q.comms]) (by rw [q.comms])
  | raise s c h => exact fun l => raise_listed l h
  | clear s c => exact fun l => clear_listed l c
  | acked s c => exact fun l => relist_listed l (markAcked_wellListed l.1 c) fun _ _ _ k => markAcked_keeps c k
  | removed s c h => exact fun l => removed_listed l h
  | ended s c =>
    refine fun l => l.move id l.1 fun d _ has => .inl ⟨?_, id⟩
    by_cases e : d = c
    · subst e
      exact absurd (has.symm.trans (has_set_self s.comms d false)) (by decide)
    · exact (has_set_ne s.comms false e).symm.trans has
  | offered s w => exact fun l => offered_listed l w
  | alerts s a h => exact fun l => l.same id rfl h
  | link s l h => exact fun k => k.same id rfl rfl
  | stands s x h k => exact fun l => l.same (fun _ => joined_of_acting k) rfl rfl
  | withdraws s h => exact fun l => l.same (fun _ => rfl) rfl rfl

end Sys2Proof.Machine
end

section
/-! SUPPORT. The transmit queue over a step (R162 to R165, R168): its length, one frame of each coalescing kind, and
the silence of a station that may not send. -/

namespace Sys2Proof.Machine

-- As in Laws/Touches.lean: one theorem at a time.
set_option Elab.async false

/-- At most 8 frames, and at most one waiting frame of each coalescing kind. -/
def WellQueued (q : List Waiting) : Prop := q.length ≤ 8 ∧ ∀ k, coalescing k = true → waitingOf k q ≤ 1

theorem WellQueued.fewer {p q : List Waiting} (h : WellQueued q) (length : p.length ≤ q.length)
    (kinds : ∀ k, waitingOf k p ≤ waitingOf k q) : WellQueued p :=
  ⟨length.trans h.1, fun k c => (kinds k).trans (h.2 k c)⟩

theorem waitingOf_append (k : FrameKind) (p q : List Waiting) : waitingOf k (p ++ q) = waitingOf k p + waitingOf k q := by
  simp [waitingOf]

theorem waitingOf_singleton (k : FrameKind) (w : Waiting) : waitingOf k [w] = if w.kind == k then 1 else 0 := by
  unfold waitingOf
  rw [List.filter_cons]
  split <;> rfl

theorem dropLastOf_sublist (c : Fin 4) (q : List Waiting) : (dropLastOf c q).Sublist q := by
  unfold dropLastOf
  rw [← List.reverse_sublist, List.reverse_reverse]
  exact dropFirst_sublist _ _

theorem dropFirst_length {p : Waiting → Bool} {q : List Waiting} (h : q.any p = true) :
    (dropFirst p q).length + 1 = q.length := by
  induction q with
  | nil => cases h
  | cons w ws ih =>
    unfold dropFirst
    split
    · rfl
    · rename_i n
      rw [List.any_cons, (Bool.not_eq_true _).mp n, Bool.false_or] at h
      rw [List.length_cons, ih h, List.length_cons]

theorem dropLastOf_length {c : Fin 4} {q : List Waiting} (h : q.any (fun w => w.cls == c) = true) :
    (dropLastOf c q).length + 1 = q.length := by
  unfold dropLastOf
  rw [List.length_reverse, dropFirst_length (by rwa [List.any_reverse]), List.length_reverse]

theorem greatestClass_ge (c : Fin 4) (q : List Waiting) : c ≤ greatestClass c q := by
  induction q generalizing c with
  | nil => exact le_rfl
  | cons w ws ih =>
    unfold greatestClass
    refine le_trans ?_ (ih _)
    split
    · exact le_of_lt ‹_›
    · exact le_rfl

/-- The greatest class is that of a frame, or the one it was started from. -/
theorem greatestClass_mem (c : Fin 4) (q : List Waiting) :
    greatestClass c q = c ∨ ∃ w ∈ q, w.cls = greatestClass c q := by
  induction q generalizing c with
  | nil => exact .inl rfl
  | cons w ws ih =>
    unfold greatestClass
    split
    · rcases ih w.cls with e | ⟨v, m, e⟩
      · exact .inr ⟨w, List.mem_cons_self, e.symm⟩
      · exact .inr ⟨v, List.mem_cons_of_mem _ m, e⟩
    · rcases ih c with e | ⟨v, m, e⟩
      · exact .inl e
      · exact .inr ⟨v, List.mem_cons_of_mem _ m, e⟩

/-- A frame of a greater class than another's waits, so one of the greatest class does. -/
theorem greatest_waits {w : Waiting} {q : List Waiting} (h : w.cls < greatestClass 0 q) :
    q.any (fun v => v.cls == greatestClass 0 q) = true := by
  rcases greatestClass_mem 0 q with e | ⟨v, m, e⟩
  · rw [e] at h; exact absurd h (Fin.not_lt_zero _)
  · exact List.any_eq_true.mpr ⟨v, m, by simp [e]⟩

/-- A frame joins a queue with a place for it, of which none of its kind waits if the kind coalesces. -/
theorem WellQueued.join {p : List Waiting} {w : Waiting} (h : WellQueued p) (place : p.length < 8)
    (new : coalescing w.kind = true → waitingOf w.kind p = 0) : WellQueued (p ++ [w]) := by
  refine ⟨by simp only [List.length_append, List.length_cons, List.length_nil]; omega, fun k c => ?_⟩
  rw [waitingOf_append, waitingOf_singleton]
  split
  · have e := eq_of_beq ‹(w.kind == k) = true›
    subst e
    rw [new c]
  · exact h.2 k c

theorem waitingOf_eq_zero {k : FrameKind} {q : List Waiting} (h : q.any (fun v => v.kind == k) = false) :
    waitingOf k q = 0 := by
  unfold waitingOf
  rw [List.length_eq_zero_iff, List.filter_eq_nil_iff]
  intro v m e
  rw [List.any_eq_false] at h
  exact h v m e

theorem offerQueue_wellQueued {q : List Waiting} (h : WellQueued q) (w : Waiting) : WellQueued (offerQueue w q) := by
  unfold offerQueue
  split
  · exact h
  rename_i fresh
  have new : coalescing w.kind = true → waitingOf w.kind q = 0 := by
    intro c
    refine waitingOf_eq_zero ?_
    simpa [coalesced, c] using fresh
  split
  · exact h.join ‹_› new
  split
  · rename_i greater
    have sub := dropLastOf_sublist (greatestClass 0 q) q
    have shorter := dropLastOf_length (greatest_waits greater)
    have le := h.1
    exact (h.fewer sub.length_le fun k => waitingOf_sublist sub k).join (by omega)
      fun c => Nat.le_zero.mp ((waitingOf_sublist sub _).trans (new c).le)
  · exact h

theorem promoteAlert_kinds (l : List AlertEntry) (q : List Waiting) (k : FrameKind) :
    waitingOf k (promoteAlert l q) = waitingOf k q := by
  rw [promoteAlert_eq]
  exact waitingOf_map (fun w => by split <;> rfl) k q

/-- Both invariants of the transmit queue. -/
def Queues (st : StationState) (l : LinkUnit) : Prop :=
  WellQueued l.queue ∧ (st.acting = false → st ≠ .halted → l.queue = [] ∧ l.tx = .idle)

theorem queues_iff (s : State) : QueueInv s ∧ SilentInv s ↔ Queues s.station s.comms.link := by
  unfold QueueInv SilentInv Queues WellQueued State.transmits
  simp only [Bool.or_eq_false_iff, beq_eq_false_iff_ne, ne_eq, and_imp]

theorem put_queues {st : StationState} {l : LinkUnit} (h : WellQueued l.queue)
    (sends : st.acting = true ∨ st = .halted) (now : Clock) (w : Waiting) : Queues st (l.put now w) := by
  refine ⟨offerQueue_wellQueued h w, fun a n => ?_⟩
  rcases sends with e | e
  · rw [e] at a; cases a
  · exact absurd e n

theorem setList_queues {m : Comms} {st : StationState} (h : Queues st m.link) (now : Clock) (l : List AlertEntry) :
    Queues st (m.setList st now l).link := by
  have promoted : WellQueued (promoteAlert l m.link.queue) :=
    h.1.fewer (promoteAlert_length _ _).le fun k => (promoteAlert_kinds l _ k).le
  unfold Comms.setList
  split
  · exact h
  · dsimp only
    split
    · exact put_queues promoted (.inl ‹_›) now _
    · refine ⟨promoted, fun a n => ?_⟩
      obtain ⟨queue, tx⟩ := h.2 a n
      exact ⟨by rw [queue]; unfold promoteAlert; split <;> rfl, tx⟩

theorem raiseOnce_queues {m : Comms} {st : StationState} (h : Queues st m.link) (now : Clock) (c : AlertCode) :
    Queues st (m.raiseOnce st now c).link := setList_queues h now _

theorem afterLoss_queues {m : Comms} {st : StationState} (h : Queues st m.link) (b : Bool) (now : Clock) :
    Queues st (m.afterLoss b st now).link := by
  unfold Comms.afterLoss
  split
  · exact raiseOnce_queues h now _
  · exact h

theorem relist_queues {m : Comms} {st : StationState} (h : Queues st m.link) (now : Clock) (l : List AlertEntry) :
    Queues st (m.relist st now l).link := afterLoss_queues (setList_queues h now l) _ now

theorem offer_queues {m : Comms} {st : StationState} (h : Queues st m.link) (now : Clock) (w : Waiting) :
    Queues st (m.offer st now w).link := by
  unfold Comms.offer
  split
  · exact afterLoss_queues (m := { m with link := m.link.put now w }) (put_queues h.1 (.inl ‹_›) now w) _ now
  · exact h

/-- Every step of the reports keeps the queue. -/
theorem Works.queues {s t : State} (w : Works s t) :
    Queues s.station s.comms.link → Queues t.station t.comms.link := by
  induction w with
  | trans _ _ h k => exact fun q => k (h q)
  | quiet q => rw [q.station, q.comms]; exact id
  | raise s c h => exact fun q => afterLoss_queues (raiseOnce_queues q _ c) _ _
  | clear s c =>
    intro q
    show Queues s.station (if s.has c then _ else _ : Comms).link
    split
    · exact relist_queues (m := { s.comms with present := s.comms.present.set (alertIndex c) false }) q _ _
    · exact q
  | acked s c | removed s c h => exact fun q => relist_queues q _ _
  | ended s c | alerts s a h => exact id
  | offered s w => exact fun q => offer_queues q _ w
  | link s l h =>
    intro q
    refine ⟨q.1.fewer h.length h.kinds, fun a n => ?_⟩
    obtain ⟨queue, tx⟩ := q.2 a n
    have none : l.queue = [] := by simpa [queue] using h.length
    refine ⟨none, h.silent ?_ queue tx⟩
    simp [State.transmits] at a n ⊢
    exact ⟨a, n⟩
  | stands s x h k => exact fun q => ⟨q.1, fun a => absurd k (a ▸ Bool.false_ne_true)⟩
  | withdraws s h => exact fun _ => ⟨⟨Nat.zero_le 8, fun _ _ => Nat.zero_le 1⟩, fun _ _ => ⟨rfl, rfl⟩⟩

end Sys2Proof.Machine
end

section
/-! SUPPORT. Every command in steps of the reports, and what all commands keep: the alert list (O55), the transmit
queue (O56), the strapping and the edges of section 12.4 (O2). -/

namespace Sys2Proof.Machine

-- As in Laws/Touches.lean: one theorem at a time.
set_option Elab.async false

/-! ## The load, the entry to JOINING, and HALTED (sections 11.4, 12.2, 12.4) -/

/-- Entry to FAILED or to JOINING from START, or to HALTED, from a station that has so far only worked. -/
inductive Turns : State → State → Prop
  | stays {s t : State} (w : Works s t) : Turns s t
  | fails {s u : State} (w : Works s u) (at_start : u.station = .start) : Turns s u.enterFailed
  | joins {s u : State} (w : Works s u) (at_start : u.station = .start) : Turns s u.enterJoining
  | halts {s u : State} (w : Works s u) (acts : u.station.acting = true) :
      Turns s (State.forceAlert (u.leaveService true))

/-- After the change of the station state nothing else of the reports changes at the entry to JOINING. -/
theorem startJoining_works (s : State) : Works s.startJoining s.enterJoining :=
  (Works.whenever _ _ (readSwitches_touches _).works).trans ((refreshAvailability_touches _).works.trans
    ((refreshStrain_touches _).works.trans (applySafe_touches _).works))

theorem readComplete_turns {s : State} (h : s.station = .start) (bytes : List Byte) :
    Turns s (s.readComplete bytes) := by
  unfold State.readComplete
  split
  · exact .stays (.refl s)
  · dsimp only
    split
    · exact .stays (.trans .still ((Works.whenever _ _ (raise_works _ (c := .configClamped))).trans
        (conv_touches _ _).works))
    · exact .fails .still h

theorem configRead_turns (s : State) (bytes : List Byte) : Turns s (s.configRead bytes) := by
  unfold State.configRead State.whenever
  split
  · exact readComplete_turns (eq_of_beq (Bool.and_eq_true_iff.mp ‹_›).1) bytes
  · exact .stays (.refl s)

theorem referenceDone_turns (s : State) (r : Raw) : Turns s (s.referenceDone r) := by
  unfold State.referenceDone State.whenever
  split
  · rename_i h
    have start : s.station = .start := eq_of_beq (Bool.and_eq_true_iff.mp h).1
    dsimp only
    split
    · exact .joins .still start
    · exact .fails .still start
  · exact .stays (.refl s)

theorem watchRun_turns (s : State) (d : List (Nat × Word)) : Turns s (s.watchRun d) := by
  unfold State.watchRun State.whenever
  dsimp only
  split
  · rename_i h
    split
    · exact .halts (.trans .still (raise_works _ fun _ => joined_of_acting (Bool.and_eq_true_iff.mp h).1))
        (Bool.and_eq_true_iff.mp h).1
    · exact .stays .still
  · exact .stays .still

/-! ## Every command -/

/-- The commands that may take the station out of START or to HALTED. -/
def turns : Instr → Bool
  | .configReadComplete .. | .referenceCheckComplete .. | .configWatch .. => true
  | _ => false

/-- A command's answer once its time has passed. -/
theorem next_works {s t : State} (dt : Micros) (h : Works (s.advance dt) t) :
    ∃ u, (.next t : Host.Outcome State Fault Refusal) = .next u ∧ Works s u :=
  ⟨t, rfl, .trans .still h⟩

/-- Every command but the resets and those that turn works in steps of the reports. -/
theorem exec_works (c : Instr) (s : State) (r : isReset c = false) (n : turns c = false) :
    ∃ t, exec c s = .next t ∧ Works s t := by
  cases c with
  | powerOnReset | resetLineReset => nomatch r
  | configReadComplete | referenceCheckComplete | configWatch => nomatch n
  | demand dt | conRequest dt | conGrant dt | conDecline dt | conTake dt | propState dt | strain dt | fuel dt
  | account dt | alert dt | ack dt | roster dt | standby dt | wake dt => exact next_works dt (takeFrame_works _ _)
  | receiveError dt bits => exact next_works dt (takeBits_works _ bits)
  | fragment dt | receptionStart dt => exact next_works dt (.whenever _ _ .receiver)
  | lineQuiet found => exact next_works found.dt (.whenever _ _ .receiver)
  | transmitStart dt tank =>
    refine next_works dt ((selectTank_touches _ tank).works.trans (.under _ _ fun h => ?_))
    exact startHead_works _ (Bool.and_eq_true_iff.mp h).1
  | backoffEnd dt tank => exact next_works dt ((selectTank_touches _ tank).works.trans (backoffEnd_works _))
  | collision dt => exact next_works dt (collide_works _)
  | jamEnd dt => exact next_works dt (jamEnd_works _)
  | transmitFault dt => exact next_works dt (transmitFault_works _)
  | sentEnd dt => exact next_works dt (sentEnd_works _)
  | txLossExpiry dt | fuelDiscontinuityExpiry dt | overrunExpiry dt => exact next_works dt (.whenever _ _ (.clear _ _))
  | stationLag dt | rudderSpread dt => exact next_works dt (.whenever _ _ (raiseNew_works _))
  | rudderFollowTimerExpiry dt => exact next_works dt (.whenever _ _ (.trans .still (raiseNew_works _)))
  | repeatTimerExpiry dt =>
    exact next_works dt (.whenever _ _ ((Works.alerts (s.advance dt) { s.comms.alerts with
      repeatTimer := startTimer (s.later dt) (sec 5) } rfl).trans (offerAlert_works _)))
  | demandIntervalExpiry dt | stateIntervalExpiry dt | fuelIntervalExpiry dt | accountIntervalExpiry dt =>
    exact next_works dt (.whenever _ _ (.trans .still (offer_works _ _ _)))
  | strainIntervalExpiry dt => exact next_works dt (.whenever _ _ (.trans .still (offerStrain_works _)))
  | joinTimeExpiry dt =>
    exact next_works dt (.under _ _ fun h => enterActive_works (eq_of_beq (Bool.and_eq_true_iff.mp h).1))
  | controlTick dt order tank =>
    exact next_works dt ((selectTank_touches _ tank).works.trans
      (.whenever _ _ (.trans .still (tickParts_works _ _))))
  | sweep dt =>
    exact next_works dt (.whenever _ _ (.trans .still ((judgeConflict_works _ _).trans (tableChanged_works _ _))))
  | conRequestInput dt on =>
    exact next_works dt (.whenever _ _ (.trans .still (.whenever _ _ (claimCon_works _))))
  | requestTimerExpiry dt => exact next_works dt (requestExpiry_works _)
  | demandTimeoutExpiry dt => exact next_works dt (timeoutExpiry_works _)
  | helmSwitchChange dt mode economy stopAll =>
    exact next_works dt (.whenever _ _ (switchChange_works _ mode economy stopAll))
  | standbySwitch dt on =>
    exact next_works dt (.whenever _ _ (.trans .still (.whenever _ _ (.ite (switchOn_works _) (switchOff_works _)))))
  | rosterClearInput dt on =>
    exact next_works dt (.whenever _ _ (.trans .still (.whenever _ _ (offerWith_works _ _ _))))
  | tankFilledInput dt tank on => exact next_works dt (.whenever _ _ (fillChange_works _ tank on))
  | acknowledgeInput dt on => exact next_works dt (ackChange_works _ on)
  | wakeInput dt on =>
    refine next_works dt ?_
    split
    · exact wakeChange_works _ 7 on
    · exact wakeChange_works _ 2 on
    · exact .refl _
    · exact .refl _
  | engineReadyChange dt on => exact next_works dt (.whenever _ _ (readyChange_works _ on))
  | gearFeedbackChange dt ahead astern =>
    refine next_works dt (.whenever _ _ (.trans (t := ((s.advance dt).setLine 0 ahead).setLine 1 astern) .still
      (.under _ _ fun h => judgeFeedback_works (joined_of_acting (Bool.and_eq_true_iff.mp h).2))))
  | gearFeedbackTimerExpiry dt =>
    refine next_works dt (.under _ _ fun h => ?_)
    simp only [Bool.and_eq_true] at h
    exact faultGear_works (joined_of_acting h.1.2) _
  | shaftPulseTimeout dt => exact next_works dt (.whenever _ _ (.trans .still (setSpeed_works _ _)))
  | noPulseWatchExpiry dt => exact next_works dt (.whenever _ _ (.trans .still (judgeShaft_works _)))
  | deviationStartExpiry dt | agreementStartExpiry dt =>
    exact next_works dt (.whenever _ _ (.trans .still (followAvail_works _ _)))
  | valveSenseChange dt port starboard =>
    exact next_works dt (.whenever _ _ (.trans (t := ((s.advance dt).setLine 5 port).setLine 6 starboard) .still
      (.under _ _ fun h => valveInterlock_works (joined_of_acting (Bool.and_eq_true_iff.mp h).2))))
  | flowWatchExpiry dt => exact next_works dt (.whenever _ _ (.trans .still (judgeFlow_works _)))
  | wireBrokenInput dt on =>
    exact next_works dt (.whenever _ _ (.trans (t := (s.advance dt).setLine 0 on) .still
      (.under _ _ fun h => partedOnset_works (joined_of_acting (Bool.and_eq_true_iff.mp h).2))))
  | runTimerExpiry dt => exact next_works dt (.whenever _ _ (winchRun_works _))
  | captureEdge dt ch => exact next_works dt (edge_works _ ch)
  | noiseTimerExpiry dt ch => exact next_works dt (.whenever _ _ (.trans .still (ownNoise_works _ ch)))
  | sequenceStart dt => exact next_works dt (sequenceStart_works _)
  | sequenceCompletion dt a0 a1 reference => exact next_works dt ((sequenceComplete_works _).trans .still)
  | holdTimeExpiry dt => exact next_works dt (holdExpiry_touches _).works
  | economyTrimEvaluation dt => exact next_works dt (economyEvent_touches _).works
  | releaseTimerExpiry dt => exact next_works dt (releaseExpiry_touches _).works
  | dwellExpiry dt => exact next_works dt (dwellEnd_touches _).works
  | stampExpiry dt ch => exact next_works dt (stampExpiry_touches _ ch).works
  | settleTimerExpiry dt => exact next_works dt (settleExpiry_touches _).works
  | winchLockoutInput dt on => exact next_works dt (whenever_touches _ _ (lockoutChange_touches _ on)).works
  | slackDwellExpiry dt => exact next_works dt (dwellExpiry_touches _).works
  | winchSettleExpiry dt => exact next_works dt (settleEnd_touches _).works
  | fuelRateEvaluation dt => exact next_works dt (rateEvent_touches _).works
  | periodStart dt => exact next_works dt (startPeriod_touches _).works

theorem Turns.later {s t : State} (dt : Micros) (h : Turns (s.advance dt) t) : Turns s t := by
  have pass : Works s (s.advance dt) := .still
  cases h with
  | stays w => exact .stays (pass.trans w)
  | fails w a => exact .fails (pass.trans w) a
  | joins w a => exact .joins (pass.trans w) a
  | halts w a => exact .halts (pass.trans w) a

/-- Every command but the resets. -/
theorem exec_turns (c : Instr) (s : State) (r : isReset c = false) : ∃ t, exec c s = .next t ∧ Turns s t := by
  cases n : turns c with
  | false =>
    obtain ⟨t, e, w⟩ := exec_works c s r n
    exact ⟨t, e, .stays w⟩
  | true =>
    cases c with
    | configReadComplete dt bytes => exact ⟨_, rfl, (configRead_turns _ bytes).later dt⟩
    | referenceCheckComplete dt result => exact ⟨_, rfl, (referenceDone_turns _ result).later dt⟩
    | configWatch dt damage => exact ⟨_, rfl, (watchRun_turns _ damage).later dt⟩
    | _ => nomatch n

/-! ## A step, reset or not -/

/-- The end of a reset: START, or FAILED for a strapping of no role. -/
theorem resetTo_cases (s : State) (cause : ResetCause) (pins : BitVec 2) (address : Addr) (lines : BitVec 16) :
    ∃ u : State, (s.resetTo cause pins address lines = u ∨ s.resetTo cause pins address lines = u.enterFailed) ∧
      u.station = .start ∧ u.comms = Comms.reset address ∧ u.pending = s.pending := by
  unfold State.resetTo State.judgeStrapping
  dsimp only
  split
  · exact ⟨_, .inr rfl, rfl, rfl, rfl⟩
  · exact ⟨_, .inl rfl, rfl, rfl, rfl⟩

theorem has_of_reset {s : State} {a : Addr} (h : s.comms = Comms.reset a) (c : AlertCode) : s.has c = false := by
  have blank : ∀ i : Fin 33, (Tab.all 33 false).get i = false := by decide
  unfold State.has Comms.has
  rw [h]
  exact blank _

theorem reset_listed {s : State} {a : Addr} (h : s.comms = Comms.reset a) : Listed s := by
  refine ⟨?_, fun c _ has => ?_⟩
  · unfold AlertInv
    rw [h]
    exact ⟨Nat.zero_le 16, List.nodup_nil⟩
  · rw [has_of_reset h c] at has
    cases has

/-- In START no trip-class condition is present, so none is missed in the empty list of FAILED. -/
theorem enterFailed_listed {s : State} (h : Listed s) (start : s.station = .start) : Listed s.enterFailed := by
  refine ⟨⟨Nat.zero_le 16, List.nodup_nil⟩, fun c trip has => ?_⟩
  exact absurd start (h.2 c trip has).1

theorem Turns.listed {s t : State} (w : Turns s t) (h : Listed s) : Listed t := by
  cases w with
  | stays w => exact w.listed h
  | fails w a => exact enterFailed_listed (w.listed h) a
  | joins w a => exact (startJoining_works _).listed ((w.listed h).same (fun _ => rfl) rfl rfl)
  | @halts u w a =>
    have withdrawn : Listed (u.withdrawn true) := (w.listed h).same (fun _ => rfl) rfl rfl
    exact ((withdrawn_works u true).listed withdrawn).same id rfl rfl

theorem leaveService_station (s : State) (b : Bool) :
    (s.leaveService b).station = if b then .halted else .listenOnly := by
  unfold State.leaveService
  dsimp only
  rw [(applySafe_touches _).station (by decide), (leaveCon_touches _).station (by decide)]

theorem enterJoining_station (s : State) : s.enterJoining.station = .joining := by
  have t : OnlyTouches [.thrust, .gear, .gov, .outputs, .helm] s.startJoining s.enterJoining :=
    (whenever_touches _ _ (readSwitches_touches _)).mono.trans ((refreshAvailability_touches _).mono.trans
      ((refreshStrain_touches _).mono.trans (applySafe_touches _).mono))
  exact t.station (by decide)

theorem Turns.queues {s t : State} (w : Turns s t) (h : Queues s.station s.comms.link) :
    Queues t.station t.comms.link := by
  cases w with
  | stays w => exact w.queues h
  | @fails u w a =>
    obtain ⟨well, silent⟩ := w.queues h
    exact ⟨well, fun _ _ => silent (by rw [a]; rfl) (by rw [a]; decide)⟩
  | @joins u w a =>
    obtain ⟨well, silent⟩ := w.queues h
    exact (startJoining_works u).queues ⟨well, fun _ _ => silent (by rw [a]; rfl) (by rw [a]; decide)⟩
  | @halts u w a =>
    have withdrawn : Queues (u.withdrawn true).station (u.withdrawn true).comms.link :=
      ⟨⟨Nat.zero_le 8, fun _ _ => Nat.zero_le 1⟩, fun _ _ => ⟨rfl, rfl⟩⟩
    exact put_queues ((withdrawn_works u true).queues withdrawn).1 (.inr (leaveService_station u true)) _ _

/-- What a reset leaves and every turn keeps, every step of the station keeps. -/
theorem step_keeps {P : State → Prop} (waits : ∀ s (l : List Instr), P s → P (s.rest l)) (idles : ∀ s : State, P s → P s.idle)
    (resets : ∀ s cause pins address lines, P s → P (s.resetTo cause pins address lines))
    (runs : ∀ c s t, isReset c = false → P s → exec c s = .next t → P t)
    {s t : State} (h : P s) (e : step s = .next t) : P t := by
  unfold step at e
  split at e
  · cases e
    exact idles s h
  · rename_i c cs _
    cases r : isReset c with
    | false => exact runs c _ t r (waits s cs h) e
    | true =>
      cases c with
      | powerOnReset pins address lines =>
        cases e
        exact resets _ _ pins address lines (waits s cs h)
      | resetLineReset pins address lines =>
        cases e
        exact resets _ _ pins address lines (waits s cs h)
      | _ => nomatch r

theorem step_listed {s t : State} (h : Listed s) (e : step s = .next t) : Listed t := by
  refine step_keeps (P := Listed) (fun _ _ h => h) (fun _ h => h) ?_ ?_ h e
  · intro s cause pins address lines _
    obtain ⟨u, e | e, start, comms, -⟩ := resetTo_cases s cause pins address lines <;> rw [e]
    · exact reset_listed comms
    · exact enterFailed_listed (reset_listed comms) start
  · intro c s t r h e
    obtain ⟨u, e', w⟩ := exec_turns c s r
    cases e.symm.trans e'
    exact w.listed h

theorem step_queues {s t : State} (h : Queues s.station s.comms.link) (e : step s = .next t) :
    Queues t.station t.comms.link := by
  refine step_keeps (P := fun s => Queues s.station s.comms.link) (fun _ _ h => h) (fun _ h => h) ?_ ?_ h e
  · intro s cause pins address lines _
    have rest : ∀ x a, Queues x (Comms.reset a).link := fun _ _ =>
      ⟨⟨Nat.zero_le 8, fun _ _ => Nat.zero_le 1⟩, fun _ _ => ⟨rfl, rfl⟩⟩
    obtain ⟨u, e | e, -, comms, -⟩ := resetTo_cases s cause pins address lines <;> rw [e]
    · rw [comms]; exact rest _ _
    · show Queues _ u.comms.link
      rw [comms]; exact rest _ _
  · intro c s t r h e
    obtain ⟨u, e', w⟩ := exec_turns c s r
    cases e.symm.trans e'
    exact w.queues h

/-! ## TRIP and WARN (R139) -/

theorem isActive_iff (x : EntryState) : isActive x = true ↔ x = .activeUnack ∨ x = .activeAcked := by
  cases x <;> decide

theorem isUnack_iff (x : EntryState) : isUnack x = true ↔ x = .activeUnack ∨ x = .clearedUnack := by
  cases x <;> decide

theorem trip_iff (s : State) : s.trip = true ↔ s.station = .failed ∨
    ∃ e ∈ s.comms.alerts.list, tripClass e.code = true ∧ (e.state = .activeUnack ∨ e.state = .activeAcked) := by
  simp only [State.trip, Bool.or_eq_true, beq_iff_eq, List.any_eq_true, Bool.and_eq_true, isActive_iff]

theorem warn_iff (s : State) : s.warn = true ↔ s.station ≠ .failed ∧
    ∃ e ∈ s.comms.alerts.list, e.state = .activeUnack ∨ e.state = .clearedUnack := by
  simp only [State.warn, Bool.and_eq_true, bne_iff_ne, List.any_eq_true, isUnack_iff]

/-- Settles O55: every command works in steps, and each step keeps the list. -/
theorem everyStepKeepsTheAlertList : Obligations.EveryStepKeepsTheAlertList :=
  ⟨fun _ _ a t e => step_listed ⟨a, t⟩ e, fun s => ⟨trip_iff s, warn_iff s⟩, tripClass_iff⟩

/-- Settles O56: every command works in steps, and each step keeps the queue. -/
theorem everyStepKeepsTheQueue : Obligations.EveryStepKeepsTheQueue :=
  fun s t q k e => (queues_iff t).mpr (step_queues ((queues_iff s).mp ⟨q, k⟩) e)

/-! ## The strapping and the edges of section 12.4 -/

/-- What a reset alone changes, and the commands that wait. -/
structure Strapped (s t : State) : Prop where
  role : t.role = s.role
  address : t.address = s.address
  cause : t.start.cause = s.start.cause
  pending : t.pending = s.pending

theorem Strapped.trans {s t u : State} (h : Strapped s t) (k : Strapped t u) : Strapped s u :=
  ⟨k.role.trans h.role, k.address.trans h.address, k.cause.trans h.cause, k.pending.trans h.pending⟩

theorem OnlyTouches.strapped {ps : List Part} {s t : State} (h : OnlyTouches ps s t)
    (role : Part.role ∉ ps := by decide) (address : Part.address ∉ ps := by decide)
    (start : Part.start ∉ ps := by decide) (pending : Part.pending ∉ ps := by decide) : Strapped s t :=
  ⟨h.role role, h.address address, congrArg _ (h.start start), h.pending pending⟩

theorem Works.strapped {s t : State} (w : Works s t) : Strapped s t := by
  induction w with
  | trans _ _ h k => exact h.trans k
  | quiet q => exact ⟨q.role, q.address, q.cause, q.pending⟩
  | _ => exact ⟨rfl, rfl, rfl, rfl⟩

theorem Turns.strapped {s t : State} (w : Turns s t) : Strapped s t := by
  cases w with
  | stays w => exact w.strapped
  | fails w _ => exact w.strapped.trans ⟨rfl, rfl, rfl, rfl⟩
  | @joins u w _ =>
    exact w.strapped.trans (Strapped.trans (t := u.startJoining) ⟨rfl, rfl, rfl, rfl⟩ (startJoining_works u).strapped)
  | @halts u w _ =>
    exact w.strapped.trans (Strapped.trans (t := u.withdrawn true) ⟨rfl, rfl, rfl, rfl⟩
      ((withdrawn_works u true).strapped.trans ⟨rfl, rfl, rfl, rfl⟩))

/-- The edges that steps of the reports take one after another: to ACTIVE, STANDBY and LISTEN_ONLY. -/
def drifts (x y : StationState) : Bool :=
  x == y || ((x.acting || x == .joining) && (y.acting || y == .listenOnly))

theorem drifts_trans {x y z : StationState} (h : drifts x y = true) (k : drifts y z = true) : drifts x z = true := by
  revert h k
  cases x <;> cases y <;> cases z <;> decide

theorem Works.drifts {s t : State} (w : Works s t) : drifts s.station t.station = true := by
  have same : ∀ x, Machine.drifts x x = true := fun x => by cases x <;> rfl
  have moves : ∀ x y : StationState, x.acting = true ∨ x = .joining → y.acting = true ∨ y = .listenOnly →
      Machine.drifts x y = true := by
    intro x y h k
    simp only [Machine.drifts, Bool.or_eq_true, Bool.and_eq_true, beq_iff_eq]
    exact .inr ⟨h, k⟩
  induction w with
  | trans _ _ h k => exact drifts_trans h k
  | quiet q => rw [q.station]; exact same _
  | stands s x h k => exact moves _ _ h (.inl k)
  | withdraws s h => exact moves _ _ h (.inr rfl)
  | _ => exact same _

/-- From START no step of the reports leads away, and to HALTED the station comes from ACTIVE and STANDBY. -/
theorem Turns.reaches {s t : State} (w : Turns s t) (notWatch : s.station = .joining → t.station ≠ .halted) :
    reachable s.station t.station = true := by
  have edges : ∀ x y, drifts x y = true → reachable x y = true := by
    intro x y; cases x <;> cases y <;> decide
  have fromStart : ∀ x, drifts x .start = true → x = .start := by
    intro x; cases x <;> decide
  cases w with
  | stays w => exact edges _ _ w.drifts
  | @fails u w a =>
    rw [fromStart s.station (a ▸ w.drifts)]
    rfl
  | @joins u w a =>
    rw [fromStart s.station (a ▸ w.drifts), enterJoining_station]
    rfl
  | @halts u w a =>
    have halted : (State.forceAlert (u.leaveService true)).station = .halted := leaveService_station u true
    have d := w.drifts
    have n : s.station ≠ .joining := fun j => notWatch j halted
    rw [halted]
    revert d a n
    cases s.station <;> cases u.station <;> decide

/-- A run of the config watch changes nothing of a station in JOINING but its image. -/
theorem not_halted_from_joining {c : Instr} {s t : State} (r : isReset c = false) (e : exec c s = .next t)
    (j : s.station = .joining) : t.station ≠ .halted := by
  cases n : turns c with
  | false =>
    obtain ⟨u, e', w⟩ := exec_works c s r n
    cases e.symm.trans e'
    have d := w.drifts
    intro h
    rw [j, h] at d
    cases d
  | true =>
    cases c with
    | configReadComplete dt bytes =>
      cases e
      rw [show (s.advance dt).configRead bytes = s.advance dt from whenever_neg (by simp [j]), advance_station, j]
      decide
    | referenceCheckComplete dt result =>
      cases e
      rw [show (s.advance dt).referenceDone result = s.advance dt from whenever_neg (by simp [j]), advance_station, j]
      decide
    | configWatch dt damage =>
      cases e
      unfold State.watchRun
      dsimp only
      rw [whenever_neg (by simp [j, StationState.acting])]
      show s.station ≠ _
      rw [j]
      decide
    | _ => nomatch n

/-- Settles O2. -/
theorem commandsKeepStrappingAndQueue : Obligations.CommandsKeepStrappingAndQueue := by
  intro c s
  cases r : isReset c with
  | false =>
    obtain ⟨t, e, w⟩ := exec_turns c s r
    obtain ⟨role, address, cause, pending⟩ := w.strapped
    exact ⟨t, e, pending, fun _ => ⟨role, address, cause, w.reaches (not_halted_from_joining r e)⟩⟩
  | true =>
    have kept : ∀ cause pins address lines, (s.resetTo cause pins address lines).pending = s.pending := by
      intro cause pins address lines
      obtain ⟨u, e | e, -, -, pending⟩ := resetTo_cases s cause pins address lines <;> rw [e] <;> exact pending
    cases c with
    | powerOnReset pins address lines => exact ⟨_, rfl, kept _ _ _ _, nofun⟩
    | resetLineReset pins address lines => exact ⟨_, rfl, kept _ _ _ _, nofun⟩
    | _ => nomatch r

end Sys2Proof.Machine
end

section
/-! SUPPORT. How every command works on the units: the primitive operations that the machinery, the con and the winch
are made of, and each command as a run of them. What every primitive operation keeps, every command keeps. -/

namespace Sys2Proof.Machine

-- As in Laws/Touches.lean: one theorem at a time.
set_option Elab.async false

/-! ## The primitive operations -/

/-- What a run leaves open of the winch: nothing; the judgement of a changed permit, class or tension fault (R107,
R108); or the causes of LOCKED_OUT as well, at an entry to ACTIVE (R112). -/
inductive WinchDebt where
  | settled | permit | causes
deriving DecidableEq

/-- What a run does with the valve drive: nothing, anything but a start, or anything. -/
inductive DriveScope where
  | untouched | stopping | starting
deriving DecidableEq

/-- What a run may do and leave open: `strain` where a change of the table has not yet been taken into F (R53). -/
structure Scope where
  winch  : WinchDebt
  strain : Bool
  drive  : DriveScope

/-- The scope of a run that a judgement of the winch ends. -/
def Scope.owing (a : Scope) : Scope :=
  { a with winch := match a.winch with | .causes => .causes | .permit => .permit | .settled => .permit }

/-- The scope of a run that the causes of LOCKED_OUT end. -/
def Scope.entering (a : Scope) : Scope := { a with winch := .causes }

theorem Scope.owing_winch (a : Scope) : a.owing.winch ≠ .settled := by
  obtain ⟨winch, -, -⟩ := a
  cases winch <;> exact nofun

/-- The parts that no invariant of the machinery, the con, the winch, the account or the alert view rests on. -/
abbrev inertParts : List Part := [.gov, .meter, .conv, .caps, .alerts, .link]

/-- The con view at a value. -/
abbrev State.withView (s : State) (v : ConView) : State := { s with demand := { s.demand with view := v } }

/-- A drive told another duty (R82). -/
def State.redrive (s : State) (starboard : Bool) (duty : Nat) : State :=
  { s with outputs := (s.writeDuty (valveOutput starboard) duty).outputs,
           steer := { s.steer with valveDuty := duty } }

/-- A condition as its end leaves it, before its owner is told. -/
def State.without (s : State) (c : AlertCode) : State :=
  { s with comms := { s.comms with present := s.comms.present.set (alertIndex c) false } }

/-- The drive state that runs toward a side. -/
def driving (starboard : Bool) : DriveState := if starboard then .drivingStbd else .drivingPort

/-- A run of primitive operations within a scope. -/
inductive Runs : Scope → State → State → Prop
  | trans {a : Scope} {s t u : State} (h : Runs a s t) (k : Runs a t u) : Runs a s u
  | frame {a : Scope} {s t : State} (h : OnlyTouches inertParts s t) : Runs a s t
  | report {a : Scope} {s t : State} (h : OnlyTouches commsParts s t) (run : t.has .winchRun = s.has .winchRun)
      (signal : a.winch ≠ .settled ∨ t.has .tensionSignal = s.has .tensionSignal) : Runs a s t
  | line {a : Scope} {s : State} (i : Fin 16) (on : Bool) (h : s.isCoup = true → i ≠ 1) : Runs a s (s.setLine i on)
  | start {a : Scope} {s : State} (u : StartUnit) (h : u.image = s.start.image) : Runs a s { s with start := u }
  | table {a : Scope} {s : State} (p : PeerTable)
      (h : p.entries = s.peers.entries ∨ (a.winch ≠ .settled ∧ a.strain = true)) : Runs a s { s with peers := p }
  | demand {a : Scope} {s : State} (d : DemandUnit) (view : d.view = s.demand.view)
      (range : s.demand.record.demand.InRange → s.helm.live.InRange → d.record.demand.InRange)
      (permit : (d.record.state = s.demand.record.state ∧ d.record.demand = s.demand.record.demand) ∨
        a.winch ≠ .settled ∨ s.isCoup = false) : Runs a s { s with demand := d }
  | view {a : Scope} {s : State} (v : ConView)
      (h : s.isHelm = true → s.helm.con = .holding → v.holder = some s.address) :
      Runs a s (s.withView v)
  | yields {a : Scope} {s : State} (v : ConView) (h : s.isHelm = true) :
      Runs a s ((s.withView v).setHolderLow none).leaveHolding
  | helm {a : Scope} {s : State} (u : HelmUnit)
      (con : u.con = .holding → s.helm.con = .holding ∨ (s.isHelm = true ∧ s.demand.view.holder = some s.address))
      (range : s.helm.live.InRange → s.helm.current.InRange → u.live.InRange ∧ u.current.InRange) :
      Runs a s { s with helm := u }
  | thrust {a : Scope} {s : State} (u : ThrustUnit)
      (same : u.x = s.thrust.x ∧ u.duty = s.thrust.duty ∧ u.ahead = s.thrust.ahead ∧ u.astern = s.thrust.astern ∧
        u.strain = s.thrust.strain)
      (trim : TrimInv s → 200 ≤ u.trim ∧ u.trim ≤ 1000) : Runs a s { s with thrust := u }
  | drives {a : Scope} {s : State} (x : Int) (g : GearState)
      (ok : ThrustInv s → s.isProp = true → -(s.thrust.astern : Int) ≤ x ∧ x ≤ s.thrust.ahead ∧
        (x = 0 ∨ (engaged g = true ∧ s.station.acting = true))) : Runs a s (s.setDrive x g)
  | avail {a : Scope} {s : State} : Runs a s s.refreshAvailability
  | refreshed {a : Scope} {s t : State} (h : Runs { a with strain := true } s t) : Runs a s t.refreshStrain
  | gear {a : Scope} {s : State} (u : GearUnit) (h : u.state = s.gear.state) : Runs a s { s with gear := u }
  | steer {a : Scope} {s : State} (u : SteeringUnit) (h : u.drive = s.steer.drive) : Runs a s { s with steer := u }
  | books {a : Scope} {s : State} (u : AccountUnit)
      (h : AccountInv s → AccountInv { s with account := u } ∧ ∀ k, s.account.totals.get k ≤ u.totals.get k) :
      Runs a s { s with account := u }
  | items {a : Scope} {s : State} (u : ViewUnit) (h : ViewInv s → ViewInv { s with view := u }) :
      Runs a s { s with view := u }
  | starts {a : Scope} {s : State} (b : Bool) (d : Nat) (acts : s.station.acting = true)
      (h : s.steer.drive = .stopped) (k : a.drive = .starting) : Runs a s (s.startDrive b d)
  | stops {a : Scope} {s : State} (b : Bool) (acts : s.station.acting = true) (h : s.steer.drive = driving b)
      (k : a.drive ≠ .untouched) : Runs a s (s.stopDrive b)
  | redrives {a : Scope} {s : State} (b : Bool) (d : Nat) (acts : s.station.acting = true)
      (h : s.steer.drive = driving b) (k : a.drive ≠ .untouched) : Runs a s (s.redrive b d)
  | inhibits {a : Scope} {s : State} (k : a.drive ≠ .untouched) : Runs a s s.inhibitDrive
  | releases {a : Scope} {s : State} (u : SteeringUnit)
      (h : u.drive = s.steer.drive ∨ (s.steer.drive = .inhibited ∧ u.drive = .stopped)) (k : a.drive ≠ .untouched) :
      Runs a s { s with steer := u }
  | enters {a : Scope} {s t : State} (h : Runs { a with drive := .untouched } s t) (safe : s.station.safe = true)
      (u : SteeringUnit) (stopped : u.drive = .stopped) (k : a.drive ≠ .untouched) : Runs a s { t with steer := u }
  | periods {a : Scope} {s : State} (k : a.drive ≠ .untouched) : Runs a s s.startPeriod
  | stands {a : Scope} {s : State} (x : StationState) (h : s.station.acting = true ∨ s.station = .joining)
      (k : x.acting = true) (awake : x = .standby → s.isHelm = false) (coup : s.isCoup = false ∨ a.winch = .causes) :
      Runs a s { s with station := x }
  | coupStands {a : Scope} {s : State} (h : s.station.acting = true) (c : s.isCoup = true) :
      Runs a s { s with station := .standby, coup := s.coup.rest .idle }
  | coup {a : Scope} {s : State} (u : CouplingUnit)
      (same : u.winch = s.coup.winch ∧ u.dwellTimer = s.coup.dwellTimer ∧ u.supervised = s.coup.supervised)
      (cls : a.winch ≠ .settled ∨ u.cls = s.coup.cls) : Runs a s { s with coup := u }
  | supervises {a : Scope} {s : State} (u : CouplingUnit)
      (same : u.winch = s.coup.winch ∧ u.dwellTimer = s.coup.dwellTimer) (up : u.supervised = true)
      (h : a.winch = .causes) : Runs a s { s with coup := u }
  | judged {a : Scope} {s t : State} (h : Runs a.owing s t) : Runs a s t.judgeWinch
  | caused {a : Scope} {s t : State} (h : Runs a.entering s t) : Runs a s t.winchCauses
  | free {a : Scope} {s t : State} (h : Runs a.entering s t) (c : s.isCoup = false) : Runs a s t
  | heaves {a : Scope} {s : State} : Runs a s s.dwellExpiry
  | hauls {a : Scope} {s : State} : Runs a s s.hauledTaut
  | overruns {a : Scope} {s : State} (h : s.station = .active ∧ s.coup.winch = .heaving) : Runs a s s.winchRun
  | settles {a : Scope} {s : State} : Runs a s s.settleEnd
  | locks {a : Scope} {s : State} (on : Bool) (c : s.isCoup = true) : Runs a s (s.lockoutChange on)
  | frees {a : Scope} {s : State} : Runs a s (s.without .winchRun).unlockWinch
  | withdraws {a : Scope} {s : State} (b : Bool) (h : s.station.acting = true ∨ s.station = .joining)
      (k : a.drive ≠ .untouched) : Runs a s (s.leaveService b)
  | fails {a : Scope} {s : State} (h : s.station = .start) (k : a.drive ≠ .untouched) : Runs a s s.enterFailed
  | joins {a : Scope} {s : State} (h : s.station = .start) (k : a.drive ≠ .untouched) : Runs a s s.enterJoining

theorem Runs.refl {a : Scope} (s : State) : Runs a s s := .frame (.refl _ s)

/-- A change of inert parts. -/
theorem OnlyTouches.runs {a : Scope} {ps : List Part} {s t : State} (h : OnlyTouches ps s t)
    (sub : ∀ p ∈ ps, p ∈ inertParts := by decide) : Runs a s t := .frame (h.mono sub)

theorem Runs.still {a : Scope} {s t : State}
    (h : ∀ p, p ∈ inertParts ∨ p.same s t := by intro p; cases p <;> first | exact .inl (by decide) | exact .inr rfl) :
    Runs a s t := .frame (.of h)

theorem Runs.ite {a : Scope} {s t u : State} {c : Prop} [Decidable c] (h : Runs a s t) (k : Runs a s u) :
    Runs a s (if c then t else u) := by
  split <;> assumption

/-- An operation under its test. -/
theorem Runs.under {a : Scope} {f : State → State} (s : State) (p : Bool) (h : p = true → Runs a s (f s)) :
    Runs a s (s.whenever p f) := by
  unfold State.whenever
  split
  · exact h ‹_›
  · exact .refl s

theorem Runs.whenever {a : Scope} {f : State → State} (s : State) (p : Bool) (h : Runs a s (f s)) :
    Runs a s (s.whenever p f) :=
  .under s p fun _ => h

variable {a : Scope}

/-! ## Reports (sections 8.2, 9.6) -/

/-- The conditions that the winch rests on (R107 to R111). -/
def winchAlert (c : AlertCode) : Bool := c == .winchRun || c == .tensionSignal

theorem winchAlert_ne {c : AlertCode} (h : winchAlert c = false) : .winchRun ≠ c ∧ .tensionSignal ≠ c := by
  simp only [winchAlert, Bool.or_eq_false_iff, beq_eq_false_iff_ne] at h
  exact ⟨h.1.symm, h.2.symm⟩

theorem raise_runs (s : State) {c : AlertCode} (h : winchAlert c = false := by decide) : Runs a s (s.raise c) := by
  obtain ⟨run, signal⟩ := winchAlert_ne h
  obtain ⟨-, -, others, -⟩ := raise_raises s c
  exact .report (raise_touches s c) (others _ run (.inl (by decide))) (.inr (others _ signal (.inl (by decide))))

theorem raiseNew_runs (s : State) {c : AlertCode} (h : winchAlert c = false := by decide) : Runs a s (s.raiseNew c) := by
  have r := raiseNew_raised s c
  unfold Raised at r
  split at r
  · rw [r]; exact .refl s
  · obtain ⟨run, signal⟩ := winchAlert_ne h
    obtain ⟨-, -, others, -⟩ := r
    exact .report (raiseNew_touches s c) (others _ run (.inl (by decide))) (.inr (others _ signal (.inl (by decide))))

theorem clear_runs (s : State) {c : AlertCode} (h : winchAlert c = false := by decide) : Runs a s (s.clear c) := by
  have r := clear_ended s c
  unfold Ended at r
  split at r
  · obtain ⟨run, signal⟩ := winchAlert_ne h
    obtain ⟨-, -, others, -⟩ := r
    exact .report (clear_touches s c) (others _ run (.inl (by decide))) (.inr (others _ signal (.inl (by decide))))
  · rw [r]; exact .refl s

/-- A tension fault raised or ended: the winch is to be judged. -/
theorem raiseSignal_runs (s : State) (w : a.winch ≠ .settled) : Runs a s (s.raiseNew .tensionSignal) := by
  have r := raiseNew_raised s .tensionSignal
  unfold Raised at r
  split at r
  · rw [r]; exact .refl s
  · obtain ⟨-, -, others, -⟩ := r
    exact .report (raiseNew_touches s _) (others _ (by decide) (.inl (by decide))) (.inl w)

theorem clearSignal_runs (s : State) (w : a.winch ≠ .settled) : Runs a s (s.clear .tensionSignal) := by
  have r := clear_ended s .tensionSignal
  unfold Ended at r
  split at r
  · obtain ⟨-, -, others, -⟩ := r
    exact .report (clear_touches s _) (others _ (by decide) (.inl (by decide))) (.inl w)
  · rw [r]; exact .refl s

theorem follow_runs (s : State) {c : AlertCode} (b : Bool) (h : winchAlert c = false := by decide) :
    Runs a s (s.follow c b) :=
  .ite (raiseNew_runs s h) (clear_runs s h)

theorem followChange_runs (s : State) {c : AlertCode} (was b : Bool) (h : winchAlert c = false := by decide) :
    Runs a s (s.followChange c was b) :=
  .ite (.refl s) (follow_runs s b h)

theorem relist_runs (s : State) (l : List AlertEntry) : Runs a s (s.relist l) := by
  obtain ⟨-, others, -⟩ := relist_relisted s l
  exact .report (relist_touches s l) (others _ (.inl (by decide))) (.inr (others _ (.inl (by decide))))

theorem without_runs (s : State) {c : AlertCode} (h : winchAlert c = false) : Runs a s (s.without c) := by
  obtain ⟨run, signal⟩ := winchAlert_ne h
  exact .report (.of fun p => by cases p <;> first | exact .inl (by decide) | exact .inr rfl)
    (has_set_ne s.comms false run) (.inr (has_set_ne s.comms false signal))

theorem offered_has (s : State) (w : Waiting) {c : AlertCode} (h : c ≠ .txLoss) :
    (s.comms.offer s.station s.clock w).has c = s.has c := by
  unfold Comms.offer
  split
  · exact afterLoss_has _ _ _ _ (.inl h)
  · rfl

theorem offer_runs (s : State) (k : FrameKind) (c : Fin 4) : Runs a s (s.offer k c) :=
  .report (offer_touches s k c) (offered_has s _ (by decide)) (.inr (offered_has s _ (by decide)))

theorem offerWith_runs (s : State) (c : Fin 4) (p : Payload) : Runs a s (s.offerWith c p) :=
  .report (offerWith_touches s c p) (offered_has s _ (by decide)) (.inr (offered_has s _ (by decide)))

theorem offerAlert_runs (s : State) : Runs a s s.offerAlert := offer_runs s _ _

/-- The reports taken over from a run that touches nothing else. -/
theorem Runs.comms {s t : State} (w : Runs a s t) (h : OnlyTouches commsParts s t) :
    Runs a s { s with comms := t.comms } := by
  refine w.trans (.still fun p => ?_)
  have same := h p
  cases p
  case present | alerts | link => exact .inr rfl
  all_goals exact .inr (same (by decide)).symm

/-! ## Peer table (chapter 1) -/

theorem judgeConflict_runs (s : State) (was : Bool) : Runs a s (s.judgeConflict was) :=
  (Runs.ite (c := s.station.reporting = true) (followChange_runs s was _) (.refl s)).comms
    (.ite (followChange_touches s _ _ _) (.refl _ s))

theorem judgeSilent_runs (s : State) (was : Bool) : Runs a s (s.judgeSilent was) :=
  (Runs.ite (c := (s.station.reporting && (s.isHelm || s.isProp)) = true) (followChange_runs s was _) (.refl s)).comms
    (.ite (followChange_touches s _ _ _) (.refl _ s))

theorem recordConflict_runs (s : State) (x : Addr) : Runs a s (s.recordConflict x) :=
  .trans (.table (s := s) { s.peers with conflicts := s.peers.conflicts.set x (some s.clock) } (.inl rfl))
    (judgeConflict_runs _ _)

/-! ## Thrust unit and gear (chapters 3 and 4) -/

theorem judgeEngine_runs (s : State) : Runs a s s.judgeEngine :=
  (Runs.ite (c := (s.isProp && !s.line 2) = true) (raiseNew_runs s) (.refl s)).comms
    (.ite (raiseNew_touches s _) (.refl _ s))

theorem rampToward_bounds (x want lo hi : Int) (step : Nat) (hx : lo ≤ x ∧ x ≤ hi) (hw : lo ≤ want ∧ want ≤ hi) :
    lo ≤ rampToward x want step ∧ rampToward x want step ≤ hi := by
  unfold rampToward
  split
  · exact hw
  · split <;> omega

theorem clampInt_bounds {lo hi : Int} (x : Int) (h : lo ≤ hi) : lo ≤ clampInt lo hi x ∧ clampInt lo hi x ≤ hi := by
  unfold clampInt
  split
  · omega
  · split <;> omega

/-- The desired value lies between 0 and the target, and is 0 outside an engaged gear (R46). -/
theorem desiredValue_cases (g : GearState) (stop : Bool) (target : Int) :
    desiredValue g stop target = 0 ∨ (engaged g = true ∧ desiredValue g stop target = target) := by
  unfold desiredValue
  split
  · split
    · exact .inr ⟨rfl, rfl⟩
    · exact .inl rfl
  · split
    · exact .inr ⟨rfl, rfl⟩
    · exact .inl rfl
  · exact .inl rfl

theorem rampToward_zero (step : Nat) : rampToward 0 0 step = 0 := if_pos (Nat.zero_le step)

theorem thrustTick_runs {s : State} (act : s.station = .active) : Runs a s s.thrustTick := by
  refine .trans (.thrust (s := s) { s.thrust with lastTarget := s.target } ⟨rfl, rfl, rfl, rfl, rfl⟩ id)
    (.drives _ _ fun inv prop => ?_)
  obtain ⟨zero, low, high, -, -⟩ := inv prop
  dsimp only at zero low high ⊢
  have target := clampInt_bounds (lo := -(s.thrust.astern : Int)) (hi := s.thrust.ahead) (x := economicShare
    (shareOf (strainScaled (convoyRequest s.demandD s.rating) s.thrust.strain) s.thrust.ahead s.thrust.astern
      s.sumAhead s.sumAstern) s.thrust.trim + turnDifferential s.demand.record.demand.turn
        (s.param Param.turnAuthority) (s.param Param.ratedThrust) s.side) (by omega)
  have want : -(s.thrust.astern : Int) ≤ desiredValue s.gear.state s.demand.record.demand.stopAll s.target ∧
      desiredValue s.gear.state s.demand.record.demand.stopAll s.target ≤ s.thrust.ahead := by
    obtain e | ⟨-, e⟩ := desiredValue_cases s.gear.state s.demand.record.demand.stopAll s.target <;> rw [e]
    · omega
    · exact target
  have held := rampToward_bounds s.thrust.x _ _ _ (rampStep (s.param Param.rampRate) s.thrust.strain
    s.demand.record.demand.stopAll) ⟨low, high⟩ want
  refine ⟨held.1, held.2, ?_⟩
  obtain e | ⟨e, -⟩ := desiredValue_cases s.gear.state s.demand.record.demand.stopAll s.target
  · obtain z | z := zero
    · left; rw [e, z]; exact rampToward_zero _
    · exact .inr z
  · exact .inr ⟨e, by rw [act]; rfl⟩

theorem setGear_runs (s : State) (g : GearState) : Runs a s (s.setGear g) := by
  have moved : Runs a s (s.setDrive (if engaged s.gear.state && !engaged g then 0 else s.thrust.x) g) := by
    refine .drives _ _ fun inv prop => ?_
    obtain ⟨zero, low, high, -, -⟩ := inv prop
    split
    · exact ⟨by omega, by omega, .inl rfl⟩
    · rename_i n
      refine ⟨low, high, zero.imp_right fun ⟨e, act⟩ => ⟨?_, act⟩⟩
      simpa [e] using n
  exact .ite moved (moved.trans .avail)

theorem enterGear_runs (s : State) (g : GearState) : Runs a s (s.enterGear g) :=
  .trans (.gear (s := s) (s.gear.entry s.clock (ms (s.param Param.neutralDwell)) g) rfl) (setGear_runs _ g)

theorem disengage_runs (s : State) : Runs a s s.disengage :=
  .ite ((enterGear_runs s _).trans (enterGear_runs _ _)) (enterGear_runs s _)

theorem faultGear_runs (s : State) {c : AlertCode} (h : winchAlert c = false := by decide) : Runs a s (s.faultGear c) :=
  (raise_runs s h).trans (enterGear_runs _ _)

theorem beginRelease_runs (s : State) : Runs a s s.beginRelease :=
  .ite (.gear (s := s) _ rfl) (.ite (disengage_runs s) (.gear (s := s) _ rfl))

theorem abandonRelease_runs (s : State) : Runs a s s.abandonRelease := .gear (s := s) _ rfl

theorem gearAction_runs (s : State) : Runs a s s.gearAction := by
  unfold State.gearAction
  split
  · exact .ite (enterGear_runs s _) (.refl s)
  · split
    · exact .ite (beginRelease_runs s) (.refl s)
    · exact .ite (abandonRelease_runs s) (.ite (disengage_runs s) (.refl s))
    · exact .ite (.refl s) (abandonRelease_runs s)
  · split
    · exact .ite (beginRelease_runs s) (.refl s)
    · exact .ite (abandonRelease_runs s) (.ite (disengage_runs s) (.refl s))
    · exact .ite (.refl s) (abandonRelease_runs s)
  all_goals exact .refl s

theorem judgeFeedback_runs (s : State) : Runs a s s.judgeFeedback := by
  unfold State.judgeFeedback
  split
  · exact faultGear_runs s
  · exact faultGear_runs s
  · exact enterGear_runs s _
  · exact .refl s

theorem superviseGear_runs (s : State) : Runs a s s.superviseGear := by
  unfold State.superviseGear
  refine .trans (.gear (s := s) { s.gear with supervised := true } rfl) ?_
  dsimp only
  split
  · exact enterGear_runs _ _
  · exact faultGear_runs _
  · exact enterGear_runs _ _
  · exact enterGear_runs _ _

theorem gearAnswer_runs (s : State) : Runs a s s.gearAnswer := by
  unfold State.gearAnswer
  split
  · split
    · exact enterGear_runs s _
    all_goals exact raise_runs s
  · exact .refl s

/-! ## Governor supervisor (section 4.7) -/

theorem followAvail_runs (s : State) {c : AlertCode} (b : Bool) (h : winchAlert c = false := by decide) :
    Runs a s (s.followAvail c b) :=
  .ite (.refl s) ((follow_runs s b h).trans .avail)

theorem raiseAvail_runs (s : State) {c : AlertCode} (h : winchAlert c = false := by decide) :
    Runs a s (s.raiseAvail c) :=
  (raise_runs s h).trans .avail

theorem judgeShaft_runs (s : State) : Runs a s s.judgeShaft :=
  .whenever s _ (followAvail_runs s _)

theorem judgeOverspeed_runs (s : State) : Runs a s s.judgeOverspeed :=
  .whenever s _ (raiseAvail_runs s)

theorem setSpeed_runs (s : State) (r : Nat) : Runs a s (s.setSpeed r) :=
  .ite (.refl s) (.trans .still ((judgeOverspeed_runs _).trans (.whenever _ _ (followJudgement_touches _).runs)))

theorem shaftEdge_runs (s : State) (p : Option Nat) : Runs a s (s.shaftEdge p) := by
  cases p with
  | none => exact .trans .still (judgeShaft_runs _)
  | some p => exact .trans .still ((judgeShaft_runs _).trans (setSpeed_runs _ _))

theorem judgeReady_runs (s : State) (on : Bool) : Runs a s (s.judgeReady on) :=
  .ite (.whenever s _ (clear_runs s)) (.whenever s _ (raiseNew_runs s))

theorem readyChange_runs (s : State) (on : Bool) : Runs a s (s.readyChange on) :=
  .ite (.refl s) (.trans (.line (s := s) 2 on fun _ => by decide) (.trans .still ((judgeReady_runs _ _).trans .avail)))

theorem superviseGovernor_runs (s : State) : Runs a s s.superviseGovernor :=
  .trans .still ((judgeShaft_runs _).trans (judgeOverspeed_runs _))

/-! ## Steering unit (chapter 5) -/

theorem driveStopped_runs {s : State} (acts : s.station.acting = true) (h : s.steer.drive = .stopped)
    (k : a.drive = .starting) : Runs a s s.driveStopped :=
  .ite (.refl s) (.ite (.refl s) (.starts _ _ acts h k))

theorem driveRunning_runs {s : State} {b : Bool} (acts : s.station.acting = true) (h : s.steer.drive = driving b)
    (k : a.drive ≠ .untouched) : Runs a s (s.driveRunning b) :=
  have stop : Runs a s (s.stopDrive b) := .stops b acts h k
  .ite (stop.trans (clear_runs _)) (.ite stop (.ite stop (.ite (.refl s) (.redrives b _ acts h k))))

theorem driveStep_runs {s : State} (acts : s.station.acting = true) (k : a.drive = .starting) :
    Runs a s s.driveStep := by
  have touched : a.drive ≠ .untouched := by rw [k]; exact nofun
  unfold State.driveStep
  split
  · exact driveStopped_runs acts ‹_› k
  · exact driveRunning_runs acts ‹_› touched
  · exact driveRunning_runs acts ‹_› touched
  · exact .refl s

theorem feedbackFault_runs (s : State) (k : a.drive ≠ .untouched) : Runs a s s.feedbackFault :=
  .ite (.refl s) ((raiseNew_runs s (c := .rudderFeedback)).trans
    (.trans (.steer (s := s.raiseNew .rudderFeedback) { s.steer with feedback := true, deviation := none } rfl)
      (.inhibits k)))

theorem valveInterlock_runs (s : State) (k : a.drive ≠ .untouched) : Runs a s s.valveInterlock :=
  (raise_runs s (c := .rudderInterlock)).trans
    (.trans (.steer (s := s.raise .rudderInterlock) { s.steer with interlock := true } rfl) (.inhibits k))

theorem released_drive (u : SteeringUnit) :
    u.released.drive = u.drive ∨ (u.drive = .inhibited ∧ u.released.drive = .stopped) := by
  unfold SteeringUnit.released
  dsimp only
  split
  · rename_i h; exact .inr ⟨h.1, rfl⟩
  · exact .inl rfl

theorem feedbackEnd_runs (s : State) (k : a.drive ≠ .untouched) : Runs a s s.feedbackEnd :=
  .ite ((clear_runs s (c := .rudderFeedback)).trans (.releases (s := s.clear .rudderFeedback)
    (SteeringUnit.released { s.steer with feedback := false }) (released_drive _) k)) (.refl s)

theorem interlockAnswer_runs (s : State) (k : a.drive ≠ .untouched) : Runs a s s.interlockAnswer :=
  .ite (raise_runs s) (.releases (s := s) (SteeringUnit.released { s.steer with interlock := false })
    (released_drive _) k)

theorem spreadStep_runs (s : State) : Runs a s s.spreadStep := by
  unfold State.spreadStep
  split
  · exact .steer (s := s) _ rfl
  · exact .trans (.steer (s := s) { s.steer with deviation := none } rfl) (clear_runs _)
  · exact .trans (.steer (s := s) { s.steer with deviation := none } rfl) (clear_runs _)

theorem findRudderDemand_runs (s : State) : Runs a s s.findRudderDemand := .steer (s := s) _ rfl

theorem rudderStep_runs {s : State} (acts : s.station.acting = true) (k : a.drive = .starting) :
    Runs a s s.rudderStep := by
  have touched : a.drive ≠ .untouched := by rw [k]; exact nofun
  have ended : s.feedbackEnd.findRudderDemand.station.acting = true :=
    ((feedbackEnd_touches s).station (by decide)).symm ▸ acts
  exact (feedbackEnd_runs s touched).trans ((findRudderDemand_runs _).trans
    ((driveStep_runs ended k).trans (spreadStep_runs _)))

theorem rudderFault_runs (s : State) (k : a.drive ≠ .untouched) : Runs a s s.rudderFault :=
  .ite (.refl s) ((feedbackFault_runs s k).trans (findRudderDemand_runs _))

theorem rudderDelivery_runs (s : State) (r : Raw) (ok : Bool) (k : a.drive = .starting) :
    Runs a s (s.rudderDelivery r ok) :=
  .ite (.trans (.steer (s := s) { s.steer with angle := rudderAngle (s.param Param.angleSpan) r } rfl)
      (.under _ _ fun h => rudderStep_runs (Bool.and_eq_true_iff.mp h).2 k))
    (.whenever s _ (rudderFault_runs s (by rw [k]; exact nofun)))

theorem valveSense_runs (s : State) (port starboard : Bool) (k : a.drive ≠ .untouched) :
    Runs a s (s.valveSense port starboard) :=
  .trans (.line (s := s) 5 port fun _ => by decide) (.trans (.line (s := s.setLine 5 port) 6 starboard fun _ => by decide)
    (.whenever _ _ (valveInterlock_runs _ k)))

end Sys2Proof.Machine
end

section
/-! SUPPORT. How the operations of the winch, the coupling unit, the account, the view and the con are made of the
primitive ones. -/

namespace Sys2Proof.Machine

-- As in Laws/Touches.lean: one theorem at a time.
set_option Elab.async false

variable {a : Scope}

/-! ## Winch (section 6.6) -/

theorem runExpiry_runs (s : State) : Runs a s s.runExpiry :=
  .under s _ fun h => by
    simp only [Bool.and_eq_true, beq_iff_eq] at h
    exact .overruns ⟨h.1.1.2, h.1.2⟩

theorem drumEdge_runs (s : State) : Runs a s s.drumEdge :=
  .under s _ fun h => by
    simp only [Bool.and_eq_true, beq_iff_eq] at h
    exact .trans (.coup (s := s) { s.coup with drumCount := ((s.caps.get 0).count - s.coup.drumSnap).toNat }
      ⟨rfl, rfl, rfl⟩ (.inr rfl)) (.whenever _ _ (.overruns ⟨h.1.2, h.2⟩))

/-! ## Standing by (section 12.5) -/

theorem restartRepeat_runs (s : State) : Runs a s s.restartRepeat := (restartRepeat_touches s).runs

/-- A change of the demand unit beside its view and its record. -/
theorem timers_runs (s : State) (d : DemandUnit) (view : d.view = s.demand.view := by rfl)
    (record : d.record = s.demand.record := by rfl) : Runs a s { s with demand := d } :=
  .demand d view (fun h _ => record ▸ h) (.inl ⟨by rw [record], by rw [record]⟩)

theorem propStandby_runs {s : State} (act : s.station.acting = true) (prop : s.isProp = true) :
    Runs a s s.propStandby := by
  have helm : s.isHelm = false := isHelm_of_prop prop
  refine (clear_runs s (c := .engineNotReady)).trans
    ((Runs.stands (s := s.clear .engineNotReady) .standby (.inl act) rfl (fun _ => helm)
      (.inl (isCoup_of_prop prop))).trans ?_)
  refine (timers_runs _ s.demand.pause).trans (.trans (.thrust (u := { s.thrust with
    lastTarget := 0, economy := none, stateSeries := none }) ?_ ?_) (.trans .still
      ((offer_runs _ _ _).trans (offer_runs _ _ _))))
  · exact ⟨rfl, rfl, rfl, rfl, rfl⟩
  · exact id

theorem startPropSeries_runs (s : State) : Runs a s s.startPropSeries :=
  .trans (.thrust (s := s) { s.thrust with
      economy := startTimer s.clock (sec 1), stateSeries := startTimer s.clock (ms (s.param Param.stateInterval)) }
    ⟨rfl, rfl, rfl, rfl, rfl⟩ id) .still

theorem propReturn_runs {s : State} (act : s.station.acting = true) (prop : s.isProp = true) :
    Runs a s s.propReturn :=
  (Runs.stands (s := s) .active (.inl act) rfl nofun (.inl (isCoup_of_prop prop))).trans
    ((timers_runs _ s.resumeDemand).trans ((restartRepeat_runs _).trans ((startPropSeries_runs _).trans
      ((offer_runs _ _ _).trans (judgeEngine_runs _)))))

theorem standbyTest_runs (s : State) : Runs a s s.standbyTest :=
  .under s _ fun h => by
    simp only [Bool.and_eq_true] at h
    exact propStandby_runs (acting_of_active h.1.1.2) h.1.1.1

theorem offerStrain_runs (s : State) : Runs a s s.offerStrain := offer_runs s _ _

theorem coupStandby_runs {s : State} (act : s.station.acting = true) (coup : s.isCoup = true) :
    Runs a s s.coupStandby := by
  refine (Runs.coupStands (s := s) act coup).trans ((timers_runs _ s.demand.pause).trans
    (.trans (.coup (u := { s.coup.rest .idle with interval := none }) ?_ (.inr rfl)) (.trans .still
      (offerStrain_runs _))))
  exact ⟨rfl, rfl, rfl⟩

theorem coupReturn_runs {s : State} (act : s.station.acting = true) : Runs a s s.coupReturn := by
  refine .caused ((Runs.stands (s := s) .active (.inl act) rfl nofun (.inr rfl)).trans
    ((timers_runs _ s.resumeDemand).trans (.trans (.coup (u := { s.coup with
      interval := startTimer s.clock (ms (s.param Param.strainInterval)) }) ?_ (.inr rfl)) (.trans .still
        ((restartRepeat_runs _).trans (offerStrain_runs _))))))
  exact ⟨rfl, rfl, rfl⟩

theorem judgeCoupStandby_runs (s : State) : Runs a s s.judgeCoupStandby :=
  .under s _ fun h => by
    simp only [Bool.and_eq_true] at h
    exact coupStandby_runs (acting_of_active h.1.1.2) h.1.1.1

theorem standbyByClass_runs (s : State) : Runs a s s.standbyByClass := by
  unfold State.standbyByClass
  split
  · rename_i h
    simp only [Bool.and_eq_true] at h
    exact coupReturn_runs (acting_of_standby h.1.2)
  · exact judgeCoupStandby_runs s

theorem setRequest_runs (s : State) : Runs a s s.setRequest :=
  .ite (.refl s) (.trans (.start (s := s) { s.start with request := true } rfl) (judgeCoupStandby_runs _))

theorem clearRequest_runs (s : State) : Runs a s s.clearRequest := by
  have cleared : Runs a s { s with start := { s.start with request := false } } := .start (s := s) _ rfl
  unfold State.clearRequest
  dsimp only
  split
  · rename_i h
    have act : s.station.acting = true := acting_of_standby (Bool.and_eq_true_iff.mp h).2
    split
    · exact cleared.trans (propReturn_runs act ‹_›)
    · exact .ite (cleared.trans (coupReturn_runs act)) cleared
  · exact cleared

theorem wakeChange_runs (s : State) (i : Fin 16) (on : Bool) (h : i ≠ 1) : Runs a s (s.wakeChange i on) :=
  .trans (.line (s := s) i on fun _ => h) (.whenever _ _ (clearRequest_runs _))

/-! ## Coupling unit (chapter 6) -/

theorem onset_runs (s : State) : Runs a s s.markOnset :=
  .trans (.coup (s := s) { s.coup with onset := some s.clock } ⟨rfl, rfl, rfl⟩ (.inr rfl)) .still

theorem clearClass_runs (s : State) (c : StrainClass) : Runs a s (s.clearClass c) := by
  unfold State.clearClass
  split
  · rename_i d h
    exact clear_runs s (by cases c <;> cases h <;> rfl)
  · exact .refl s

theorem raiseClass_runs (s : State) (c : StrainClass) : Runs a s (s.raiseClass c) := by
  unfold State.raiseClass
  split
  · rename_i d h
    exact raiseNew_runs s (by cases c <;> cases h <;> rfl)
  · exact .refl s

/-- The class at a value, where the winch is still to be judged. -/
theorem class_runs (s : State) (u : CouplingUnit) (w : a.winch ≠ .settled)
    (same : u.winch = s.coup.winch ∧ u.dwellTimer = s.coup.dwellTimer ∧ u.supervised = s.coup.supervised) :
    Runs a s { s with coup := u } := .coup u same (.inl w)

theorem reportClass_runs {s t : State} (h : Runs a.owing s t) : Runs a s t.reportClass :=
  (Runs.judged (h.trans (offerStrain_runs t))).trans (standbyByClass_runs _)

theorem changeClass_runs (s : State) (c : StrainClass) : Runs a s (s.changeClass c) := by
  refine .ite (.refl s) (reportClass_runs ((clearClass_runs s s.coup.cls).trans
    (.trans (class_runs (s.clearClass s.coup.cls) { (s.clearClass s.coup.cls).coup with cls := c } a.owing_winch ?_)
      ((raiseClass_runs _ _).trans (.ite (onset_runs _) (.refl _))))))
  exact ⟨rfl, rfl, rfl⟩

theorem partedOnset_runs (s : State) : Runs a s s.partedOnset := by
  refine reportClass_runs ((Runs.ite (.refl s) (clearClass_runs s s.coup.cls)).trans (.trans (class_runs _ _
    a.owing_winch ?_) ((raise_runs _ (c := .parted)).trans (onset_runs _))))
  exact ⟨rfl, rfl, rfl⟩

theorem partedAnswer_runs (s : State) : Runs a s s.partedAnswer :=
  .ite ((raise_runs s (c := .parted)).trans ((onset_runs _).trans (offerStrain_runs _)))
    (.trans (.coup (s := s) { s.coup with partedLatch := false } ⟨rfl, rfl, rfl⟩ (.inr rfl)) (changeClass_runs _ _))

theorem wireChange_runs (s : State) (on : Bool) : Runs a s (s.wireChange on) :=
  .trans (.line (s := s) 0 on fun _ => by decide) (.whenever _ _ (partedOnset_runs _))

theorem noteWindow_runs (s : State) : Runs a s s.noteWindow := .coup (s := s) _ ⟨rfl, rfl, rfl⟩ (.inr rfl)

theorem judgeClass_runs (s : State) (w : a.winch ≠ .settled) : Runs a s s.judgeClass := by
  refine .ite ((noteWindow_runs s).trans (changeClass_runs _ _)) ((noteWindow_runs s).trans (class_runs s.noteWindow _ w ?_))
  exact ⟨rfl, rfl, rfl⟩

theorem tensionInRange_runs (s : State) (t : Nat) : Runs a s (s.tensionInRange t) := by
  have owed := a.owing_winch
  have cleared : Runs a.owing s (s.whenever s.coup.supervised (fun s => s.clear .tensionSignal)) :=
    .whenever s _ (clearSignal_runs s owed)
  refine .trans (.judged (cleared.trans (.trans (.coup (u := (s.whenever s.coup.supervised
    (fun s => s.clear .tensionSignal)).coup.take t) ?_ (.inr rfl)) ?_))) .hauls
  · exact ⟨rfl, rfl, rfl⟩
  · exact .ite (partedOnset_runs _) (.ite (noteWindow_runs _) (judgeClass_runs _ owed))

theorem tensionFault_runs (s : State) : Runs a s s.tensionFault :=
  .whenever s _ (.judged (raiseSignal_runs s a.owing_winch))

theorem tensionDelivery_runs (s : State) (r : Raw) (ok : Bool) : Runs a s (s.tensionDelivery r ok) :=
  .whenever s _ (.ite (tensionInRange_runs s _) (tensionFault_runs s))

theorem superviseClass_runs (s : State) : Runs a s s.superviseClass :=
  .ite ((raiseClass_runs s _).trans ((onset_runs _).trans (offerStrain_runs _))) (raiseClass_runs s _)

/-- The entry of a COUPLING station, which ends with the causes of LOCKED_OUT. -/
theorem superviseCoupling_runs {s t : State} (h : Runs a.entering s t) : Runs a s t.superviseCoupling := by
  have up := h.trans (.supervises (s := t) { t.coup with
    supervised := true, interval := startTimer t.clock (ms (t.param Param.strainInterval)) } ⟨rfl, rfl⟩ rfl rfl)
  have signal : ∀ u : State, Runs a.entering u (if u.a0Faulted then u.raiseNew .tensionSignal else u) :=
    fun u => .ite (raiseSignal_runs u (by exact nofun)) (.refl u)
  have parts : ∀ u : State, Runs a.entering u (if u.line 0 then u.partedOnset else u) :=
    fun u => .ite (partedOnset_runs u) (.refl u)
  exact .caused (up.trans ((signal _).trans ((superviseClass_runs _).trans (parts _))))

/-! ## Fuel unit (chapter 7) -/

theorem meterTick_runs (s : State) : Runs a s s.meterTick :=
  .whenever s _ (.trans .still (.whenever _ _ (follow_runs _ _)))

theorem judgeFlow_runs (s : State) : Runs a s s.judgeFlow :=
  .whenever s _ (follow_runs s _)

theorem superviseFuel_runs (s : State) : Runs a s s.superviseFuel :=
  (Runs.whenever s _ (raiseNew_runs s (c := .returnExceeds))).trans (.trans .still (judgeFlow_runs _))

theorem judgeTankLow_runs (s : State) : Runs a s s.judgeTankLow :=
  .whenever s _ (follow_runs s _)

/-- The account beside its records and totals. -/
theorem account_runs (s : State) (u : AccountUnit) (records : u.records = s.account.records := by rfl)
    (totals : u.totals = s.account.totals := by rfl) : Runs a s { s with account := u } :=
  .books u fun h => ⟨fun k => by rw [show State.account _ = u from rfl, totals, records]; exact h k,
    fun k => by rw [totals]⟩

theorem setHolderLow_runs (s : State) (h : Option (Tab 4 Bool)) : Runs a s (s.setHolderLow h) :=
  .trans (account_runs s { s.account with holderLow := h }) (judgeTankLow_runs _)

theorem discontinuity_runs (s : State) : Runs a s s.discontinuity := by
  unfold State.discontinuity
  exact (account_runs s { s.account with lastDisc := some s.clock }).trans
    (.whenever _ _ (raiseNew_runs _ (c := .fuelDiscontinuity)))

theorem Tab.get_of4 {α : Type} (f : Fin 4 → α) (k : Fin 4) : (Tab.of4 (f 0) (f 1) (f 2) (f 3)).get k = f k := by
  match k with
  | 0 | 1 | 2 | 3 => rfl

/-- A FUEL never lowers the volume of a record (R125). -/
theorem volume_apply (r : AccountRecord) (totals : Tab 4 (BitVec 32)) (k : Fin 4) :
    r.volume k ≤ (r.apply totals).volume k := by
  unfold AccountRecord.volume AccountRecord.apply
  dsimp only
  rw [Tab.get_of4]
  unfold AccountRecord.carriedOf AccountRecord.caseOf fuelCase
  have bound := (r.last.get k).isLt
  split
  · exact Nat.add_le_add_left ‹_› _
  · split
    · exact Nat.le_add_right _ _
    · split
      · unfold carriedAfter
        dsimp only
        omega
      · exact Nat.le_add_right _ _

theorem sumNat_set_le (f : AccountRecord → Nat) {r : AccountRecord} : ∀ (l : List AccountRecord) (i : Nat) (h : i < l.length),
    f l[i] ≤ f r → sumNat (l.map f) ≤ sumNat ((l.set i r).map f)
  | _ :: _, 0, _, le => Nat.add_le_add_right le _
  | _ :: l, i + 1, h, le => Nat.add_le_add_left (sumNat_set_le f l i (Nat.lt_of_succ_lt_succ h) le) _

theorem sumNat_set_eq (f : AccountRecord → Nat) {r : AccountRecord} : ∀ (l : List AccountRecord) (i : Nat) (h : i < l.length),
    f r = f l[i] → sumNat ((l.set i r).map f) = sumNat (l.map f)
  | _ :: _, 0, _, e => congrArg (· + _) e
  | _ :: l, i + 1, h, e => congrArg (_ + ·) (sumNat_set_eq f l i (Nat.lt_of_succ_lt_succ h) e)

/-- A record replaced by one that carries no less, with the totals found again (R126). -/
theorem accountWith_runs (s : State) (x : Addr) {r : AccountRecord}
    (h : ∀ k, (s.account.records.get x).volume k ≤ r.volume k) : Runs a s { s with account := s.accountWith x r } := by
  have total : ∀ k, (s.accountWith x r).totals.get k = convoyTotal (s.account.records.set x r) k := Tab.get_of4 _
  refine .books _ fun sums => ⟨total, fun k => ?_⟩
  rw [total, sums k]
  exact sumNat_set_le _ _ _ _ (h k)

theorem takeFuel_runs (s : State) (x : Addr) (p : FuelFields) : Runs a s (s.takeFuel x p) :=
  .whenever s _ ((accountWith_runs s x (volume_apply _ _)).trans ((Runs.ite (discontinuity_runs _) (.refl _)).trans
    (judgeTankLow_runs _)))

/-- A restart mark changes no volume. -/
theorem markRestart_runs (s : State) (x : Addr) : Runs a s (s.markRestart x) := by
  refine .whenever s _ (.books _ fun sums => ⟨fun k => (sums k).trans ?_, fun _ => le_rfl⟩)
  have fits : x.val < s.account.records.cells.length := by rw [s.account.records.size]; exact x.isLt
  exact (sumNat_set_eq (r := { s.account.records.get x with restart := true }) (AccountRecord.volume k)
    s.account.records.cells x.val fits rfl).symm

theorem recordFill_runs (s : State) (k : Fin 4) : Runs a s (s.recordFill k) :=
  .trans (account_runs s _) (judgeTankLow_runs _)

theorem fillChange_runs {s : State} (k : Fin 4) (on : Bool) : Runs a s (s.fillChange k on) := by
  unfold State.fillChange
  have line : ∀ k : Fin 4, (Fin.ofNat 16 (8 + k.val) : Fin 16) ≠ 1 := by decide
  exact .trans (.line (s := s) _ on fun _ => line k) (.whenever _ _ (recordFill_runs _ k))

theorem superviseAccount_runs (s : State) : Runs a s s.superviseAccount :=
  (Runs.whenever s _ (raiseNew_runs s (c := .fuelDiscontinuity))).trans ((judgeTankLow_runs _).trans (account_runs _ _))

/-! ## Convoy alert view (section 8.6) -/

/-- The station and the code of an item: no two items of the view share them (R143). -/
abbrev ViewItem.key (i : ViewItem) : Addr × AlertCode := (i.station, i.code)

theorem viewInv_iff (s : State) :
    ViewInv s ↔ s.view.items.length ≤ 48 ∧ (s.view.items.map ViewItem.key).Nodup := Iff.rfl

/-- A change of the items' states and flags alone. -/
theorem viewMap_runs (s : State) (f : ViewItem → ViewItem) (key : ∀ i, (f i).key = i.key) (u : ViewUnit)
    (items : u.items = s.view.items.map f := by rfl) : Runs a s { s with view := u } := by
  refine .items u fun ⟨few, once⟩ => ?_
  rw [viewInv_iff]
  dsimp only
  rw [items, List.length_map, List.map_map, show ViewItem.key ∘ f = ViewItem.key from funext key]
  exact ⟨few, once⟩

/-- A reported item replaces its own or takes a free place (R143). -/
theorem takeItem_keeps (holding : Bool) (x : Addr) {l : List ViewItem} (r : AlertItem)
    (h : l.length ≤ 48 ∧ (l.map ViewItem.key).Nodup) :
    (takeItem holding x l r).length ≤ 48 ∧ ((takeItem holding x l r).map ViewItem.key).Nodup := by
  obtain ⟨few, once⟩ := h
  unfold takeItem
  split
  · have key : ViewItem.key ∘ (fun i => if itemFor x r.code i then reportItem holding r i else i) = ViewItem.key :=
      funext fun i => by dsimp only [Function.comp]; split <;> rfl
    rw [List.length_map, List.map_map, key]
    exact ⟨few, once⟩
  · rename_i unseen
    split
    · rename_i room
      refine ⟨by rw [List.length_append]; exact room, ?_⟩
      rw [List.map_append, List.nodup_append]
      refine ⟨once, List.nodup_singleton _, fun k mem k' new same => unseen ?_⟩
      obtain ⟨i, there, rfl⟩ := List.mem_map.mp mem
      have same : (i.station, i.code) = (x, r.code) := same.trans (List.mem_singleton.mp new)
      refine List.any_eq_true.mpr ⟨i, there, ?_⟩
      simp only [Prod.mk.injEq] at same
      simp [itemFor, same.1, same.2]
    · exact ⟨few, once⟩

theorem takeItems_keeps (holding : Bool) (x : Addr) (rs : List AlertItem) : ∀ {l : List ViewItem},
    l.length ≤ 48 ∧ (l.map ViewItem.key).Nodup →
      (takeItems holding x l rs).length ≤ 48 ∧ ((takeItems holding x l rs).map ViewItem.key).Nodup := by
  induction rs with
  | nil => exact id
  | cons r rs ih => exact fun h => ih (takeItem_keeps holding x r h)

theorem filter_keeps (p : ViewItem → Bool) {l : List ViewItem} (h : l.length ≤ 48 ∧ (l.map ViewItem.key).Nodup) :
    (l.filter p).length ≤ 48 ∧ ((l.filter p).map ViewItem.key).Nodup :=
  ⟨(List.length_filter_le _ _).trans h.1, h.2.sublist ((List.filter_sublist).map _)⟩

theorem dropUnreported_keeps (x : Addr) (codes : Option (List AlertCode)) {l : List ViewItem}
    (h : l.length ≤ 48 ∧ (l.map ViewItem.key).Nodup) :
    (dropUnreported x codes l).length ≤ 48 ∧ ((dropUnreported x codes l).map ViewItem.key).Nodup := by
  cases codes with
  | none => exact h
  | some cs => exact filter_keeps _ h

theorem judgeViewRoom_runs (s : State) : Runs a s s.judgeViewRoom :=
  .whenever s _ (clear_runs s)

theorem takeAlert_runs (s : State) (x : Addr) (p : AlertFields) : Runs a s (s.takeAlert x p) := by
  refine .whenever s _ (.trans (.items (s := s) _ fun h => ?_) ((Runs.whenever _ _ (raiseNew_runs _)).trans
    ((judgeViewRoom_runs _).trans (.whenever _ _ (offer_runs _ _ _)))))
  exact dropUnreported_keeps x _ (takeItems_keeps _ x p.items h)

theorem forgetItems_runs (s : State) (l : List Nat) : Runs a s (s.forgetItems l) := by
  refine .whenever s _ (.trans (.items (s := s) _ fun h => ?_) (judgeViewRoom_runs _))
  exact filter_keeps _ h

theorem restartItems_runs (s : State) (x : Addr) : Runs a s (s.restartItems x) :=
  .whenever s _ (viewMap_runs s (fun i => if i.station == x then { i with requested := false, sent := false } else i)
    (fun i => by split <;> rfl) _)

theorem requestView_runs (s : State) : Runs a s s.requestView :=
  .whenever s _ (.trans (viewMap_runs s (fun i => if isUnack i.state then { i with requested := true, sent := false } else i)
    (fun i => by split <;> rfl) _) (.whenever _ _ (offer_runs _ _ _)))

/-- A START flag at the account and the view (R124, R144). -/
theorem noteStart_runs (s : State) (f : Frame) : Runs a s (s.noteStart f) :=
  .whenever s _ ((markRestart_runs s f.source).trans (restartItems_runs _ f.source))

/-- An ACK sent marks its items (R146). -/
theorem acked_runs (s : State) (l : List AckItem) : Runs a s { s with view := s.view.acked l } :=
  viewMap_runs s (fun i => if carriedBy l i then { i with requested := false, sent := true } else i)
    (fun i => by split <;> rfl) _

theorem nextAck_runs (s : State) : Runs a s s.nextAck :=
  .whenever s _ (offer_runs s _ _)

/-! ## Demand unit (chapter 2) -/

theorem clampDemand_bounds (w : BitVec 16) : -1000 ≤ clampDemand w ∧ clampDemand w ≤ 1000 :=
  clampInt_bounds _ (by decide)

theorem foundDemand_runs (s : State) : Runs a s s.foundDemand :=
  .whenever s _ (clear_runs s)

theorem acceptDemand_runs (s : State) (p : DemandFields) (w : a.winch ≠ .settled) : Runs a s (s.acceptDemand p) := by
  refine .trans (.demand (s := s) (s.freshRecord (demandOf p) p.number true) rfl (fun _ _ => ?_) (.inr (.inl w)))
    ((foundDemand_runs _).trans (.whenever _ _ (clearRequest_runs _)))
  obtain ⟨thrust_low, thrust_high⟩ := clampDemand_bounds p.thrust
  obtain ⟨turn_low, turn_high⟩ := clampDemand_bounds p.turn
  exact ⟨thrust_low, thrust_high, turn_low, turn_high⟩

theorem decaying_runs (s : State) (w : a.winch ≠ .settled) : Runs a s { s with demand := s.demand.decaying } :=
  .demand _ rfl (fun h _ => h) (.inr (.inl w))

theorem heldRecord_runs (s : State) (w : a.winch ≠ .settled) : Runs a s { s with demand := s.heldRecord } := by
  unfold State.heldRecord
  dsimp only
  split
  · exact decaying_runs s w
  · exact .demand _ rfl (fun h _ => h) (.inr (.inl w))

theorem timeoutExpiry_runs (s : State) : Runs a s s.timeoutExpiry :=
  .whenever s _ (.judged ((heldRecord_runs s a.owing_winch).trans (.whenever _ _ (raiseNew_runs _))))

theorem holdExpiry_runs (s : State) : Runs a s s.holdExpiry :=
  .whenever s _ (.judged (decaying_runs s a.owing_winch))

theorem decayStep_bounds {v : Int} (h : -1000 ≤ v ∧ v ≤ 1000) : -1000 ≤ decayStep v ∧ decayStep v ≤ 1000 := by
  unfold decayStep
  split
  · omega
  · split <;> omega

theorem decayTick_runs (s : State) : Runs a s s.decayTick := by
  refine .whenever s _ (.judged (.demand (s := s) _ rfl (fun h _ => ?_) (.inr (.inl a.owing_winch))))
  obtain ⟨thrust_low, thrust_high, turn_low, turn_high⟩ := h
  obtain ⟨thrust_low, thrust_high⟩ := decayStep_bounds ⟨thrust_low, thrust_high⟩
  obtain ⟨turn_low, turn_high⟩ := decayStep_bounds ⟨turn_low, turn_high⟩
  exact ⟨thrust_low, thrust_high, turn_low, turn_high⟩

/-- A change of the helm's part beside its con state and its demands. -/
theorem helm_runs (s : State) (u : HelmUnit) (con : u.con = s.helm.con := by rfl)
    (live : u.live = s.helm.live := by rfl) (current : u.current = s.helm.current := by rfl) :
    Runs a s { s with helm := u } :=
  .helm u (fun h => .inl (con ▸ h)) fun l c => ⟨live ▸ l, current ▸ c⟩

theorem judgeLagEnd_runs (s : State) : Runs a s s.judgeLagEnd :=
  .whenever s _ (clear_runs s)

theorem lagAll_runs (s : State) : Runs a s s.lagAll := .trans (helm_runs s _) (judgeLagEnd_runs _)

theorem lagRenumber_runs (s : State) (n : Byte) : Runs a s (s.lagRenumber n) :=
  .trans (helm_runs s _) (judgeLagEnd_runs _)

theorem lagOne_runs (s : State) (x : Addr) : Runs a s (s.lagOne x) :=
  .whenever s _ (.trans (helm_runs s _) (judgeLagEnd_runs _))

theorem pruneLag_runs (s : State) : Runs a s s.pruneLag :=
  .whenever s _ (.trans (helm_runs s _) (judgeLagEnd_runs _))

theorem queueStandby_runs (s : State) : Runs a s s.queueStandby :=
  .trans (helm_runs s _) (offerWith_runs _ _ _)

theorem switchOn_runs (s : State) : Runs a s s.switchOn :=
  .ite (queueStandby_runs s) (helm_runs s _)

theorem switchOff_runs (s : State) : Runs a s s.switchOff :=
  .ite (.trans (helm_runs s _) (offerWith_runs _ _ _)) (helm_runs s _)

theorem takeLive_runs {s : State} (helm : s.isHelm = true) (n : Byte) : Runs a s (s.takeLive n) :=
  .trans (.demand (s := s) (s.freshRecord s.helm.live n false) rfl (fun _ l => l) (.inr (.inr (isCoup_of_helm helm))))
    (.helm (u := { s.helm with current := s.helm.live, number := n }) .inl fun l _ => ⟨l, l⟩)

theorem renumber_runs {s : State} (helm : s.isHelm = true) : Runs a s s.renumber :=
  (takeLive_runs helm _).trans ((offer_runs _ _ _).trans ((lagRenumber_runs _ _).trans
    (.whenever _ _ (queueStandby_runs _))))

theorem testNumber_runs {s : State} (helm : s.isHelm = true) : Runs a s s.testNumber :=
  .whenever s _ (renumber_runs helm)

theorem leverValue_bounds (r : Raw) : -1000 ≤ leverValue r ∧ leverValue r ≤ 1000 := by
  have scale : -1000 ≤ leverScale r ∧ leverScale r ≤ 1000 := clampInt_bounds _ (by decide)
  unfold leverValue
  split <;> omega

theorem leverAfter_bounds {held : Int} (h : -1000 ≤ held ∧ held ≤ 1000) (r : Raw) (ok : Bool) :
    -1000 ≤ leverAfter held r ok ∧ leverAfter held r ok ≤ 1000 := by
  unfold leverAfter
  split
  · exact leverValue_bounds r
  · exact h

theorem leverDelivery_runs (s : State) (r q : Raw) (x y : Bool) : Runs a s (s.leverDelivery r q x y) := by
  refine .under s _ fun h => ?_
  have helm : s.isHelm = true := (Bool.and_eq_true_iff.mp h).1
  refine .trans (.helm (s := s) { s.helm with
      live := { s.helm.live with thrust := leverAfter s.helm.live.thrust r x, turn := leverAfter s.helm.live.turn q y },
      thrustFault := !x, turnFault := !y } .inl fun l c => ⟨?_, c⟩)
    ((Runs.whenever _ _ (follow_runs _ _)).trans (testNumber_runs ?_))
  case refine_2 =>
    rw [isHelm_iff] at helm ⊢
    exact ((whenever_touches _ _ (follow_touches _ _ _)).role (by decide)).trans helm
  · obtain ⟨thrust_low, thrust_high, turn_low, turn_high⟩ := l
    obtain ⟨thrust_low, thrust_high⟩ := leverAfter_bounds ⟨thrust_low, thrust_high⟩ r x
    obtain ⟨turn_low, turn_high⟩ := leverAfter_bounds ⟨turn_low, turn_high⟩ q y
    exact ⟨thrust_low, thrust_high, turn_low, turn_high⟩

theorem readSwitches_runs (s : State) : Runs a s s.readSwitches :=
  .helm _ .inl fun l c => ⟨l, c⟩

theorem setSwitches_runs (s : State) (m e : BitVec 2) (b : Bool) : Runs a s (s.setSwitches m e b) :=
  .trans (.line (s := s) 3 b fun _ => by decide) (.trans (.line _ _ fun _ => by decide)
    (.trans (.line _ _ fun _ => by decide) (.trans (.line _ _ fun _ => by decide) (.line _ _ fun _ => by decide))))

theorem switchChange_runs {s : State} (helm : s.isHelm = true) (m e : BitVec 2) (b : Bool) :
    Runs a s (s.switchChange m e b) := by
  unfold State.switchChange
  exact (setSwitches_runs s m e b).trans (.whenever (s.setSwitches m e b) _
    ((readSwitches_runs _).trans (testNumber_runs (s := (s.setSwitches m e b).readSwitches) helm)))

/-- Entry to HOLDING at a HELM station that its view names. -/
theorem enterHolding_runs {s : State} (helm : s.isHelm = true) (own : s.demand.view.holder = some s.address) :
    Runs a s s.enterHolding := by
  refine (takeLive_runs helm (s.demand.record.number + 1)).trans (.trans (.helm (con := fun _ => .inr ⟨helm, own⟩)
    (u := { (s.takeLive (s.demand.record.number + 1)).helm with
      con := .holding, requestTimer := none, requestedOf := none,
      interval := startTimer s.clock (ms (s.param Param.demandInterval)),
      switchPending := false, standbyQueued := false }) (range := fun l c => ⟨l, c⟩)) ?_)
  exact (foundDemand_runs _).trans ((clear_runs _).trans ((setHolderLow_runs _ _).trans ((offer_runs _ _ _).trans
    ((lagAll_runs _).trans (.whenever _ _ (switchOn_runs _))))))

theorem leaveHolding_runs {s : State} (helm : s.isHelm = true) : Runs a s s.leaveHolding :=
  .trans (.helm (s := s) s.helm.released nofun fun l c => ⟨l, c⟩)
    (.trans (.demand (d := s.freshRecord s.demand.record.demand s.demand.record.number true) rfl (fun h _ => h)
      (.inr (.inr (isCoup_of_helm helm)))) (.trans (viewMap_runs _ (fun i => { i with requested := false })
        (fun _ => rfl) s.view.unrequest) (clear_runs _)))

theorem endRequest_runs (s : State) : Runs a s { s with helm := s.helm.endRequest } :=
  .helm _ nofun fun l c => ⟨l, c⟩

/-- A candidate taken by the view, with all that follows at a HELM station (R17, R31, R32). -/
theorem offerView_runs (s : State) (h : Addr) (e : Byte) : Runs a s (s.offerView h e) := by
  unfold State.offerView
  dsimp only
  split
  case isFalse => exact .refl s
  have helm_or : s.isHelm = true ∨ s.isHelm = false := by cases s.isHelm <;> simp
  obtain helm | helm := helm_or
  case inr =>
    rw [whenever_neg (show (s.withView { holder := some h, epoch := e }).isHelm = false from helm)]
    exact .view _ fun k => absurd k (by rw [helm]; decide)
  rw [whenever_pos (show (s.withView { holder := some h, epoch := e }).isHelm = true from helm)]
  have con : (State.setHolderLow (s.withView { holder := some h, epoch := e }) none).helm = s.helm :=
    (setHolderLow_touches _ _).helm (by decide)
  have address : (State.setHolderLow (s.withView { holder := some h, epoch := e }) none).address = s.address :=
    (setHolderLow_touches _ _).address (by decide)
  have viewed (own : s.helm.con = .holding → h = s.address) :
      Runs a s (State.setHolderLow (s.withView { holder := some h, epoch := e }) none) :=
    (Runs.view (s := s) _ fun _ k => congrArg some (own k)).trans (setHolderLow_runs _ _)
  unfold State.conAfterView
  split
  · split
    · rename_i own
      exact viewed fun _ => own.trans address
    · exact .trans (.yields (s := s) _ helm) (.whenever _ _ (raiseNew_runs _))
  · rename_i requesting
    have own : s.helm.con = .holding → h = s.address := by rw [← con, requesting]; exact nofun
    exact .ite (viewed own) ((viewed own).trans (endRequest_runs _))
  · rename_i standing
    exact viewed (by rw [← con, standing]; exact nofun)

theorem preferred_next (v : ConView) (h : Addr) : preferred v h (v.epoch + 1) = true := by
  refine preferred_of_newer h ((newer_iff _ _).mpr ?_)
  have one : v.epoch + 1 - v.epoch = 1 := by bv_omega
  rw [one]
  decide

/-- A preferred candidate stands in the view. -/
theorem offerView_view {s : State} {h : Addr} {e : Byte} (p : preferred s.demand.view h e = true) :
    (s.offerView h e).demand.view = { holder := some h, epoch := e } := by
  unfold State.offerView
  rw [if_pos p]
  exact KeepsView.whenever _ _ ((setHolderLow_touches _ _).keepsView.trans (conAfterView_keepsView _ _))

theorem takeCon_runs {s : State} (helm : s.isHelm = true) : Runs a s s.takeCon := by
  have view := offerView_view (s := s.offerWith 1 (.con .take (conFields s.address (s.demand.view.epoch + 1)
    s.helm.live.thrust s.helm.live.turn))) (h := s.address) (preferred_next s.demand.view s.address)
  refine (offerWith_runs s _ _).trans ((offerView_runs _ _ _).trans (enterHolding_runs ?_ ?_))
  · rw [isHelm_iff] at helm ⊢
    exact ((offerView_touches _ _ _).role (by decide)).trans helm
  · rw [view, (offerView_touches _ _ _).address (by decide)]
    rfl

theorem requestCon_runs (s : State) (h : Addr) : Runs a s (s.requestCon h) :=
  .trans (.helm (s := s) { s.helm with
    con := .requesting, requestTimer := startTimer s.clock (sec 3), requestedOf := some h } nofun fun l c => ⟨l, c⟩)
    (offerWith_runs _ _ _)

theorem claimCon_runs {s : State} (helm : s.isHelm = true) : Runs a s s.claimCon := by
  unfold State.claimCon
  split
  · exact takeCon_runs helm
  · exact .ite (takeCon_runs helm) (requestCon_runs s _)

theorem requestExpiry_runs (s : State) : Runs a s s.requestExpiry :=
  .under s _ fun h => by
    simp only [Bool.and_eq_true] at h
    exact .ite ((endRequest_runs s).trans (takeCon_runs (s := { s with helm := s.helm.endRequest }) h.1.1))
      (endRequest_runs s)

theorem grantCon_runs {s : State} (helm : s.isHelm = true) (x : Addr) : Runs a s (s.grantCon x) :=
  (offerWith_runs s _ _).trans ((leaveHolding_runs (s := s.offerWith _ _) helm).trans (offerView_runs _ _ _))

theorem routeRequest_runs (s : State) (x : Addr) (p : ConFields) : Runs a s (s.routeRequest x p) :=
  .under s _ fun h => by
    simp only [Bool.and_eq_true] at h
    exact .ite (grantCon_runs h.1.1 x) (offerWith_runs s _ _)

theorem routeGrant_runs (s : State) (p : ConFields) : Runs a s (s.routeGrant p) := by
  refine (offerView_runs s p.target p.epoch).trans (.under _ _ fun h => ?_)
  simp only [Bool.and_eq_true, beq_iff_eq] at h
  obtain ⟨⟨⟨⟨helm, target⟩, wins⟩, -⟩, -⟩ := h
  refine enterHolding_runs ?_ ?_
  · rw [isHelm_iff] at helm ⊢
    exact ((offerView_touches _ _ _).role (by decide)).trans helm
  · rw [offerView_view wins, (offerView_touches _ _ _).address (by decide), target]

theorem routeDecline_runs (s : State) (x : Addr) (p : ConFields) : Runs a s (s.routeDecline x p) :=
  .whenever s _ (endRequest_runs s)

theorem routeDemand_runs (s : State) (x : Addr) (p : DemandFields) (w : a.winch ≠ .settled) :
    Runs a s (s.routeDemand x p) := by
  unfold State.routeDemand
  exact (offerView_runs s x p.epoch).trans (.whenever (s.offerView x p.epoch) _ (acceptDemand_runs _ p w))

theorem superviseHelm_runs {s : State} (helm : s.isHelm = true) : Runs a s s.superviseHelm := by
  unfold State.superviseHelm
  have raised := Runs.whenever (a := a) (f := fun s => s.raiseNew .leverSignal) s
    (s.helm.thrustFault || s.helm.turnFault) (raiseNew_runs s)
  have same : (s.whenever (s.helm.thrustFault || s.helm.turnFault) (fun s => s.raiseNew .leverSignal)).isHelm = true := by
    rw [isHelm_iff] at helm ⊢
    exact ((whenever_touches _ _ (raiseNew_touches s _)).role (by decide)).trans helm
  refine raised.trans ?_
  dsimp only
  split
  · exact .ite (takeCon_runs same) (.refl _)
  · rename_i h viewed
    split
    · rename_i own
      exact enterHolding_runs same (own ▸ viewed)
    · exact .refl _

end Sys2Proof.Machine
end

section
/-! SUPPORT. How the entries to the station states, the transmitter, the acknowledgements, the receiver and so every
command are made of the primitive operations. -/

namespace Sys2Proof.Machine

-- As in Laws/Touches.lean: one theorem at a time.
set_option Elab.async false

variable {a : Scope}

/-! ## Start unit (chapter 12) -/

theorem entryDemand_runs (s : State) : Runs a s s.entryDemand :=
  .whenever s _ (raiseNew_runs s)

theorem entryHelm_runs {s : State} (helm : s.isHelm = true) : Runs a s s.entryHelm := by
  unfold State.entryHelm
  exact (superviseHelm_runs helm).trans ((superviseAccount_runs _).trans
    (.whenever s.superviseHelm.superviseAccount _ (raiseNew_runs _ (c := .viewFull))))

/-- The drive STOPPED at the entry, for the outputs stood closed in the safe state that it ends (R91, R180). -/
theorem superviseSteering_runs {s t : State} (h : Runs { a with drive := .untouched } s t)
    (safe : s.station.safe = true) (k : a.drive ≠ .untouched) : Runs a s t.superviseSteering := by
  have stopped := Runs.enters h safe { t.steer with
    supervised := true, drive := .stopped, followTimer := none, deviation := none } rfl k
  have sensed : ∀ u : State, Runs a u (if u.line 5 && u.line 6 then u.valveInterlock else u) :=
    fun u => .ite (valveInterlock_runs u k) (.refl u)
  have fed : ∀ u : State, Runs a u (if u.a0Faulted then u.feedbackFault else u) :=
    fun u => .ite (feedbackFault_runs u k) (.refl u)
  exact stopped.trans ((sensed _).trans (fed _))

theorem entryProp_runs {s t : State} (h : Runs { a with drive := .untouched } s t)
    (safe : s.station.safe = true) (k : a.drive ≠ .untouched) : Runs a s t.entryProp :=
  (superviseSteering_runs (h.trans ((judgeEngine_runs t).trans ((startPropSeries_runs _).trans
    ((superviseGear_runs _).trans (superviseGovernor_runs _))))) safe k).trans (superviseFuel_runs _)

theorem entryCommon_runs (s : State) : Runs a s s.entryCommon := by
  unfold State.entryCommon
  have marked := Runs.whenever (a := a) (f := fun s => s.raiseNew .rxError) s s.comms.link.errorMark (raiseNew_runs s)
  exact marked.trans (.whenever _ _ (raiseNew_runs _ (c := .converterOverrun)))

theorem entryAlert_runs (s : State) : Runs a s s.entryAlert :=
  (restartRepeat_runs s).trans (.whenever _ _ (offerAlert_runs _))

/-- The units of the role at the entry, from a station that has only come to ACTIVE since. -/
theorem entryUnits_runs {s t : State} (h : ∀ b : Scope, b.winch = .causes → Runs b s t) (role : t.role = s.role)
    (safe : s.station.safe = true) (k : a.drive ≠ .untouched) : Runs a s t.entryUnits := by
  have free {x : Option Role} (e : t.role = x) (ne : (x == some .coupling) = false) : s.isCoup = false := by
    unfold State.isCoup; rw [← role, e]; exact ne
  unfold State.entryUnits
  split
  · rename_i helm
    exact .free ((h _ rfl).trans (entryHelm_runs ((isHelm_iff t).mpr helm))) (free helm rfl)
  · rename_i prop
    exact .free (entryProp_runs (h _ rfl) safe k) (free prop rfl)
  · exact superviseCoupling_runs (h _ rfl)
  · rename_i none
    exact .free (h _ rfl) (free none rfl)

theorem enterActive_runs {s : State} (j : s.station = .joining) (k : a.drive ≠ .untouched) :
    Runs a s s.enterActive := by
  have stood (b : Scope) (w : b.winch = .causes) : Runs b s { s with
      station := .active, start := { s.start with joinTimer := none, watch := startTimer s.clock (sec 1) } } :=
    (Runs.stands (s := s) .active (.inr j) rfl nofun (.inr w)).trans
      (.start (s := { s with station := .active })
        { s.start with joinTimer := none, watch := startTimer s.clock (sec 1) } rfl)
  have judged (b : Scope) (w : b.winch = .causes) := (stood b w).trans ((judgeConflict_runs _ false).trans
    ((judgeSilent_runs _ false).trans (entryDemand_runs _)))
  refine (entryUnits_runs judged ?_ (by rw [j]; rfl) k).trans ((entryCommon_runs _).trans ((entryAlert_runs _).trans
    (judgeCoupStandby_runs _)))
  exact (((judgeConflict_touches _ false).trans (judgeSilent_touches _ false)).trans
    (entryDemand_touches _)).role (by decide)

theorem duplicateAddress_runs {s : State} (h : s.station.acting = true ∨ s.station = .joining)
    (k : a.drive ≠ .untouched) : Runs a s s.duplicateAddress :=
  (raise_runs s).trans (.withdraws (s := s.raise .duplicateAddress) false h k)

/-! ## Transmitter (sections 9.5 and 9.6) -/

theorem noteAssembly_runs (s : State) (p : Payload) : Runs a s (s.noteAssembly p) := by
  unfold State.noteAssembly
  split
  · exact .coup (s := s) _ ⟨rfl, rfl, rfl⟩ (.inr rfl)
  · exact .ite (.refl s) .still
  all_goals exact .refl s

theorem attempt_runs (s : State) (p : Payload) (c : Fin 4) (n : Nat) : Runs a s (s.attempt p c n) := by
  unfold State.attempt
  split
  · exact .refl s
  · exact (noteAssembly_runs s p).trans .still

theorem startHead_runs (n : Nat) : ∀ s : State, Runs a s (s.startHead n) := by
  induction n with
  | zero => exact fun s => .refl s
  | succ n ih =>
    intro s
    unfold State.startHead
    split
    · exact .refl s
    · split
      · split
        · exact (dropHead_touches s).runs.trans (ih _)
        · exact (dropHead_touches s).runs.trans (attempt_runs _ _ _ _)
      · exact .refl s

/-- What follows from a change of the table that F has not yet taken. -/
theorem tableChanged_runs {s t : State} (was : Bool) (h : Runs { a.owing with strain := true } s t) :
    Runs a s (t.tableChanged was) :=
  .judged (.refreshed (h.trans ((judgeSilent_runs t was).trans (pruneLag_runs _))))

theorem forget_runs (s : State) : Runs a s s.forget :=
  .judged (.refreshed (.trans (.table (s := s) _ (.inr ⟨a.owing_winch, rfl⟩)) ((judgeConflict_runs _ _).trans
    ((judgeSilent_runs _ _).trans ((forgetItems_runs _ _).trans (pruneLag_runs _))))))

theorem alertEnd_runs (s : State) (x : AlertFields) (b : Bool) : Runs a s (s.alertEnd x b) :=
  .ite (.trans .still (.whenever _ _ (offerAlert_runs _))) (.ite (.trans .still (offerAlert_runs _)) (.refl s))

theorem tellOwner_runs (s : State) (h : InHand) (b : Bool) : Runs a s (s.tellOwner h b) := by
  unfold State.tellOwner
  split
  · exact .ite (.coup (s := s) _ ⟨rfl, rfl, rfl⟩ (.inr rfl)) (.refl s)
  · exact alertEnd_runs s _ _
  · exact (Runs.ite (acked_runs s _) (.refl s)).trans (nextAck_runs _)
  · exact .ite (forget_runs s) (.refl s)
  all_goals exact .refl s

theorem endTold_runs (s : State) (h : InHand) (b : Bool) : Runs a s (s.endTold h b) :=
  .whenever s _ (tellOwner_runs s h b)

theorem lose_runs (s : State) : Runs a s s.lose := by
  unfold State.lose
  exact (link_touches s { s.comms.link with lastLoss := some s.clock }).runs.trans
    (.whenever _ _ (raiseNew_runs _ (c := .txLoss)))

theorem discardHand_runs (s : State) (h : InHand) : Runs a s (s.discardHand h) :=
  (handOver_touches s).runs.trans ((lose_runs _).trans (endTold_runs _ _ _))

theorem jamEnd_runs (s : State) : Runs a s s.jamEnd := by
  unfold State.jamEnd
  split
  · exact .whenever s _ (.ite ((releaseLine_touches s).runs.trans (drawBackoff_touches _ _).runs)
      ((releaseLine_touches s).runs.trans (discardHand_runs _ _)))
  all_goals exact .refl s

theorem retry_runs (s : State) (h : InHand) : Runs a s (s.retry h) := by
  unfold State.retry
  split
  · exact (handOver_touches s).runs
  · exact attempt_runs s _ _ _

theorem backoffEnd_runs (s : State) : Runs a s s.backoffEnd := by
  unfold State.backoffEnd
  split
  · exact .whenever s _ (retry_runs s _)
  all_goals exact .refl s

theorem transmitFault_runs (s : State) : Runs a s s.transmitFault := by
  unfold State.transmitFault
  split
  · exact .whenever s _ (.trans .still ((handOver_touches _).runs.trans
      ((Runs.whenever _ _ (raiseNew_runs _ (c := .txFault))).trans (endTold_runs _ _ _))))
  all_goals exact .refl s

theorem sentEnd_runs (s : State) : Runs a s s.sentEnd := by
  unfold State.sentEnd
  split
  · exact .whenever s _ ((sentLink_touches _ _).runs.trans
      ((Runs.whenever _ _ (clear_runs _ (c := .txFault))).trans (endTold_runs _ _ _)))
  all_goals exact .refl s

theorem trimAfter_bounds (cap : Option Nat) {trim : Nat} (h : 200 ≤ trim ∧ trim ≤ 1000) (x sum rate : Nat) :
    200 ≤ trimAfter cap trim x sum rate ∧ trimAfter cap trim x sum rate ≤ 1000 := by
  unfold trimAfter
  split
  · split <;> omega
  · split
    · exact h
    · split
      · omega
      · split <;> omega

theorem economyEvent_runs (s : State) : Runs a s s.economyEvent := by
  refine .whenever s _ (.trans (.thrust (s := s) { s.thrust with economy := nextInterval s.thrust.economy }
    ⟨rfl, rfl, rfl, rfl, rfl⟩ id) (.thrust _ ?_ fun h => trimAfter_bounds _ h _ _ _))
  exact ⟨rfl, rfl, rfl, rfl, rfl⟩

/-! ## Acknowledgement (section 8.3) -/

theorem answer_runs (s : State) {c : AlertCode} (h : winchAlert c = false) (k : a.drive ≠ .untouched) :
    Runs a s (s.answer c) := by
  unfold State.answer
  split
  · exact gearAnswer_runs s
  · exact gearAnswer_runs s
  · exact .ite (raiseAvail_runs s) .avail
  · exact interlockAnswer_runs s k
  · exact partedAnswer_runs s
  · cases h
  · exact .refl s

theorem endsByAck_cases {c : AlertCode} (h : endsByAck c = true) : c = .winchRun ∨ winchAlert c = false := by
  cases c <;> first | exact .inl rfl | exact .inr rfl | cases h

theorem endCondition_runs (s : State) {c : AlertCode} (h : endsByAck c = true) (k : a.drive ≠ .untouched) :
    Runs a s (s.endCondition c) := by
  obtain rfl | n := endsByAck_cases h
  · exact .frees
  · exact (without_runs s n).trans (answer_runs _ n k)

theorem endByAck_runs (s : State) {c : AlertCode} (h : endsByAck c = true) (k : a.drive ≠ .untouched) :
    Runs a s (s.endByAck c) :=
  .ite (endCondition_runs s h k) ((endCondition_runs s h k).trans (relist_runs _ _))

theorem ackEntry_runs (s : State) (e : AlertEntry) (k : a.drive ≠ .untouched) : Runs a s (s.ackEntry e) := by
  unfold State.ackEntry
  split
  · split
    · rename_i h
      simp only [Bool.and_eq_true] at h
      exact endByAck_runs s h.1.1 k
    · exact relist_runs s _
  · exact .refl s
  · exact relist_runs s _

theorem ackItem_runs (s : State) (c : AlertCode) (o : Byte) (k : a.drive ≠ .untouched) : Runs a s (s.ackItem c o) := by
  unfold State.ackItem
  split
  · exact .refl s
  · exact .ite (ackEntry_runs s _ k) (offerAlert_runs s)

theorem ackAll_runs (k : a.drive ≠ .untouched) (l : List AckItem) : ∀ s : State, Runs a s (s.ackAll l) := by
  induction l with
  | nil => exact fun s => .refl s
  | cons i is ih => exact fun s => (Runs.ite (ackItem_runs s _ _ k) (.refl s)).trans (ih _)

theorem ackCode_runs (s : State) (c : AlertCode) (k : a.drive ≠ .untouched) : Runs a s (s.ackCode c) := by
  unfold State.ackCode
  split
  · exact .refl s
  · exact .ite (ackEntry_runs s _ k) (.refl s)

theorem ackCodes_runs (k : a.drive ≠ .untouched) (l : List AlertCode) : ∀ s : State, Runs a s (s.ackCodes l) := by
  induction l with
  | nil => exact fun s => .refl s
  | cons c cs ih => exact fun s => (ackCode_runs s c k).trans (ih _)

theorem endEntryless_runs (k : a.drive ≠ .untouched) (l : List AlertCode) :
    ∀ s : State, Runs a s (s.endEntryless l) := by
  induction l with
  | nil => exact fun s => .refl s
  | cons c cs ih =>
    intro s
    refine Runs.trans ?_ (ih _)
    split
    · rename_i h
      simp only [State.entryless, Bool.and_eq_true] at h
      exact endCondition_runs s (by rw [endsByAck, h.1.1]; rfl) k
    · exact .refl s

theorem pressAck_runs (s : State) (k : a.drive ≠ .untouched) : Runs a s s.pressAck :=
  .trans (.judged ((ackCodes_runs (a := a.owing) k _ s).trans (.ite (.refl _) (endEntryless_runs (a := a.owing) k _ _)))) (requestView_runs _)

theorem ackChange_runs (s : State) (on : Bool) (k : a.drive ≠ .untouched) : Runs a s (s.ackChange on) := by
  unfold State.ackChange
  split
  · exact .refl s
  · rename_i role known
    refine .trans (.line (s := s) (ackLine role) on fun coup => ?_) (.whenever _ _ (pressAck_runs _ k))
    rw [isCoup_iff, known] at coup
    cases coup
    decide

/-! ## Receiver and routing (sections 1.2, 9.1) -/

theorem noteReception_runs (s : State) (b : Bool) : Runs a s (s.noteReception b) :=
  .ite .still (.whenever s _ (follow_runs s _))

theorem ownFrame_runs (s : State) (k : a.drive ≠ .untouched) : Runs a s s.ownFrame :=
  .ite .still (.under s _ fun h => duplicateAddress_runs (by simpa [or_comm] using h) k)

theorem route_runs (s : State) (f : Frame) (w : a.winch ≠ .settled) (k : a.drive ≠ .untouched) :
    Runs a s (s.route f) := by
  unfold State.route
  split
  · exact routeDemand_runs s _ _ w
  · exact routeRequest_runs s _ _
  · exact routeGrant_runs s _
  · exact routeDecline_runs s _ _
  · exact offerView_runs s _ _
  · exact lagOne_runs s _
  · exact .refl s
  · exact takeFuel_runs s _ _
  · exact .whenever s _ (setHolderLow_runs s _)
  · exact takeAlert_runs s _ _
  · exact .whenever s _ (ackAll_runs k _ s)
  · exact .whenever s _ (forget_runs s)
  · exact .whenever s _ (setRequest_runs s)
  · exact .whenever s _ (clearRequest_runs s)

theorem tableTakes_runs (s : State) (f : Frame) (k : a.drive ≠ .untouched) : Runs a s (s.tableTakes f) :=
  .ite (ownFrame_runs s k) (.ite (recordConflict_runs s _) (.judged ((tableChanged_runs _
    (.trans (.table (s := s) _ (.inr ⟨a.owing.owing_winch, rfl⟩)) (noteStart_runs _ f))).trans
      (route_runs _ f a.owing_winch k))))

theorem takeGood_runs (s : State) (f : Frame) (k : a.drive ≠ .untouched) : Runs a s (s.takeGood f) :=
  .trans (endReception_touches s 0).runs ((noteReception_runs _ false).trans
    (.ite (tableTakes_runs _ f k) (.whenever _ _ (ownFrame_runs _ k))))

theorem takeError_runs (s : State) (r : Word) : Runs a s (s.takeError r) :=
  (endReception_touches s r).runs.trans (noteReception_runs _ _)

theorem takeFrame_runs (s : State) (f : Frame) (k : a.drive ≠ .untouched) : Runs a s (s.takeFrame f) :=
  .whenever s _ (.ite (takeGood_runs s f k) (takeError_runs s 0))

theorem takeBits_runs (s : State) (b : List Bool) (k : a.drive ≠ .untouched) : Runs a s (s.takeBits b) := by
  refine .whenever s _ ?_
  split
  · exact takeGood_runs s _ k
  · exact takeError_runs s _

theorem sweepEvent_runs (s : State) : Runs a s s.sweepEvent :=
  .whenever s _ (tableChanged_runs _ (.trans
    (.table (s := s) { s.peers with sweep := nextInterval s.peers.sweep } (.inl rfl))
    (.trans (.table _ (.inr ⟨a.owing_winch, rfl⟩)) (judgeConflict_runs _ _))))

/-! ## Channels, converter, control tick (chapters 10 and 11, R22) -/

theorem ownEdge_runs (s : State) (ch : Fin 4) : Runs a s (s.ownEdge ch) := by
  unfold State.ownEdge
  split
  · exact .ite (.whenever s _ (shaftEdge_runs s _)) (.ite (.trans .still (judgeFlow_runs _)) (.refl s))
  · exact .ite (drumEdge_runs s) (.refl s)
  · exact .refl s
  · exact .refl s

theorem ownNoise_runs (s : State) (ch : Fin 4) : Runs a s (s.ownNoise ch) :=
  .ite (judgeShaft_runs s) (.ite (.refl s) (judgeFlow_runs s))

theorem edge_runs (s : State) (ch : Fin 4) : Runs a s (s.edge ch) :=
  .ite (.trans .still (ownEdge_runs _ _)) (.trans .still (ownNoise_runs _ _))

theorem overrun_runs (s : State) : Runs a s s.overrun := by
  unfold State.overrun
  exact (conv_touches s { s.conv with lastOverrun := some s.clock }).runs.trans
    (.whenever _ _ (raiseNew_runs _ (c := .converterOverrun)))

theorem sequenceStart_runs (s : State) : Runs a s s.sequenceStart :=
  .whenever s _ (.trans .still (.ite .still (overrun_runs _)))

theorem deliver_runs (s : State) (x y r : Raw) (k : a.drive = .starting) : Runs a s (s.deliver x y r) := by
  unfold State.deliver
  dsimp only
  split
  · exact leverDelivery_runs s _ _ _ _
  · exact .whenever s _ (rudderDelivery_runs s _ _ k)
  · exact tensionDelivery_runs s _ _
  · exact .refl s

theorem sequenceComplete_runs (s : State) (k : a.drive = .starting) : Runs a s s.sequenceComplete := by
  unfold State.sequenceComplete
  split
  · exact .whenever s _ (.trans .still (deliver_runs _ _ _ _ k))
  · exact .refl s
  · exact .refl s

theorem tickPart_runs (s : State) (p : TickPart) : Runs a s (s.tickPart p) := by
  cases p with
  | decay => exact decayTick_runs s
  | thrust => exact .under s _ fun h => thrustTick_runs (eq_of_beq (Bool.and_eq_true_iff.mp h).2)
  | gear => exact .whenever s _ (gearAction_runs s)
  | metering => exact meterTick_runs s
  | standbyTest => exact standbyTest_runs s

theorem tickParts_runs (l : List TickPart) : ∀ s : State, Runs a s (s.tickParts l) := by
  induction l with
  | nil => exact fun s => .refl s
  | cons p ps ih => intro s; exact (tickPart_runs s p).trans (ih _)

theorem selectTank_runs (s : State) (v : BitVec 2) : Runs a s (s.selectTank v) :=
  .ite (.trans (.line (s := s) 3 _ fun _ => by decide) (.line _ _ fun _ => by decide)) (.refl s)

/-! ## Every command -/

/-- The station once a command's time has passed, with the image as the read or the world has left it. -/
def State.loaded (s : State) (dt : Micros) (image : List Word) : State :=
  { s.advance dt with start := { s.start with image := image } }

theorem configRead_runs (s : State) (dt : Micros) (bytes : List Byte) (k : a.drive ≠ .untouched) :
    ∃ image, Runs a (s.loaded dt image) ((s.advance dt).configRead bytes) ∧
      (image = s.start.image ∨ s.station = .start) := by
  unfold State.configRead State.whenever
  split
  case isFalse => exact ⟨s.start.image, .refl _, .inl rfl⟩
  rename_i h
  have start : s.station = .start := eq_of_beq (Bool.and_eq_true_iff.mp h).1
  change ∃ image, Runs a (s.loaded dt image) ((s.advance dt).readComplete bytes) ∧ _
  unfold State.readComplete
  split
  · exact ⟨s.start.image, .refl _, .inl rfl⟩
  · refine ⟨wordsOf (readBytes bytes), ?_, .inr start⟩
    have ended := Runs.start (a := a) (s := s.loaded dt (wordsOf (readBytes bytes)))
      { s.start with image := wordsOf (readBytes bytes), reading := none } rfl
    exact ended.trans (.ite ((Runs.whenever _ _ (raise_runs _ (c := .configClamped))).trans .still) (.fails start k))

theorem watchRun_runs (s : State) (dt : Micros) (damage : List (Nat × Word)) (k : a.drive ≠ .untouched) :
    Runs a (s.loaded dt (damageImage s.start.image damage)) ((s.advance dt).watchRun damage) := by
  unfold State.watchRun
  refine .under (s.loaded dt (damageImage s.start.image damage)) _ fun h => ?_
  refine .trans (.start (s := s.loaded dt (damageImage s.start.image damage)) { s.start with
    image := damageImage s.start.image damage, watch := nextInterval s.start.watch } rfl) (.whenever _ _ ?_)
  exact (raise_runs _ (c := .configCorrupt)).trans
    (.trans (.withdraws true (.inl (Bool.and_eq_true_iff.mp h).1) k) (forceAlert_touches _).runs)

theorem referenceDone_runs (s : State) (r : Raw) (k : a.drive ≠ .untouched) : Runs a s (s.referenceDone r) :=
  .under s _ fun h => by
    have start : s.station = .start := eq_of_beq (Bool.and_eq_true_iff.mp h).1
    exact .trans (conv_touches s { s.conv with state := .idle, latestRef := some r }).runs
      (.ite (.joins start k) (.fails start k))

/-- The command that delivers conversions, and may start a drive. -/
def completes : Instr → Bool
  | .sequenceCompletion .. => true
  | _ => false

/-- What a command leaves of the image. -/
def KeepsImage (c : Instr) (s : State) (image : List Word) : Prop :=
  image = s.start.image ∨ s.station = .start ∨ ∃ dt damage, c = .configWatch dt damage ∧ image = damageImage s.start.image damage

/-- A command that leaves the image as it is. -/
theorem next_runs {c : Instr} {s t : State} (dt : Micros) (h : Runs a (s.advance dt) t) :
    ∃ dt image u, (.next t : Host.Outcome State Fault Refusal) = .next u ∧ Runs a (s.loaded dt image) u ∧
      KeepsImage c s image :=
  ⟨dt, s.start.image, t, rfl, h, .inl rfl⟩

/-- Every command but the resets is a run of primitive operations. -/
theorem exec_runs (c : Instr) (s : State) (r : isReset c = false) (k : a.drive ≠ .untouched)
    (starting : completes c = true → a.drive = .starting) :
    ∃ dt image t, exec c s = .next t ∧ Runs a (s.loaded dt image) t ∧ KeepsImage c s image := by
  cases c with
  | powerOnReset | resetLineReset => nomatch r
  | configReadComplete dt bytes =>
    obtain ⟨image, run, kept⟩ := configRead_runs s dt bytes k
    exact ⟨dt, image, _, rfl, run, kept.imp_right .inl⟩
  | configWatch dt damage => exact ⟨dt, _, _, rfl, watchRun_runs s dt damage k, .inr (.inr ⟨dt, damage, rfl, rfl⟩)⟩
  | referenceCheckComplete dt result => exact next_runs dt (referenceDone_runs _ result k)
  | demand dt | conRequest dt | conGrant dt | conDecline dt | conTake dt | propState dt | strain dt | fuel dt
  | account dt | alert dt | ack dt | roster dt | standby dt | wake dt => exact next_runs dt (takeFrame_runs _ _ k)
  | receiveError dt bits => exact next_runs dt (takeBits_runs _ bits k)
  | fragment dt cause bits => exact next_runs dt (fragment_touches _ cause bits).runs
  | receptionStart dt => exact next_runs dt (receptionStart_touches _).runs
  | lineQuiet found => exact next_runs found.dt (lineQuiet_touches _ found.bits).runs
  | transmitStart dt tank =>
    exact next_runs dt ((selectTank_runs _ tank).trans (.whenever _ _ (startHead_runs _ _)))
  | backoffEnd dt tank => exact next_runs dt ((selectTank_runs _ tank).trans (backoffEnd_runs _))
  | collision dt => exact next_runs dt (collide_touches _).runs
  | jamEnd dt => exact next_runs dt (jamEnd_runs _)
  | transmitFault dt => exact next_runs dt (transmitFault_runs _)
  | sentEnd dt => exact next_runs dt (sentEnd_runs _)
  | txLossExpiry dt | fuelDiscontinuityExpiry dt | overrunExpiry dt => exact next_runs dt (.whenever _ _ (clear_runs _))
  | stationLag dt | rudderSpread dt => exact next_runs dt (.whenever _ _ (raiseNew_runs _))
  | rudderFollowTimerExpiry dt =>
    exact next_runs dt (.whenever _ _ (.trans (.steer (s := s.advance dt) { s.steer with followTimer := none } rfl)
      (raiseNew_runs _)))
  | repeatTimerExpiry dt => exact next_runs dt (.whenever _ _ (.trans .still (offerAlert_runs _)))
  | demandIntervalExpiry dt =>
    exact next_runs dt (.whenever _ _ (.trans (helm_runs (s.advance dt)
      { s.helm with interval := nextInterval s.helm.interval }) (offer_runs _ _ _)))
  | stateIntervalExpiry dt =>
    exact next_runs dt (.whenever _ _ (.trans (.thrust (s := s.advance dt)
      { s.thrust with stateSeries := nextInterval s.thrust.stateSeries } ⟨rfl, rfl, rfl, rfl, rfl⟩ id) (offer_runs _ _ _)))
  | fuelIntervalExpiry dt => exact next_runs dt (.whenever _ _ (.trans .still (offer_runs _ _ _)))
  | accountIntervalExpiry dt =>
    exact next_runs dt (.whenever _ _ (.trans (account_runs (s.advance dt)
      { s.account with interval := nextInterval s.account.interval }) (offer_runs _ _ _)))
  | strainIntervalExpiry dt =>
    exact next_runs dt (.whenever _ _ (.trans (.coup (s := s.advance dt)
      { s.coup with interval := nextInterval s.coup.interval } ⟨rfl, rfl, rfl⟩ (.inr rfl)) (offerStrain_runs _)))
  | joinTimeExpiry dt =>
    exact next_runs dt (.under _ _ fun h => enterActive_runs (eq_of_beq (Bool.and_eq_true_iff.mp h).1) k)
  | controlTick dt order tank =>
    refine next_runs dt ((selectTank_runs _ tank).trans (.whenever _ _ (.trans ?_ (tickParts_runs _ _))))
    exact timers_runs _ _
  | sweep dt => exact next_runs dt (sweepEvent_runs _)
  | conRequestInput dt on =>
    refine next_runs dt (.under _ _ fun helm => .trans (.line (s := s.advance dt) 0 on fun _ => by decide)
      (.whenever _ _ (claimCon_runs (s := (s.advance dt).setLine 0 on) helm)))
  | requestTimerExpiry dt => exact next_runs dt (requestExpiry_runs _)
  | demandTimeoutExpiry dt => exact next_runs dt (timeoutExpiry_runs _)
  | holdTimeExpiry dt => exact next_runs dt (holdExpiry_runs _)
  | helmSwitchChange dt mode economy stopAll =>
    exact next_runs dt (.under _ _ fun helm => switchChange_runs (s := s.advance dt) helm mode economy stopAll)
  | standbySwitch dt on =>
    exact next_runs dt (.whenever _ _ (.trans (.line (s := s.advance dt) 2 on fun _ => by decide)
      (.whenever _ _ (.ite (switchOn_runs _) (switchOff_runs _)))))
  | rosterClearInput dt on =>
    exact next_runs dt (.whenever _ _ (.trans (.line (s := s.advance dt) 12 on fun _ => by decide)
      (.whenever _ _ (offerWith_runs _ _ _))))
  | tankFilledInput dt tank on => exact next_runs dt (.whenever _ _ (fillChange_runs tank on))
  | acknowledgeInput dt on => exact next_runs dt (ackChange_runs _ on k)
  | wakeInput dt on =>
    refine next_runs dt ?_
    split
    · exact wakeChange_runs _ 7 on (by decide)
    · exact wakeChange_runs _ 2 on (by decide)
    · exact .refl _
    · exact .refl _
  | engineReadyChange dt on => exact next_runs dt (.whenever _ _ (readyChange_runs _ on))
  | gearFeedbackChange dt ahead astern =>
    refine next_runs dt (.under _ _ fun prop => .trans (.line (s := s.advance dt) 0 ahead fun _ => by decide)
      (.trans (.line (s := (s.advance dt).setLine 0 ahead) 1 astern fun coup => ?_)
        (.whenever _ _ (judgeFeedback_runs _))))
    exact absurd (show s.isCoup = true from coup) (by rw [isCoup_of_prop prop]; decide)
  | gearFeedbackTimerExpiry dt => exact next_runs dt (.whenever _ _ (faultGear_runs _))
  | releaseTimerExpiry dt => exact next_runs dt (.whenever _ _ (disengage_runs _))
  | dwellExpiry dt => exact next_runs dt (.whenever _ _ (enterGear_runs _ _))
  | shaftPulseTimeout dt => exact next_runs dt (.whenever _ _ (.trans .still (setSpeed_runs _ _)))
  | noPulseWatchExpiry dt => exact next_runs dt (.whenever _ _ (.trans .still (judgeShaft_runs _)))
  | settleTimerExpiry dt => exact next_runs dt (settleExpiry_touches _).runs
  | deviationStartExpiry dt | agreementStartExpiry dt =>
    exact next_runs dt (.whenever _ _ (.trans .still (followAvail_runs _ _)))
  | valveSenseChange dt port starboard => exact next_runs dt (.whenever _ _ (valveSense_runs _ port starboard k))
  | flowWatchExpiry dt => exact next_runs dt (.whenever _ _ (.trans .still (judgeFlow_runs _)))
  | wireBrokenInput dt on => exact next_runs dt (.whenever _ _ (wireChange_runs _ on))
  | winchLockoutInput dt on =>
    exact next_runs dt (.under _ _ fun coup => .locks (s := s.advance dt) on coup)
  | slackDwellExpiry dt => exact next_runs dt .heaves
  | winchSettleExpiry dt => exact next_runs dt .settles
  | runTimerExpiry dt => exact next_runs dt (runExpiry_runs _)
  | captureEdge dt ch => exact next_runs dt (edge_runs _ ch)
  | noiseTimerExpiry dt ch => exact next_runs dt (.whenever _ _ (.trans .still (ownNoise_runs _ ch)))
  | stampExpiry dt ch => exact next_runs dt (stampExpiry_touches _ ch).runs
  | sequenceStart dt => exact next_runs dt (sequenceStart_runs _)
  | sequenceCompletion dt a0 a1 reference =>
    exact next_runs dt ((sequenceComplete_runs _ (starting rfl)).trans (setLevels_touches _ _).runs)
  | economyTrimEvaluation dt => exact next_runs dt (economyEvent_runs _)
  | fuelRateEvaluation dt => exact next_runs dt (rateEvent_touches _).runs
  | periodStart dt => exact next_runs dt (.periods k)

end Sys2Proof.Machine
end

section
/-! SUPPORT. What every run of primitive operations keeps of the con and of the thrust unit. -/

namespace Sys2Proof.Machine

-- As in Laws/Touches.lean: one theorem at a time.
set_option Elab.async false

variable {a : Scope}

/-! ## What no run changes -/

/-- Role, address, clock and image stand. -/
structure Held (s t : State) : Prop where
  role : t.role = s.role
  address : t.address = s.address
  clock : t.clock = s.clock
  image : t.start.image = s.start.image

theorem Held.trans {s t u : State} (h : Held s t) (k : Held t u) : Held s u :=
  ⟨k.role.trans h.role, k.address.trans h.address, k.clock.trans h.clock, k.image.trans h.image⟩

theorem OnlyTouches.held {ps : List Part} {s t : State} (h : OnlyTouches ps s t)
    (role : Part.role ∉ ps := by decide) (address : Part.address ∉ ps := by decide)
    (clock : Part.clock ∉ ps := by decide) (start : Part.start ∉ ps := by decide) : Held s t :=
  ⟨h.role role, h.address address, h.clock clock, congrArg StartUnit.image (h.start start)⟩

theorem Held.isProp {s t : State} (h : Held s t) : t.isProp = s.isProp := by unfold State.isProp; rw [h.role]
theorem Held.isCoup {s t : State} (h : Held s t) : t.isCoup = s.isCoup := by unfold State.isCoup; rw [h.role]
theorem Held.isHelm {s t : State} (h : Held s t) : t.isHelm = s.isHelm := by unfold State.isHelm; rw [h.role]

/-- The units as the entry to LISTEN_ONLY or HALTED leaves them, before the con and the outputs follow. -/
def State.unitsLeft (s : State) (halted : Bool) : State :=
  { s with
    station := if halted then .halted else .listenOnly,
    start := { s.start with joinTimer := none, watch := none },
    comms := { s.comms with
      link := s.comms.link.silence s.clock,
      alerts := { s.comms.alerts with repeatTimer := none } },
    demand := s.demandLeave halted,
    peers := { s.peers with sweep := if halted then none else s.peers.sweep },
    thrust := s.thrustLeave,
    gear := s.gear.leave,
    gov := s.gov.leave,
    steer := s.steer.leave,
    coup := s.coup.leave,
    meter := s.meter.leave halted,
    account := { s.account with interval := none } }

theorem leaveService_eq (s : State) (halted : Bool) :
    s.leaveService halted = (s.unitsLeft halted).leaveCon.applySafe := rfl

theorem unitsLeft_touches (s : State) (halted : Bool) :
    OnlyTouches (.outputs :: conParts) (s.unitsLeft halted) (s.leaveService halted) :=
  (leaveCon_touches _).mono.trans (applySafe_touches _).mono

theorem leaveService_held (s : State) (halted : Bool) : Held s (s.leaveService halted) :=
  Held.trans (t := s.unitsLeft halted) ⟨rfl, rfl, rfl, rfl⟩ (unitsLeft_touches s halted).held

theorem joiningUnits_touches (s : State) :
    OnlyTouches [.helm, .thrust, .gear, .gov, .outputs] s.startJoining s.enterJoining :=
  (whenever_touches _ _ (readSwitches_touches _)).mono.trans ((refreshAvailability_touches _).mono.trans
    ((refreshStrain_touches _).mono.trans (applySafe_touches _).mono))

theorem enterJoining_held (s : State) : Held s s.enterJoining :=
  Held.trans (t := s.startJoining) ⟨rfl, rfl, rfl, rfl⟩ (joiningUnits_touches s).held

theorem yielded_touches (s : State) (v : ConView) :
    OnlyTouches conParts s ((s.withView v).setHolderLow none).leaveHolding :=
  (demand_touches s _).mono.trans ((setHolderLow_touches _ _).mono.trans (leaveHolding_touches _).mono)

theorem Runs.held {s t : State} (run : Runs a s t) : Held s t := by
  induction run with
  | trans _ _ h k => exact h.trans k
  | frame h => exact h.held
  | report h => exact h.held
  | start u h => exact ⟨rfl, rfl, rfl, h⟩
  | yields v => exact (yielded_touches _ v).held
  | avail => exact (refreshAvailability_touches _).held
  | refreshed _ h => exact h.trans (refreshStrain_touches _).held
  | starts b d => exact (startDrive_touches _ b d).held
  | inhibits => exact (inhibitDrive_touches _).held
  | enters _ _ _ _ _ h => exact h.trans ⟨rfl, rfl, rfl, rfl⟩
  | periods => exact (startPeriod_touches _).held
  | judged _ h => exact h.trans (judgeWinch_touches _).held
  | caused _ h => exact h.trans (winchCauses_touches _).held
  | free _ _ h => exact h
  | heaves => exact (dwellExpiry_touches _).held
  | hauls => exact (hauledTaut_touches _).held
  | overruns => exact (winchRun_touches _).held
  | settles => exact (settleEnd_touches _).held
  | locks on => exact (lockoutChange_touches _ on).held
  | frees => exact Held.trans (t := State.without _ .winchRun) ⟨rfl, rfl, rfl, rfl⟩ (unlockWinch_touches _).held
  | withdraws b => exact leaveService_held _ b
  | joins => exact enterJoining_held _
  | _ => exact ⟨rfl, rfl, rfl, rfl⟩

/-! ## The con and the demands of a HELM station (R19, R32, R194) -/

/-- What a HELM station keeps of its con, its state and its demands. -/
def Conned (s : State) : Prop := ConInv s ∧ HelmAwake s ∧ DemandInv s

theorem Conned.same {s t : State} (h : Conned s) (role : t.role = s.role := by rfl)
    (address : t.address = s.address := by rfl) (station : t.station = s.station := by rfl)
    (demand : t.demand = s.demand := by rfl) (helm : t.helm = s.helm := by rfl) : Conned t := by
  unfold Conned ConInv HelmAwake DemandInv State.isHelm at *
  rw [role, address, station, demand, helm]
  exact h

theorem OnlyTouches.conned {ps : List Part} {s t : State} (touches : OnlyTouches ps s t) (h : Conned s)
    (role : Part.role ∉ ps := by decide) (address : Part.address ∉ ps := by decide)
    (station : Part.station ∉ ps := by decide) (demand : Part.demand ∉ ps := by decide)
    (helm : Part.helm ∉ ps := by decide) : Conned t :=
  h.same (touches.role role) (touches.address address) (touches.station station) (touches.demand demand)
    (touches.helm helm)

/-- Once the con is given up a station keeps its demands and the record it held. -/
theorem leaveHolding_conned {s : State} (awake : HelmAwake s) (range : DemandInv s) : Conned s.leaveHolding := by
  have left : Conned { s with
      helm := s.helm.released, demand := s.freshRecord s.demand.record.demand s.demand.record.number true,
      view := s.view.unrequest } := ⟨nofun, awake, range⟩
  exact (clear_touches _ _).conned left

theorem leaveCon_conned {s : State} (awake : HelmAwake s) (range : DemandInv s) : Conned s.leaveCon := by
  have given (t : State) (awake : HelmAwake t) (range : DemandInv t) :
      Conned { t with helm := { t.helm.endRequest with interval := none } } := ⟨nofun, awake, range⟩
  unfold State.leaveCon
  dsimp only
  split
  · obtain ⟨-, awake, range⟩ := leaveHolding_conned awake range
    exact given _ awake range
  · exact given s awake range

theorem demandLeave_record (s : State) (halted : Bool) : (s.demandLeave halted).record = s.demand.record := by
  unfold State.demandLeave
  split
  · rfl
  · split <;> rfl

theorem leaveService_conned {s : State} (h : Conned s) (halted : Bool) : Conned (s.leaveService halted) := by
  obtain ⟨-, -, record, live, current⟩ := h
  rw [leaveService_eq]
  refine (applySafe_touches _).conned (leaveCon_conned (fun _ => ?_) ⟨?_, live, current⟩)
  · cases halted <;> exact nofun
  · exact (demandLeave_record s halted).symm ▸ record

theorem Runs.conned {s t : State} (run : Runs a s t) : Conned s → Conned t := by
  induction run with
  | trans _ _ h k => exact fun c => k (h c)
  | frame h => exact h.conned
  | report h => exact h.conned
  | demand d view range =>
    rintro ⟨con, awake, record, live, current⟩
    exact ⟨fun k => view.symm ▸ con k, awake, range record live, live, current⟩
  | view v own =>
    rintro ⟨con, awake, range⟩
    exact ⟨fun k => ⟨(con k).1, own (con k).1 k⟩, awake, range⟩
  | @yields a s v helm =>
    rintro ⟨-, awake, range⟩
    have low := setHolderLow_touches (s.withView v) none
    refine leaveHolding_conned (fun _ => ?_) ?_
    · rw [low.station (by decide)]
      exact awake helm
    · unfold DemandInv
      rw [low.demand (by decide), low.helm (by decide)]
      exact range
  | helm u own range =>
    rintro ⟨con, awake, record, live, current⟩
    exact ⟨fun k => (own k).elim con id, awake, record, range live current⟩
  | avail => exact (refreshAvailability_touches _).conned
  | refreshed _ h => exact fun c => (refreshStrain_touches _).conned (h c)
  | starts b d => exact (startDrive_touches _ b d).conned
  | inhibits => exact (inhibitDrive_touches _).conned
  | enters _ _ _ _ _ h => exact fun c => (h c).same
  | periods => exact (startPeriod_touches _).conned
  | @stands a s x _ _ asleep =>
    rintro ⟨con, -, range⟩
    refine ⟨con, fun helm stood => ?_, range⟩
    have off := asleep stood
    rw [show s.isHelm = true from helm] at off
    cases off
  | @coupStands a s _ coup =>
    rintro ⟨con, -, range⟩
    refine ⟨con, fun helm => ?_, range⟩
    have off : s.isCoup = false := isCoup_of_helm (s := s) helm
    rw [coup] at off
    cases off
  | judged _ h => exact fun c => (judgeWinch_touches _).conned (h c)
  | caused _ h => exact fun c => (winchCauses_touches _).conned (h c)
  | free _ _ h => exact h
  | heaves => exact (dwellExpiry_touches _).conned
  | hauls => exact (hauledTaut_touches _).conned
  | overruns => exact (winchRun_touches _).conned
  | settles => exact (settleEnd_touches _).conned
  | locks on => exact (lockoutChange_touches _ on).conned
  | frees => exact fun c => (unlockWinch_touches _).conned c.same
  | withdraws b => exact fun c => leaveService_conned c b
  | fails => exact fun ⟨con, _, range⟩ => ⟨con, nofun, range⟩
  | @joins a s =>
    rintro ⟨con, -, range⟩
    have begun : Conned s.startJoining := ⟨con, nofun, range⟩
    have read : Conned (s.startJoining.whenever s.startJoining.isHelm State.readSwitches) := by
      unfold State.whenever
      split
      · exact begun
      · exact begun
    exact (applySafe_touches _).conned ((refreshStrain_touches _).conned ((refreshAvailability_touches _).conned read))
  | _ => exact fun c => c.same

/-! ## Economy trim (R55) -/

theorem refreshAvailability_trim (s : State) : s.refreshAvailability.thrust.trim = s.thrust.trim := by
  unfold State.refreshAvailability
  split <;> rfl

theorem refreshStrain_trim (s : State) : s.refreshStrain.thrust.trim = s.thrust.trim := by
  unfold State.refreshStrain
  dsimp only
  split
  · split <;> rfl
  · rfl

theorem trimInv_iff (s : State) : TrimInv s ↔ 200 ≤ s.thrust.trim ∧ s.thrust.trim ≤ 1000 := Iff.rfl

/-- A station whose E is that of another. -/
theorem TrimInv.same {s t : State} (h : TrimInv s) (e : t.thrust.trim = s.thrust.trim) : TrimInv t := by
  rw [trimInv_iff, e]; exact h

theorem OnlyTouches.trim {ps : List Part} {s t : State} (touches : OnlyTouches ps s t)
    (n : Part.thrust ∉ ps := by decide) (h : TrimInv s) : TrimInv t :=
  h.same (congrArg ThrustUnit.trim (touches.thrust n))

theorem enterJoining_trim (s : State) : s.enterJoining.thrust.trim = s.thrust.trim := by
  show (State.refreshStrain _).thrust.trim = _
  rw [refreshStrain_trim, refreshAvailability_trim,
    (whenever_touches _ _ (readSwitches_touches s.startJoining)).thrust (by decide)]
  rfl

theorem Runs.trim {s t : State} (run : Runs a s t) : TrimInv s → TrimInv t := by
  induction run with
  | trans _ _ h k => exact fun c => k (h c)
  | frame h => exact h.trim
  | report h => exact h.trim
  | thrust u _ trim => exact trim
  | yields v => exact (yielded_touches _ v).trim
  | avail => exact fun c => c.same (refreshAvailability_trim _)
  | refreshed _ h => exact fun c => (h c).same (refreshStrain_trim _)
  | inhibits => exact (inhibitDrive_touches _).trim
  | enters _ _ _ _ _ h => exact h
  | periods => exact (startPeriod_touches _).trim
  | judged _ h => exact fun c => (judgeWinch_touches _).trim (h := h c)
  | caused _ h => exact fun c => (winchCauses_touches _).trim (h := h c)
  | free _ _ h => exact h
  | heaves => exact (dwellExpiry_touches _).trim
  | hauls => exact (hauledTaut_touches _).trim
  | overruns => exact (winchRun_touches _).trim
  | settles => exact (settleEnd_touches _).trim
  | locks on => exact (lockoutChange_touches _ on).trim
  | frees => exact (unlockWinch_touches (State.without _ _)).trim
  | withdraws b => exact (unitsLeft_touches _ b).trim
  | joins => exact fun c => c.same (enterJoining_trim _)
  | _ => exact id

/-! ## X, the duty and OUT0 (R38, R48, R51, R177) -/

/-- What is held of X, the duty and the availability of a PROPULSION station in a gear and a station state. -/
structure Bounded (u : ThrustUnit) (g : GearState) (x : StationState) : Prop where
  rest : u.x = 0 ∨ (engaged g = true ∧ x.acting = true)
  astern : -(u.astern : Int) ≤ u.x
  ahead : u.x ≤ u.ahead
  idle : u.x = 0 → u.duty = 0
  duty : u.duty ≤ 1000

theorem thrustInv_iff (s : State) : ThrustInv s ↔ (s.isProp = true → Bounded s.thrust s.gear.state s.station) :=
  ⟨fun h p => ⟨(h p).1, (h p).2.1, (h p).2.2.1, (h p).2.2.2.1, (h p).2.2.2.2⟩,
    fun h p => ⟨(h p).rest, (h p).astern, (h p).ahead, (h p).idle, (h p).duty⟩⟩

theorem ThrustInv.same {s t : State} (h : ThrustInv s) (role : t.role = s.role := by rfl)
    (thrust : t.thrust = s.thrust := by rfl) (gear : t.gear.state = s.gear.state := by rfl)
    (station : t.station = s.station := by rfl) : ThrustInv t := by
  unfold ThrustInv State.isProp at *
  rw [role, thrust, gear, station]
  exact h

theorem OnlyTouches.thrustInv {ps : List Part} {s t : State} (touches : OnlyTouches ps s t)
    (role : Part.role ∉ ps := by decide) (thrust : Part.thrust ∉ ps := by decide)
    (gear : Part.gear ∉ ps := by decide) (station : Part.station ∉ ps := by decide) (h : ThrustInv s) : ThrustInv t :=
  h.same (touches.role role) (touches.thrust thrust) (congrArg GearUnit.state (touches.gear gear))
    (touches.station station)

/-- A PROPULSION station whose X and duty rest meets the invariant in any state. -/
theorem Bounded.of_rest {u : ThrustUnit} (x : u.x = 0) (duty : u.duty = 0) (g : GearState) (y : StationState) :
    Bounded u g y :=
  ⟨.inl x, by omega, by omega, fun _ => duty, by omega⟩

theorem dutyOf_le (g : GearState) (x : Int) (rated : Nat) : dutyOf g x rated ≤ 1000 := by
  unfold dutyOf
  split
  · exact min_le_left _ _
  · exact Nat.zero_le _

/-- X and the gear set within the availability, where the duty was as X had it. -/
theorem setDrive_bounded {s : State} {x : Int} {g : GearState} (idle : s.thrust.x = 0 → s.thrust.duty = 0)
    (duty : s.thrust.duty ≤ 1000) (low : -(s.thrust.astern : Int) ≤ x) (high : x ≤ s.thrust.ahead)
    (rest : x = 0 ∨ (engaged g = true ∧ s.station.acting = true)) :
    Bounded (s.setDrive x g).thrust (s.setDrive x g).gear.state (s.setDrive x g).station := by
  refine ⟨rest, low, high, fun zero => ?_, ?_⟩
  · have zero : x = 0 := zero
    show (if x = s.thrust.x ∧ g = s.gear.state then s.thrust.duty else _) = 0
    split
    · rename_i same
      exact idle (same.1 ▸ zero)
    · rw [zero, dutyOf_zero]
  · show (if x = s.thrust.x ∧ g = s.gear.state then s.thrust.duty else _) ≤ 1000
    split
    · exact duty
    · exact dutyOf_le _ _ _

theorem withinAvailability_bounds (x : Int) (p q : Nat) :
    -(q : Int) ≤ withinAvailability x p q ∧ withinAvailability x p q ≤ p := by
  unfold withinAvailability
  split
  · omega
  · split <;> omega

theorem refreshAvailability_thrustInv {s : State} (h : ThrustInv s) : ThrustInv s.refreshAvailability := by
  unfold State.refreshAvailability
  split
  case isFalse => exact h
  rename_i up
  dsimp only
  rw [thrustInv_iff] at *
  intro prop
  have b := h (Bool.and_eq_true_iff.mp up).1
  refine setDrive_bounded b.idle b.duty (withinAvailability_bounds _ _ _).1 (withinAvailability_bounds _ _ _).2 ?_
  exact b.rest.imp_left fun zero => by rw [zero]; exact within_zero _ _

theorem withinTarget_bounds {x lo hi : Int} (zero : lo ≤ 0 ∧ 0 ≤ hi) (h : lo ≤ x ∧ x ≤ hi) (target : Int) :
    lo ≤ withinTarget x target ∧ withinTarget x target ≤ hi := by
  unfold withinTarget
  split
  · split <;> omega
  · split
    · split <;> omega
    · exact h

theorem withinTarget_zero (target : Int) : withinTarget 0 target = 0 := rfl

theorem refreshStrain_thrustInv {s : State} (h : ThrustInv s) : ThrustInv s.refreshStrain := by
  unfold State.refreshStrain
  split
  case isFalse => exact h
  rename_i up
  dsimp only
  split
  · rw [thrustInv_iff] at *
    intro prop
    have b := h (Bool.and_eq_true_iff.mp up).1
    have held := withinTarget_bounds (by omega) ⟨b.astern, b.ahead⟩ (s.targetWith s.strainFactorNow)
    refine setDrive_bounded b.idle b.duty held.1 held.2 ?_
    exact b.rest.imp_left fun zero => by rw [zero]; exact withinTarget_zero _
  · exact h

/-- From START nothing has moved X, so the availability found at JOINING entry changes nothing of it. -/
theorem enterJoining_thrustInv {s : State} (h : ThrustInv s) (start : s.station = .start) : ThrustInv s.enterJoining := by
  have begun : ThrustInv s.startJoining := by
    rw [thrustInv_iff] at *
    intro prop
    have b := h prop
    have zero : s.thrust.x = 0 := b.rest.resolve_right fun e => by rw [start] at e; exact absurd e.2 (by decide)
    exact .of_rest (u := s.startJoining.thrust) zero (b.idle zero) _ _
  exact (applySafe_touches _).thrustInv (h := refreshStrain_thrustInv (refreshAvailability_thrustInv
    ((whenever_touches _ _ (readSwitches_touches _)).thrustInv (h := begun))))

theorem leaveService_thrustInv (s : State) (halted : Bool) : ThrustInv (s.leaveService halted) := by
  refine (unitsLeft_touches s halted).thrustInv (h := ?_)
  rw [thrustInv_iff]
  exact fun _ => .of_rest rfl rfl _ _

theorem Runs.thrustInv {s t : State} (run : Runs a s t) : ThrustInv s → ThrustInv t := by
  induction run with
  | trans _ _ h k => exact fun c => k (h c)
  | frame h => exact h.thrustInv
  | report h => exact h.thrustInv
  | @thrust a s u same =>
    intro h
    obtain ⟨x, duty, ahead, astern, -⟩ := same
    rw [thrustInv_iff] at *
    intro prop
    have b := h prop
    refine ⟨x ▸ b.rest, ?_, ?_, ?_, duty ▸ b.duty⟩
    · rw [x, astern]; exact b.astern
    · rw [x, ahead]; exact b.ahead
    · rw [x, duty]; exact b.idle
  | @drives a s x g ok =>
    intro h
    rw [thrustInv_iff]
    intro prop
    obtain ⟨low, high, rest⟩ := ok h prop
    have b := (thrustInv_iff s).mp h prop
    exact setDrive_bounded b.idle b.duty low high rest
  | yields v => exact (yielded_touches _ v).thrustInv
  | avail => exact refreshAvailability_thrustInv
  | refreshed _ h => exact fun c => refreshStrain_thrustInv (h c)
  | gear u e => exact fun c => c.same (gear := e)
  | inhibits => exact (inhibitDrive_touches _).thrustInv
  | enters _ _ _ _ _ h => exact fun c => (h c).same
  | periods => exact (startPeriod_touches _).thrustInv
  | stands x _ acts =>
    intro h
    rw [thrustInv_iff] at *
    intro prop
    have b := h prop
    exact ⟨b.rest.imp_right fun e => ⟨e.1, acts⟩, b.astern, b.ahead, b.idle, b.duty⟩
  | @coupStands a s _ coup =>
    intro _ prop
    have off : s.isCoup = false := isCoup_of_prop (s := s) prop
    rw [coup] at off
    cases off
  | judged _ h => exact fun c => (judgeWinch_touches _).thrustInv (h := h c)
  | caused _ h => exact fun c => (winchCauses_touches _).thrustInv (h := h c)
  | free _ _ h => exact h
  | heaves => exact (dwellExpiry_touches _).thrustInv
  | hauls => exact (hauledTaut_touches _).thrustInv
  | overruns => exact (winchRun_touches _).thrustInv
  | settles => exact (settleEnd_touches _).thrustInv
  | locks on => exact (lockoutChange_touches _ on).thrustInv
  | frees => exact fun c => (unlockWinch_touches _).thrustInv (h := c.same)
  | withdraws b => exact fun _ => leaveService_thrustInv _ b
  | fails start =>
    intro h
    rw [thrustInv_iff] at *
    intro prop
    have b := h prop
    have zero := b.rest.resolve_right fun e => by rw [start] at e; exact absurd e.2 (by decide)
    exact .of_rest zero (b.idle zero) _ _
  | joins start => exact fun c => enterJoining_thrustInv c start
  | _ => exact fun c => c.same

end Sys2Proof.Machine
end

section
/-! SUPPORT. What every run of primitive operations keeps of OUT0, of F, of the safe state's outputs and of the valve
drive. -/

namespace Sys2Proof.Machine

-- As in Laws/Touches.lean: one theorem at a time.
set_option Elab.async false

variable {a : Scope}

/-! ## Outputs (section 10.4) -/

theorem Tab.get_map {n : Nat} {α β : Type} (f : α → β) (t : Tab n α) (i : Fin n) : (t.map f).get i = f (t.get i) := by
  simp [Tab.get, Tab.map]

theorem Pwm.write_next (p : Pwm) (d : Nat) : (p.write d).next = d := by
  obtain ⟨bankA, bankB, control, pending, driving⟩ := p
  cases control <;> rfl

theorem Pwm.Closed.next {p : Pwm} (h : p.Closed) : p.next = 0 := by
  obtain ⟨bankA, bankB, control, pending, driving⟩ := p
  obtain ⟨rfl, rfl, rfl, rfl⟩ := h
  cases control <;> rfl

/-- A period start takes a pending write, and so leaves the next duty. -/
theorem Pwm.periodStart_next (p : Pwm) : p.periodStart.next = p.next := by
  obtain ⟨bankA, bankB, control, pending, driving⟩ := p
  cases control <;> cases pending <;> rfl

theorem Pwm.Closed.periodStart {p : Pwm} (h : p.Closed) : p.periodStart.Closed := by
  obtain ⟨bankA, bankB, control, pending, driving⟩ := p
  obtain ⟨rfl, rfl, rfl, rfl⟩ := h
  cases control <;> exact ⟨rfl, rfl, rfl, rfl⟩

theorem Pwm.immediate_closed (p : Pwm) : p.immediate.Closed := ⟨rfl, rfl, rfl, rfl⟩

theorem applySafe_closed (s : State) (i : Fin 3) : (s.applySafe.outputs.outs.get i).Closed :=
  Machine.immediate_closed s.outputs i

theorem safe_eq (x : StationState) : x.safe = !x.acting := by cases x <;> rfl

theorem not_safe_of_acting {x : StationState} (h : x.acting = true) : x.safe = false := by rw [safe_eq, h]; rfl

theorem taking_of_acting {x : StationState} (h : x.acting = true) : x.taking = true := by
  cases x <;> first | rfl | cases h

theorem writeDuty_same {s : State} (act : s.station.acting = true) (i : Fin 3) (d : Nat) :
    ((s.writeDuty i d).outputs.outs.get i).next = d := by
  unfold State.writeDuty
  dsimp only
  rw [safe_eq, act]
  simp only [Bool.not_true, Bool.false_eq_true, if_false, Tab.get_set_self, Pwm.write_next]

theorem writeDuty_other (s : State) {i j : Fin 3} (h : j ≠ i) (d : Nat) :
    (s.writeDuty i d).outputs.outs.get j = s.outputs.outs.get j := by
  unfold State.writeDuty
  dsimp only
  split
  · rfl
  · exact Tab.get_set_ne _ _ h

theorem writeDuty_safe {s : State} (safe : s.station.safe = true) (i : Fin 3) (d : Nat) :
    (s.writeDuty i d).outputs = s.outputs := if_pos safe

theorem closeValves_closed (s : State) {i : Fin 3} (h : i = 1 ∨ i = 2) :
    (s.closeValves.outputs.outs.get i).Closed := by
  unfold State.closeValves
  dsimp only
  obtain rfl | rfl := h
  · rw [Tab.get_set_ne _ _ (by decide), Tab.get_set_self]
    exact Pwm.immediate_closed _
  · rw [Tab.get_set_self]
    exact Pwm.immediate_closed _

theorem closeValves_other (s : State) : s.closeValves.outputs.outs.get 0 = s.outputs.outs.get 0 := by
  unfold State.closeValves
  dsimp only
  rw [Tab.get_set_ne _ _ (by decide), Tab.get_set_ne _ _ (by decide)]

theorem startPeriod_outs (s : State) (i : Fin 3) :
    s.startPeriod.outputs.outs.get i = s.outputs.outs.get i ∨
      s.startPeriod.outputs.outs.get i = (s.outputs.outs.get i).periodStart := by
  unfold State.startPeriod State.whenever
  split
  · exact .inr (Tab.get_map _ _ i)
  · exact .inl rfl

theorem startPeriod_next (s : State) (i : Fin 3) :
    (s.startPeriod.outputs.outs.get i).next = (s.outputs.outs.get i).next := by
  obtain e | e := startPeriod_outs s i <;> rw [e]
  exact Pwm.periodStart_next _

theorem setDrive_duty (s : State) (x : Int) (g : GearState) : (s.setDrive x g).thrust.duty =
    if x = s.thrust.x ∧ g = s.gear.state then s.thrust.duty else dutyOf g x (s.param Param.ratedThrust) := rfl

/-- A changed duty is written to OUT0, and nothing else of the outputs moves (R48). -/
theorem setDrive_outputs (s : State) (x : Int) (g : GearState) : (s.setDrive x g).outputs =
    if (s.setDrive x g).thrust.duty = s.thrust.duty then s.outputs
    else (s.writeDuty 0 (s.setDrive x g).thrust.duty).outputs := by
  unfold State.setDrive
  simp only [beq_iff_eq]

theorem setDrive_outs (s : State) (x : Int) (g : GearState) {i : Fin 3} (h : i ≠ 0) :
    (s.setDrive x g).outputs.outs.get i = s.outputs.outs.get i := by
  rw [setDrive_outputs]
  split
  · rfl
  · exact writeDuty_other s h _

theorem refreshAvailability_outs (s : State) {i : Fin 3} (h : i ≠ 0) :
    s.refreshAvailability.outputs.outs.get i = s.outputs.outs.get i := by
  unfold State.refreshAvailability
  dsimp only
  split
  · exact setDrive_outs _ _ _ h
  · rfl

theorem refreshStrain_outs (s : State) {i : Fin 3} (h : i ≠ 0) :
    s.refreshStrain.outputs.outs.get i = s.outputs.outs.get i := by
  unfold State.refreshStrain
  dsimp only
  split
  · split
    · exact setDrive_outs _ _ _ h
    · rfl
  · rfl

/-! ## OUT0 (R48, R177) -/

theorem GovernorInv.same {s t : State} (h : GovernorInv s) (role : t.role = s.role := by rfl)
    (duty : t.thrust.duty = s.thrust.duty := by rfl)
    (out : (t.outputs.outs.get 0).next = (s.outputs.outs.get 0).next := by rfl) : GovernorInv t := by
  unfold GovernorInv State.isProp at *
  rw [role, duty, out]
  exact h

theorem OnlyTouches.governor {ps : List Part} {s t : State} (touches : OnlyTouches ps s t)
    (role : Part.role ∉ ps := by decide) (thrust : Part.thrust ∉ ps := by decide)
    (outputs : Part.outputs ∉ ps := by decide) (h : GovernorInv s) : GovernorInv t :=
  h.same (touches.role role) (congrArg _ (touches.thrust thrust)) (by rw [touches.outputs outputs])

/-- A changed duty is written, because a station that takes no write has X and the duty at 0. -/
theorem setDrive_governor {s : State} {x : Int} {g : GearState}
    (still : s.station.acting = false → x = 0 ∧ s.thrust.duty = 0)
    (out : (s.outputs.outs.get 0).next = s.thrust.duty) :
    ((s.setDrive x g).outputs.outs.get 0).next = (s.setDrive x g).thrust.duty := by
  rw [setDrive_outputs]
  split
  · rename_i same
    rw [out, same]
  · rename_i changed
    cases act : s.station.acting with
    | true => exact writeDuty_same act 0 _
    | false =>
      obtain ⟨x_zero, duty_zero⟩ := still act
      refine absurd ?_ changed
      rw [setDrive_duty, x_zero, duty_zero, dutyOf_zero, ite_self]

/-- A station that takes no write is at rest. -/
theorem Bounded.still {s : State} (b : Bounded s.thrust s.gear.state s.station) (act : s.station.acting = false) :
    s.thrust.x = 0 ∧ s.thrust.duty = 0 := by
  have zero : s.thrust.x = 0 := b.rest.resolve_right fun e => by rw [act] at e; exact absurd e.2 (by decide)
  exact ⟨zero, b.idle zero⟩

/-- The same where the availability or F has been replaced before X is set. -/
theorem setX_governor {s : State} {u : ThrustUnit} {x : Int} (h : ThrustInv s) (g : GovernorInv s)
    (prop : s.isProp = true) (duty_same : u.duty = s.thrust.duty) (rest : s.thrust.x = 0 → x = 0) :
    (((State.setX { s with thrust := u } x).outputs.outs.get 0)).next =
      (State.setX { s with thrust := u } x).thrust.duty := by
  refine setDrive_governor (s := { s with thrust := u }) (fun act => ?_) ((g prop).trans duty_same.symm)
  obtain ⟨x_zero, duty_zero⟩ := ((thrustInv_iff s).mp h prop).still act
  exact ⟨rest x_zero, duty_same.trans duty_zero⟩

theorem refreshAvailability_governor {s : State} (h : ThrustInv s) (g : GovernorInv s) :
    GovernorInv s.refreshAvailability := by
  unfold State.refreshAvailability
  split
  · exact fun prop => setX_governor h g prop rfl fun zero => by rw [zero]; exact within_zero _ _
  · exact g

theorem refreshStrain_governor {s : State} (h : ThrustInv s) (g : GovernorInv s) : GovernorInv s.refreshStrain := by
  unfold State.refreshStrain
  dsimp only
  split
  · split
    · exact fun prop => setX_governor h g prop rfl fun zero => by rw [zero]; exact withinTarget_zero _
    · exact g
  · exact g

/-- Where the safe state has just been applied OUT0 stands at 0, as does the duty of a station at rest. -/
theorem governor_of_safe {s : State} (h : ThrustInv s.applySafe) (safe : s.station.safe = true) :
    GovernorInv s.applySafe := by
  intro prop
  have b := (thrustInv_iff _).mp h prop
  have zero : s.applySafe.thrust.x = 0 := b.rest.resolve_right fun e => by
    rw [safe_eq, show s.station.acting = true from e.2] at safe
    cases safe
  rw [(applySafe_closed s 0).next, b.idle zero]

theorem stopDrive_out0 (s : State) (b : Bool) : (s.stopDrive b).outputs.outs.get 0 = s.outputs.outs.get 0 :=
  writeDuty_other s (by cases b <;> decide) _

theorem inhibitDrive_out0 (s : State) : s.inhibitDrive.outputs.outs.get 0 = s.outputs.outs.get 0 := by
  unfold State.inhibitDrive
  split
  · rfl
  · exact closeValves_other s

theorem Runs.governor {s t : State} (run : Runs a s t) : ThrustInv s → GovernorInv s → GovernorInv t := by
  induction run with
  | trans run _ h k => exact fun i g => k (run.thrustInv i) (h i g)
  | frame h => exact fun _ => h.governor
  | report h => exact fun _ => h.governor
  | thrust u same => exact fun _ g => g.same (duty := same.2.1)
  | @drives a s x g ok =>
    intro i gov prop
    refine setDrive_governor (fun act => ⟨?_, (((thrustInv_iff s).mp i prop).still act).2⟩) (gov prop)
    exact (ok i prop).2.2.resolve_right fun e => by rw [act] at e; exact absurd e.2 (by decide)
  | yields v => exact fun _ => (yielded_touches _ v).governor
  | avail => exact refreshAvailability_governor
  | refreshed run h => exact fun i g => refreshStrain_governor (run.thrustInv i) (h i g)
  | starts b d =>
    exact fun _ g => g.same (out := congrArg Pwm.next (writeDuty_other _ (by cases b <;> decide) d))
  | stops b => exact fun _ g => g.same (out := congrArg Pwm.next (stopDrive_out0 _ b))
  | redrives b d =>
    exact fun _ g => g.same (out := congrArg Pwm.next (writeDuty_other _ (by cases b <;> decide) d))
  | inhibits =>
    exact fun _ g => g.same ((inhibitDrive_touches _).role (by decide))
      (congrArg _ ((inhibitDrive_touches _).thrust (by decide))) (congrArg Pwm.next (inhibitDrive_out0 _))
  | enters _ _ _ _ _ h => exact fun i g => (h i g).same
  | periods =>
    exact fun _ g => g.same ((startPeriod_touches _).role (by decide))
      (congrArg _ ((startPeriod_touches _).thrust (by decide))) (startPeriod_next _ 0)
  | judged _ h => exact fun i g => (judgeWinch_touches _).governor (h := h i g)
  | caused _ h => exact fun i g => (winchCauses_touches _).governor (h := h i g)
  | free _ _ h => exact h
  | heaves => exact fun _ => (dwellExpiry_touches _).governor
  | hauls => exact fun _ => (hauledTaut_touches _).governor
  | overruns => exact fun _ => (winchRun_touches _).governor
  | settles => exact fun _ => (settleEnd_touches _).governor
  | locks on => exact fun _ => (lockoutChange_touches _ on).governor
  | frees => exact fun _ g => (unlockWinch_touches _).governor (h := g.same)
  | @withdraws a s b =>
    intro _ _
    refine governor_of_safe (leaveService_thrustInv s b) ?_
    rw [(leaveCon_touches _).station (by decide)]
    cases b <;> rfl
  | fails start k => exact fun i _ => governor_of_safe ((Runs.fails start k).thrustInv i) rfl
  | @joins a s start k =>
    intro i _
    have stood : s.enterJoining.station = .joining := enterJoining_station s
    exact governor_of_safe (enterJoining_thrustInv i start) (by
      show s.enterJoining.station.safe = true
      rw [stood]; rfl)
  | _ => exact fun _ g => g.same

/-! ## F (R53) -/

theorem StrainInv.same {s t : State} (h : StrainInv s) (role : t.role = s.role := by rfl)
    (address : t.address = s.address := by rfl) (taking : t.station.taking = true → s.station.taking = true := by exact id)
    (strain : t.thrust.strain = s.thrust.strain := by rfl)
    (entries : t.peers.entries = s.peers.entries := by rfl) : StrainInv t := by
  intro prop up
  have prop : s.isProp = true := by rw [isProp_iff] at prop ⊢; exact role.symm.trans prop
  rw [strain, strain_congr prop role entries address]
  exact h prop (taking up)

theorem OnlyTouches.strainInv {ps : List Part} {s t : State} (touches : OnlyTouches ps s t)
    (role : Part.role ∉ ps := by decide) (address : Part.address ∉ ps := by decide)
    (station : Part.station ∉ ps := by decide) (thrust : Part.thrust ∉ ps := by decide)
    (peers : Part.peers ∉ ps := by decide) (h : StrainInv s) : StrainInv t :=
  h.same (touches.role role) (touches.address address) (by rw [touches.station station]; exact id)
    (by rw [touches.thrust thrust]) (by rw [touches.peers peers])

theorem refreshAvailability_strain (s : State) : s.refreshAvailability.thrust.strain = s.thrust.strain := by
  unfold State.refreshAvailability
  split <;> rfl

/-- Once found again F is the least factor of the table. -/
theorem refreshStrain_strainInv (s : State) : StrainInv s.refreshStrain := by
  have touches := refreshStrain_touches s
  intro prop up
  have prop : s.isProp = true := by rw [isProp_iff] at prop ⊢; rw [← touches.role (by decide)]; exact prop
  rw [touches.station (by decide)] at up
  rw [strain_congr prop (touches.role (by decide)) (congrArg _ (touches.peers (by decide))) (touches.address (by decide))]
  unfold State.refreshStrain
  dsimp only
  rw [prop, up]
  simp only [Bool.and_self, if_true]
  split <;> rfl

theorem Runs.strainInv {s t : State} (run : Runs a s t) : a.strain = false → StrainInv s → StrainInv t := by
  induction run with
  | trans _ _ h k => exact fun n c => k n (h n c)
  | frame h => exact fun _ => h.strainInv
  | report h => exact fun _ => h.strainInv
  | table p h =>
    intro n c
    obtain h | h := h
    · exact c.same (entries := h)
    · rw [n] at h; exact absurd h.2 (by decide)
  | thrust u same => exact fun _ c => c.same (strain := same.2.2.2.2)
  | yields v => exact fun _ => (yielded_touches _ v).strainInv
  | avail =>
    have touches := refreshAvailability_touches
    exact fun _ c => c.same ((touches _).role (by decide)) ((touches _).address (by decide))
      (by rw [(touches _).station (by decide)]; exact id) (refreshAvailability_strain _)
      (by rw [(touches _).peers (by decide)])
  | refreshed => exact fun _ _ => refreshStrain_strainInv _
  | inhibits => exact fun _ => (inhibitDrive_touches _).strainInv
  | enters _ _ _ _ _ h => exact fun n c => (h n c).same
  | periods => exact fun _ => (startPeriod_touches _).strainInv
  | stands x up => exact fun _ c => c.same (taking := fun _ => up.elim taking_of_acting fun h => by rw [h]; rfl)
  | coupStands up => exact fun _ c => c.same (taking := fun _ => taking_of_acting up)
  | judged _ h => exact fun n c => (judgeWinch_touches _).strainInv (h := h n c)
  | caused _ h => exact fun n c => (winchCauses_touches _).strainInv (h := h n c)
  | free _ _ h => exact h
  | heaves => exact fun _ => (dwellExpiry_touches _).strainInv
  | hauls => exact fun _ => (hauledTaut_touches _).strainInv
  | overruns => exact fun _ => (winchRun_touches _).strainInv
  | settles => exact fun _ => (settleEnd_touches _).strainInv
  | locks on => exact fun _ => (lockoutChange_touches _ on).strainInv
  | frees => exact fun _ c => (unlockWinch_touches _).strainInv (h := c.same)
  | withdraws b up =>
    refine fun _ c => (unitsLeft_touches _ b).strainInv (h := c.same (taking := fun _ => ?_))
    exact up.elim taking_of_acting fun h => by rw [h]; rfl
  | fails => exact fun _ _ _ up => nomatch up
  | joins => exact fun _ _ => (applySafe_touches _).strainInv (h := refreshStrain_strainInv _)
  | _ => exact fun _ c => c.same

/-! ## The safe state and the valves (R83, R178, R180) -/

/-- The outputs of the safe state, and the valves. -/
def Gated (s : State) : Prop := SafeInv s ∧ ValveInv s

theorem Gated.same {s t : State} (h : Gated s) (station : t.station = s.station := by rfl)
    (outs : ∀ i, i ≠ 0 → t.outputs.outs.get i = s.outputs.outs.get i := by exact fun _ _ => rfl)
    (out0 : t.outputs.outs.get 0 = s.outputs.outs.get 0 ∨ (s.station.safe = true → (t.outputs.outs.get 0).Closed) := by
      exact .inl rfl)
    (drive : t.steer.drive = s.steer.drive := by rfl) : Gated t := by
  obtain ⟨safe, port, stbd⟩ := h
  refine ⟨fun up i => ?_, ?_, ?_⟩
  · rw [station] at up
    by_cases zero : i = 0
    · exact zero ▸ out0.elim (fun e => e ▸ safe up 0) fun shut => shut up
    · exact outs i zero ▸ safe up i
  · rw [outs 1 (by decide), drive]; exact port
  · rw [outs 2 (by decide), drive]; exact stbd

theorem OnlyTouches.gated {ps : List Part} {s t : State} (touches : OnlyTouches ps s t)
    (station : Part.station ∉ ps := by decide) (outputs : Part.outputs ∉ ps := by decide)
    (steer : Part.steer ∉ ps := by decide) (h : Gated s) : Gated t :=
  h.same (touches.station station) (by rw [touches.outputs outputs]; exact fun _ _ => rfl)
    (.inl (by rw [touches.outputs outputs])) (by rw [touches.steer steer])

/-- In the safe state no write is taken, so the governor leaves OUT0 as it stood. -/
theorem setDrive_gated {s : State} (h : Gated s) (x : Int) (g : GearState) : Gated (s.setDrive x g) := by
  refine h.same (outs := fun i => setDrive_outs s x g) (out0 := .inr fun safe => ?_)
  have same : (s.setDrive x g).outputs = s.outputs := by
    rw [setDrive_outputs, writeDuty_safe safe, ite_self]
  rw [same]
  exact h.1 safe 0

theorem refreshAvailability_gated {s : State} (h : Gated s) : Gated s.refreshAvailability := by
  unfold State.refreshAvailability
  dsimp only
  split
  · exact setDrive_gated (s := { s with thrust := _ }) h _ _
  · exact h

theorem refreshStrain_gated {s : State} (h : Gated s) : Gated s.refreshStrain := by
  unfold State.refreshStrain
  dsimp only
  split
  · split
    · exact setDrive_gated (s := { s with thrust := _ }) h _ _
    · exact h
  · exact h

/-- A safe state just applied leaves every output closed. -/
theorem applySafe_gated (s : State) : Gated s.applySafe :=
  ⟨fun _ => applySafe_closed s, fun n => absurd (applySafe_closed s 1).next n, fun n => absurd (applySafe_closed s 2).next n⟩

theorem ValveInv.port {s : State} (h : ValveInv s) (n : s.steer.drive ≠ .drivingPort) :
    (s.outputs.outs.get 1).next = 0 := by
  by_contra k; exact n (h.1 k)

theorem ValveInv.stbd {s : State} (h : ValveInv s) (n : s.steer.drive ≠ .drivingStbd) :
    (s.outputs.outs.get 2).next = 0 := by
  by_contra k; exact n (h.2 k)

/-- A write to the valve that the drive runs, or by which it starts or stops, in ACTIVE and STANDBY. -/
theorem valveWrite_gated {s t : State} {b : Bool} {d : Nat} (h : ValveInv s) (act : s.station.acting = true)
    (one_way : s.steer.drive = .stopped ∨ s.steer.drive = driving b) (station : t.station = s.station)
    (outs : t.outputs = (s.writeDuty (valveOutput b) d).outputs) (drive : t.steer.drive = driving b ∨ d = 0) :
    Gated t := by
  refine ⟨fun safe => ?_, ?_, ?_⟩
  · rw [station, safe_eq, act] at safe
    cases safe
  · rw [outs]
    cases b
    case false =>
      rw [show valveOutput false = 1 from rfl, writeDuty_same act]
      exact drive.elim (fun e _ => e) fun e n => absurd e n
    case true =>
      rw [writeDuty_other s (by decide)]
      refine fun n => absurd (h.port ?_) n
      obtain e | e := one_way <;> rw [e] <;> decide
  · rw [outs]
    cases b
    case true =>
      rw [show valveOutput true = 2 from rfl, writeDuty_same act]
      exact drive.elim (fun e _ => e) fun e n => absurd e n
    case false =>
      rw [writeDuty_other s (by decide)]
      refine fun n => absurd (h.stbd ?_) n
      obtain e | e := one_way <;> rw [e] <;> decide

theorem inhibitDrive_gated {s : State} (h : Gated s) : Gated s.inhibitDrive := by
  unfold State.inhibitDrive
  split
  · exact h
  · have shut1 := closeValves_closed s (i := 1) (.inl rfl)
    have shut2 := closeValves_closed s (i := 2) (.inr rfl)
    refine ⟨fun safe i => ?_, fun n => absurd shut1.next n, fun n => absurd shut2.next n⟩
    match i with
    | 0 => exact (closeValves_other s).symm ▸ h.1 safe 0
    | 1 => exact shut1
    | 2 => exact shut2

theorem startPeriod_gated {s : State} (h : Gated s) : Gated s.startPeriod := by
  have touches := startPeriod_touches s
  obtain ⟨safe, port, stbd⟩ := h
  refine ⟨fun up i => ?_, ?_, ?_⟩
  · rw [touches.station (by decide)] at up
    obtain e | e := startPeriod_outs s i <;> rw [e]
    · exact safe up i
    · exact (safe up i).periodStart
  · rw [startPeriod_next, touches.steer (by decide)]; exact port
  · rw [startPeriod_next, touches.steer (by decide)]; exact stbd

/-- What a run does to the valve drive: within `untouched` nothing, within `stopping` nothing but a stop. -/
def Steered (a : Scope) (s t : State) : Prop :=
  (a.drive = .untouched → t.steer.drive = s.steer.drive ∧ ∀ i, i ≠ 0 → t.outputs.outs.get i = s.outputs.outs.get i) ∧
  (a.drive ≠ .starting → t.steer.drive = s.steer.drive ∨ t.steer.drive = .stopped ∨ t.steer.drive = .inhibited)

theorem Steered.same {s t : State} (drive : t.steer.drive = s.steer.drive := by rfl)
    (outs : ∀ i, i ≠ 0 → t.outputs.outs.get i = s.outputs.outs.get i := by exact fun _ _ => rfl) : Steered a s t :=
  ⟨fun _ => ⟨drive, outs⟩, fun _ => .inl drive⟩

theorem OnlyTouches.steered {ps : List Part} {s t : State} (touches : OnlyTouches ps s t)
    (outputs : Part.outputs ∉ ps := by decide) (steer : Part.steer ∉ ps := by decide) : Steered a s t :=
  .same (by rw [touches.steer steer]) (by rw [touches.outputs outputs]; exact fun _ _ => rfl)

theorem Steered.trans {s t u : State} (h : Steered a s t) (k : Steered a t u) : Steered a s u :=
  ⟨fun n => ⟨(k.1 n).1.trans (h.1 n).1, fun i z => ((k.1 n).2 i z).trans ((h.1 n).2 i z)⟩,
    fun n => (k.2 n).elim (fun e => by rw [e]; exact h.2 n) .inr⟩

/-- A run that only ever stops the drive. -/
theorem Steered.stops {s t : State} (k : a.drive ≠ .untouched)
    (h : t.steer.drive = s.steer.drive ∨ t.steer.drive = .stopped ∨ t.steer.drive = .inhibited) : Steered a s t :=
  ⟨fun n => absurd n k, fun _ => h⟩

theorem leaveService_drive (s : State) (b : Bool) :
    (s.leaveService b).steer.drive = .stopped ∨ (s.leaveService b).steer.drive = .inhibited := by
  rw [(unitsLeft_touches s b).steer (by decide)]
  have left : (s.unitsLeft b).steer.drive = if s.steer.drive = .inhibited then .inhibited else .stopped := rfl
  rw [left]
  split
  · exact .inr rfl
  · exact .inl rfl

theorem Runs.steered {s t : State} (run : Runs a s t) : Steered a s t := by
  induction run with
  | trans _ _ h k => exact h.trans k
  | frame h => exact h.steered
  | report h => exact h.steered
  | yields v => exact (yielded_touches _ v).steered
  | drives x g => exact .same rfl fun i z => setDrive_outs _ x g z
  | avail =>
    exact .same (by rw [(refreshAvailability_touches _).steer (by decide)]) fun i z => refreshAvailability_outs _ z
  | refreshed _ h =>
    exact h.trans (.same (by rw [(refreshStrain_touches _).steer (by decide)]) fun i z => refreshStrain_outs _ z)
  | steer u e => exact .same e
  | starts b d _ _ k => exact ⟨fun n => (nomatch k.symm.trans n), fun n => absurd k n⟩
  | stops b _ _ k => exact .stops k (.inr (.inl rfl))
  | redrives b d _ _ k => exact .stops k (.inl rfl)
  | inhibits k =>
    refine .stops k ?_
    unfold State.inhibitDrive
    split
    · exact .inl rfl
    · exact .inr (.inr rfl)
  | releases u e k => exact .stops k (e.imp_right fun e => .inl e.2)
  | enters _ _ u stopped k => exact .stops k (.inr (.inl stopped))
  | periods k => exact .stops k (.inl (by rw [(startPeriod_touches _).steer (by decide)]))
  | judged _ h => exact h.trans (judgeWinch_touches _).steered
  | caused _ h => exact h.trans (winchCauses_touches _).steered
  | free _ _ h => exact h
  | heaves => exact (dwellExpiry_touches _).steered
  | hauls => exact (hauledTaut_touches _).steered
  | overruns => exact (winchRun_touches _).steered
  | settles => exact (settleEnd_touches _).steered
  | locks on => exact (lockoutChange_touches _ on).steered
  | frees => exact (unlockWinch_touches (State.without _ .winchRun)).steered
  | withdraws b _ k => exact .stops k (.inr (leaveService_drive _ b))
  | fails _ k => exact .stops k (.inl rfl)
  | joins _ k => exact .stops k (.inl (by rw [(joiningUnits_touches _).steer (by decide)]; rfl))
  | _ => exact .same

theorem Runs.gated {s t : State} (run : Runs a s t) : Gated s → Gated t := by
  induction run with
  | trans _ _ h k => exact fun c => k (h c)
  | frame h => exact h.gated
  | report h => exact h.gated
  | yields v => exact (yielded_touches _ v).gated
  | drives x g => exact fun c => setDrive_gated c x g
  | avail => exact refreshAvailability_gated
  | refreshed _ h => exact fun c => refreshStrain_gated (h c)
  | steer u e => exact fun c => c.same (drive := e)
  | starts b d act h =>
    exact fun c => valveWrite_gated c.2 act (.inl h) rfl rfl (.inl (by cases b <;> rfl))
  | stops b act h => exact fun c => valveWrite_gated c.2 act (.inr h) rfl rfl (.inr rfl)
  | redrives b d act h => exact fun c => valveWrite_gated c.2 act (.inr h) rfl rfl (.inl h)
  | inhibits => exact inhibitDrive_gated
  | @releases a s u e =>
    rintro ⟨safe, valves⟩
    obtain e | ⟨was, now⟩ := e
    · exact Gated.same (s := s) ⟨safe, valves⟩ (drive := e)
    · refine ⟨safe, fun n => absurd (valves.port ?_) n, fun n => absurd (valves.stbd ?_) n⟩ <;> rw [was] <;> decide
  | @enters a s t run safe u stopped k h =>
    intro c
    obtain ⟨-, outs⟩ := run.steered.1 rfl
    obtain ⟨shut, -⟩ := h c
    refine ⟨shut, fun n => absurd ?_ n, fun n => absurd ?_ n⟩
    · exact (outs 1 (by decide)).symm ▸ (c.1 safe 1).next
    · exact (outs 2 (by decide)).symm ▸ (c.1 safe 2).next
  | periods => exact startPeriod_gated
  | stands x _ acts => exact fun c => ⟨fun safe => absurd safe (by rw [not_safe_of_acting acts]; decide), c.2⟩
  | coupStands => exact fun c => ⟨nofun, c.2⟩
  | judged _ h => exact fun c => (judgeWinch_touches _).gated (h := h c)
  | caused _ h => exact fun c => (winchCauses_touches _).gated (h := h c)
  | free _ _ h => exact h
  | heaves => exact (dwellExpiry_touches _).gated
  | hauls => exact (hauledTaut_touches _).gated
  | overruns => exact (winchRun_touches _).gated
  | settles => exact (settleEnd_touches _).gated
  | locks on => exact (lockoutChange_touches _ on).gated
  | frees => exact fun c => (unlockWinch_touches _).gated (h := c.same)
  | withdraws => exact fun _ => applySafe_gated _
  | fails => exact fun _ => applySafe_gated _
  | joins => exact fun _ => applySafe_gated _
  | _ => exact fun c => c.same

end Sys2Proof.Machine
end

section
/-! SUPPORT. What every step keeps of the valves, the discrete outputs and the thrust (O57, O58). -/

namespace Sys2Proof.Machine

-- As in Laws/Touches.lean: one theorem at a time.
set_option Elab.async false

variable {a : Scope}

/-! ## Every step as a reset or a run -/

/-- The scope of a whole command: it leaves no judgement open. -/
abbrev Scope.whole : Scope := ⟨.settled, false, .starting⟩

/-- What the two resets leave, in START or, where the pins name no role, in FAILED. -/
theorem resetTo_meets {P : State → Prop}
    (started : ∀ cause role address lines totals residue pending,
      P (State.afterReset cause role address lines totals residue pending))
    (fails : ∀ s, s.station = .start → P s → P s.enterFailed)
    (s : State) (cause : ResetCause) (pins : BitVec 2) (address : Addr) (lines : BitVec 16) :
    P (s.resetTo cause pins address lines) := by
  unfold State.resetTo State.judgeStrapping
  dsimp only
  split
  · exact fails _ rfl (started _ _ _ _ _ _ _)
  · exact started _ _ _ _ _ _ _

/-- What a reset leaves and every run of primitive operations keeps, every step of the station keeps. -/
theorem step_run_keeps {P : State → Prop} (waits : ∀ s (l : List Instr), P s → P (s.rest l))
    (idles : ∀ s : State, P s → P s.idle) (loads : ∀ s dt image, P s → P (s.loaded dt image))
    (started : ∀ cause role address lines totals residue pending,
      P (State.afterReset cause role address lines totals residue pending))
    (runs : ∀ s t, Runs .whole s t → P s → P t) {s t : State} (h : P s) (e : step s = .next t) : P t := by
  refine step_keeps waits idles (fun s cause pins address lines _ => ?_) (fun c s t r h e => ?_) h e
  · exact resetTo_meets started (fun s start => runs _ _ (.fails start nofun)) s cause pins address lines
  · obtain ⟨dt, image, u, e', run, -⟩ := exec_runs (a := .whole) c s r nofun fun _ => rfl
    cases e.symm.trans e'
    exact runs _ _ run (loads s dt image h)

/-! ## A running drive is not turned round (R82) -/

theorem driving_ne (b : Bool) : driving b ≠ .stopped ∧ driving b ≠ .inhibited := by cases b <;> decide

/-- A step that leaves the drive as it ran, or stops it. -/
def RunsOn (s t : State) : Prop :=
  ∀ b, s.steer.drive = driving b →
    t.steer.drive = driving b ∨ t.steer.drive = .stopped ∨ t.steer.drive = .inhibited

theorem Steered.runsOn {s t : State} (h : Steered a s t) (k : a.drive ≠ .starting) : RunsOn s t :=
  fun _ e => e ▸ h.2 k

theorem driveStep_running {s : State} {b : Bool} (h : s.steer.drive = driving b) : s.driveStep = s.driveRunning b := by
  unfold State.driveStep
  cases b <;> rw [h] <;> rfl

/-- While the drive runs, a delivery to the steering unit at most stops it. -/
theorem rudderStep_stops {s : State} {b : Bool} (acts : s.station.acting = true) (h : s.steer.drive = driving b)
    (k : a.drive ≠ .untouched) : Runs a s s.rudderStep := by
  have ended : s.feedbackEnd.findRudderDemand.station.acting = true :=
    ((feedbackEnd_touches s).station (by decide)).symm ▸ acts
  have still : s.feedbackEnd.findRudderDemand.steer.drive = driving b := by
    show s.feedbackEnd.steer.drive = _
    unfold State.feedbackEnd
    split
    · refine ((released_drive _).resolve_right fun e => (driving_ne b).2 ?_).trans ?_
      · rw [← h, ← e.1, show (s.clear .rudderFeedback).steer = s.steer from (clear_touches s _).steer (by decide)]
      · rw [show (s.clear .rudderFeedback).steer = s.steer from (clear_touches s _).steer (by decide)]
        exact h
    · exact h
  have step := driveRunning_runs (a := a) ended still k
  rw [← driveStep_running still] at step
  exact (feedbackEnd_runs s k).trans ((findRudderDemand_runs _).trans (step.trans (spreadStep_runs _)))

theorem rudderDelivery_stops {s : State} {b : Bool} (r : Raw) (ok : Bool) (h : s.steer.drive = driving b)
    (k : a.drive ≠ .untouched) : Runs a s (s.rudderDelivery r ok) :=
  .ite (.trans (.steer (s := s) { s.steer with angle := rudderAngle (s.param Param.angleSpan) r } rfl)
      (.under _ _ fun acts => rudderStep_stops (Bool.and_eq_true_iff.mp acts).2 h k))
    (.whenever s _ (rudderFault_runs s k))

theorem deliver_stops {s : State} {b : Bool} (x y r : Raw) (h : s.steer.drive = driving b)
    (k : a.drive ≠ .untouched) : Runs a s (s.deliver x y r) := by
  unfold State.deliver
  dsimp only
  split
  · exact leverDelivery_runs s _ _ _ _
  · exact .whenever s _ (rudderDelivery_stops _ _ h k)
  · exact tensionDelivery_runs s _ _
  · exact .refl s

theorem sequenceComplete_stops {s : State} {b : Bool} (h : s.steer.drive = driving b) (k : a.drive ≠ .untouched) :
    Runs a s s.sequenceComplete := by
  unfold State.sequenceComplete
  split
  · exact .whenever s _ (.trans .still (deliver_stops (b := b) _ _ _ h k))
  · exact .refl s
  · exact .refl s

/-- Only a delivery starts a drive, and none starts one that runs. -/
theorem exec_runsOn {c : Instr} {s t : State} (r : isReset c = false) (e : exec c s = .next t) : RunsOn s t := by
  let stopping : Scope := ⟨.settled, false, .stopping⟩
  cases completes_eq : completes c with
  | false =>
    obtain ⟨dt, image, u, e', run, -⟩ :=
      exec_runs (a := stopping) c s r nofun fun n => absurd (completes_eq.symm.trans n) nofun
    cases e.symm.trans e'
    exact run.steered.runsOn (s := s.loaded dt image) nofun
  | true =>
    cases c with
    | sequenceCompletion dt a0 a1 reference =>
      cases e
      intro b h
      have run : Runs stopping (s.advance dt) (s.advance dt).sequenceComplete :=
        sequenceComplete_stops (b := b) (s := s.advance dt) h nofun
      exact run.steered.runsOn (s := s.advance dt) nofun b h
    | _ => nomatch completes_eq

theorem step_runsOn {s t : State} (e : step s = .next t) : RunsOn s t := by
  have stops : ∀ (s : State) cause pins address lines, (s.resetTo cause pins address lines).steer.drive = .stopped :=
    resetTo_meets (P := fun s => s.steer.drive = .stopped) (fun _ _ _ _ _ _ _ => rfl) fun _ _ h => h
  unfold step at e
  split at e
  · cases e
    exact fun _ h => .inl h
  · rename_i c cs _
    cases r : isReset c with
    | false => exact exec_runsOn (s := s.rest cs) r e
    | true =>
      cases c with
      | powerOnReset pins address lines =>
        cases e
        exact fun _ _ => .inr (.inl (stops _ _ _ _ _))
      | resetLineReset pins address lines =>
        cases e
        exact fun _ _ => .inr (.inl (stops _ _ _ _ _))
      | _ => nomatch r

/-! ## The discrete outputs (R60, R105, R179, R180) -/

theorem aheadSolenoid_iff (g : GearState) : aheadSolenoid g = true ↔ g = .engagingAhead ∨ g = .ahead := by
  cases g <;> decide

theorem asternSolenoid_iff (g : GearState) : asternSolenoid g = true ↔ g = .engagingAstern ∨ g = .astern := by
  cases g <;> decide

theorem discrete_safe {s : State} (h : s.station.safe = true) (i : Fin 8) : s.discrete i = false := by
  unfold State.discrete
  rw [h]
  rfl

theorem discrete_winch {s : State} (h : s.isCoup = true) :
    s.discrete 0 = (!s.station.safe && s.coup.winch == .heaving) ∧ s.discrete 1 = s.discrete 0 := by
  unfold State.discrete State.ownerSetting
  rw [(isCoup_iff s).mp h]
  exact ⟨rfl, rfl⟩

theorem ownerless {s : State} {i : Fin 8} (h : 1 < i.val) : s.discrete i = false := by
  have n0 : i ≠ 0 := fun e => by rw [e] at h; exact absurd h (by decide)
  have n1 : i ≠ 1 := fun e => by rw [e] at h; exact absurd h (by decide)
  unfold State.discrete State.ownerSetting
  simp only [n0, n1, if_false]
  split <;> exact Bool.and_false _

theorem safe_iff (x : StationState) : x.safe = true ↔
    x = .start ∨ x = .failed ∨ x = .joining ∨ x = .listenOnly ∨ x = .halted := by
  cases x <;> decide

/-- The two solenoids of a PROPULSION station (R60). -/
theorem discrete_gear {s : State} (prop : s.isProp = true) :
    (s.discrete 0 = true ↔ s.station.safe = false ∧ (s.gear.state = .engagingAhead ∨ s.gear.state = .ahead)) ∧
    (s.discrete 1 = true ↔ s.station.safe = false ∧ (s.gear.state = .engagingAstern ∨ s.gear.state = .astern)) ∧
    ¬ (s.discrete 0 = true ∧ s.discrete 1 = true) := by
  have ahead : s.discrete 0 = true ↔ s.station.safe = false ∧ (s.gear.state = .engagingAhead ∨ s.gear.state = .ahead) := by
    rw [discrete_ahead prop, Bool.and_eq_true, Bool.not_eq_true', aheadSolenoid_iff]
  have astern : s.discrete 1 = true ↔
      s.station.safe = false ∧ (s.gear.state = .engagingAstern ∨ s.gear.state = .astern) := by
    rw [discrete_astern prop, Bool.and_eq_true, Bool.not_eq_true', asternSolenoid_iff]
  refine ⟨ahead, astern, fun ⟨h, k⟩ => ?_⟩
  obtain ⟨-, h⟩ := ahead.mp h
  obtain ⟨-, k⟩ := astern.mp k
  obtain h | h := h <;> rw [h] at k <;> exact absurd k (by decide)

theorem reset_gated (cause role address lines totals residue pending) :
    Gated (State.afterReset cause role address lines totals residue pending) := by
  have shut : ∀ i : Fin 3, (OutputUnit.reset.outs.get i).Closed := by
    unfold Pwm.Closed
    decide
  exact ⟨fun _ => shut, fun n => absurd (shut 1).next n, fun n => absurd (shut 2).next n⟩

theorem step_gated {s t : State} (h : Gated s) (e : step s = .next t) : Gated t :=
  step_run_keeps (P := Gated) (fun _ _ h => h) (fun _ h => h) (fun _ _ _ h => h) reset_gated
    (fun _ _ run => run.gated) h e

/-- Settles O57: every command is a run of primitive operations, and only a stopped drive is started. -/
theorem everyStepKeepsTheValves : Obligations.EveryStepKeepsTheValves := by
  refine ⟨fun s t safe valves e => step_gated ⟨safe, valves⟩ e, fun s valves => ?_, fun s t e => ?_,
    fun _ => discrete_gear, fun s coup => ?_, fun _ _ _ => ownerless, fun _ => discrete_safe, fun s => safe_iff _⟩
  · by_cases port : s.steer.drive = .drivingPort
    · exact .inr (valves.stbd (by rw [port]; decide))
    · exact .inl (valves.port port)
  · constructor <;> intro h turned
    · have on := step_runsOn e false h
      rw [turned] at on
      exact absurd on (by decide)
    · have on := step_runsOn e true h
      rw [turned] at on
      exact absurd on (by decide)
  · obtain ⟨heave, brake⟩ := discrete_winch coup
    refine ⟨?_, brake⟩
    rw [heave, Bool.and_eq_true, Bool.not_eq_true', beq_iff_eq]

/-! ## F is no more than any factor (R53) -/

theorem leastOf_le (l : List (Option Nat)) : ∀ d, leastOf d l ≤ d ∧ ∀ x, some x ∈ l → leastOf d l ≤ x := by
  induction l with
  | nil => exact fun d => ⟨le_rfl, nofun⟩
  | cons o l ih =>
    intro d
    cases o with
    | none =>
      obtain ⟨le, all⟩ := ih d
      exact ⟨le, fun x m => all x (by simpa using m)⟩
    | some y =>
      obtain ⟨le, all⟩ := ih (min d y)
      refine ⟨le.trans (min_le_left _ _), fun x m => ?_⟩
      rcases List.mem_cons.mp m with e | m
      · cases e
        exact le.trans (min_le_right _ _)
      · exact all x m

theorem Tab.get_mem {n : Nat} {α : Type} (t : Tab n α) (i : Fin n) : t.get i ∈ t.cells := List.get_mem _ _

/-- The factor of an entry of another station bounds F. -/
theorem strainFactorNow_le {s : State} {x : Addr} {f : Nat} (other : x ≠ s.address)
    (h : entryFactor (s.peers.entries.get x) = some f) : s.strainFactorNow ≤ f := by
  refine (leastOf_le _ 1000).2 f ?_
  rw [← h, ← Tab.get_set_ne (t := s.peers.entries) s.ownEntry other]
  exact List.mem_map_of_mem (Tab.get_mem s.table x)

theorem coupling_strain_le {s : State} {x : Addr} {e : Entry} {joint : Nat} {refresh : Bool} {record : StrainRecord}
    (strain : StrainInv s) (prop : s.isProp = true) (taking : s.station.taking = true) (other : x ≠ s.address)
    (entry : s.peers.entries.get x = some e) (body : e.body = .coupling joint refresh record) :
    s.thrust.strain ≤ classFactor record.cls ∧ (e.liveness = .silent → s.thrust.strain ≤ 750) := by
  rw [strain prop taking]
  obtain ⟨body', liveness⟩ := e
  subst body
  cases liveness with
  | silent =>
    have le := strainFactorNow_le (f := min 750 (classFactor record.cls)) other (by rw [entry]; rfl)
    exact ⟨le.trans (min_le_right _ _), fun _ => le.trans (min_le_left _ _)⟩
  | _ => exact ⟨strainFactorNow_le other (by rw [entry]; rfl), nofun⟩

/-! ## The thrust unit -/

theorem reset_thrust (cause role address lines totals residue pending) :
    ThrustInv (State.afterReset cause role address lines totals residue pending) := by
  rw [thrustInv_iff]
  exact fun _ => .of_rest rfl rfl _ _

theorem reset_trim (cause role address lines totals residue pending) :
    TrimInv (State.afterReset cause role address lines totals residue pending) := by
  rw [trimInv_iff]
  exact (by decide : 200 ≤ ThrustUnit.reset.trim ∧ ThrustUnit.reset.trim ≤ 1000)

/-- Settles O58: every command is a run of primitive operations within the scope that leaves nothing open. -/
theorem everyStepKeepsTheThrust : Obligations.EveryStepKeepsTheThrust := by
  refine ⟨fun s t thrust strain trim e => ?_, fun s t thrust gov e => ?_, fun _ _ _ _ _ _ => coupling_strain_le⟩
  · refine ⟨?_, ?_, ?_⟩
    · exact step_run_keeps (P := ThrustInv) (fun _ _ h => h) (fun _ h => h) (fun _ _ _ h => h) reset_thrust
        (fun _ _ run => run.thrustInv) thrust e
    · exact step_run_keeps (P := StrainInv) (fun _ _ h => h.same) (fun _ h => h.same) (fun _ _ _ h => h.same)
        (fun _ _ _ _ _ _ _ _ => nofun) (fun _ _ run => run.strainInv rfl) strain e
    · exact step_run_keeps (P := TrimInv) (fun _ _ h => h) (fun _ h => h) (fun _ _ _ h => h)
        reset_trim (fun _ _ run => run.trim) trim e
  · refine (step_run_keeps (P := fun s => ThrustInv s ∧ GovernorInv s) (fun _ _ h => h) (fun _ h => h)
      (fun _ _ _ h => h) (fun cause role address lines totals residue pending => ?_) (fun _ _ run h => ?_)
      ⟨thrust, gov⟩ e).2
    · exact ⟨reset_thrust cause role address lines totals residue pending, fun _ => rfl⟩
    · exact ⟨run.thrustInv h.1, run.governor h.1 h.2⟩

end Sys2Proof.Machine
end

section
/-! SUPPORT. What every run of primitive operations keeps of the winch of a COUPLING station, up to the judgement it
still owes, and O60. -/

namespace Sys2Proof.Machine

-- As in Laws/Touches.lean: one theorem at a time.
set_option Elab.async false

variable {a : Scope}

/-! ## What the winch rests on -/

/-- The permit of a COUPLING station does not read its own record but for a class of OVERLOAD or PARTED (R106). -/
theorem permit_congr_loads {s t : State} (coup : s.isCoup = true) (role : t.role = s.role) (address : t.address = s.address)
    (station : t.station = s.station) (image : t.start.image = s.start.image)
    (entries : t.peers.entries = s.peers.entries) (state : t.demand.record.state = s.demand.record.state)
    (demand : t.demand.record.demand = s.demand.record.demand)
    (cls : (t.coup.cls == .overload || t.coup.cls == .parted) = (s.coup.cls == .overload || s.coup.cls == .parted)) :
    t.permit = s.permit := by
  have unread : livePropRecord t.ownEntry = livePropRecord s.ownEntry ∧ entryLoaded t.ownEntry = entryLoaded s.ownEntry := by
    unfold State.ownEntry
    rw [role, station, (isCoup_iff s).mp coup]
    cases s.station.joined with
    | false => exact ⟨rfl, rfl⟩
    | true => exact ⟨rfl, by simp only [if_true, Option.map, State.ownBody, State.ownStrainRecord, entryLoaded, cls]⟩
  have read : ∀ u : State, u.liveProps = (u.table.cells.map livePropRecord).filterMap id := fun u => by
    rw [List.filterMap_map]; rfl
  have loaded : ∀ u : State, u.table.cells.any entryLoaded = (u.table.cells.map entryLoaded).any id := fun u => by
    rw [List.any_map]; rfl
  have props : t.liveProps = s.liveProps := by
    rw [read, read]
    unfold State.table
    simp only [Tab.set, List.map_set]
    rw [unread.1, entries, address]
  have loads : t.table.cells.any entryLoaded = s.table.cells.any entryLoaded := by
    rw [loaded, loaded]
    unfold State.table
    simp only [Tab.set, List.map_set]
    rw [unread.2, entries, address]
  unfold State.permit State.param
  rw [props, loads, state, demand, image]

theorem permit_congr {s t : State} (coup : s.isCoup = true) (role : t.role = s.role) (address : t.address = s.address)
    (station : t.station = s.station) (image : t.start.image = s.start.image)
    (entries : t.peers.entries = s.peers.entries) (state : t.demand.record.state = s.demand.record.state)
    (demand : t.demand.record.demand = s.demand.record.demand) (cls : t.coup.cls = s.coup.cls) :
    t.permit = s.permit :=
  permit_congr_loads coup role address station image entries state demand (by rw [cls])

/-- The station is in ACTIVE and supervises its coupling (R95, R112). -/
def State.winchRuns (s : State) : Prop := s.station = .active ∧ s.coup.supervised = true

/-- The dwell and a heave run only where the winch runs, and LOCKED_OUT has a cause (R105, R111). -/
structure Rested (s : State) : Prop where
  dwell : s.coup.dwellTimer ≠ none → s.winchRuns
  heave : s.coup.winch = .heaving → s.winchRuns
  locked : s.winchRuns → (s.coup.winch = .lockedOut ↔ s.line 1 = true ∨ s.has .winchRun = true)

/-- The dwell runs just while its conditions hold, and a heave only while none ends it (R107, R108). -/
structure Judged (s : State) : Prop where
  dwell : s.winchRuns → (s.coup.dwellTimer ≠ none ↔ s.coup.winch = .idle ∧ s.dwellHolds = true)
  heave : s.winchRuns → s.coup.winch = .heaving →
    aboveTaut s.coup.cls = false ∧ s.permit = true ∧ s.has .tensionSignal = false

theorem dwellHolds_iff (s : State) :
    s.dwellHolds = true ↔ s.coup.cls = .slack ∧ s.permit = true ∧ s.has .tensionSignal = false := by
  simp only [State.dwellHolds, Bool.and_eq_true, beq_iff_eq, Bool.not_eq_true', and_assoc]

theorem winchInv_iff (s : State) : WinchInv s ↔ (s.isCoup = true → Rested s ∧ Judged s) := by
  unfold WinchInv
  refine imp_congr_right fun _ => ?_
  constructor
  · rintro ⟨dwell, heave, locked⟩
    refine ⟨⟨fun n => ?_, fun n => ?_, fun ⟨act, up⟩ => locked act up⟩, ⟨fun ⟨act, up⟩ => ?_, fun _ n => ?_⟩⟩
    · obtain ⟨act, up, -⟩ := dwell.mp n
      exact ⟨act, up⟩
    · obtain ⟨act, up, -⟩ := heave n
      exact ⟨act, up⟩
    · rw [dwell, dwellHolds_iff]
      exact ⟨fun h => h.2.2, fun h => ⟨act, up, h⟩⟩
    · exact (heave n).2.2
  · rintro ⟨⟨dwell, heave, locked⟩, ⟨judged, going⟩⟩
    refine ⟨⟨fun n => ?_, fun ⟨act, up, idle, holds⟩ => ?_⟩, fun n => ?_, fun act up => locked ⟨act, up⟩⟩
    · obtain ⟨idle, holds⟩ := (judged (dwell n)).mp n
      exact ⟨(dwell n).1, (dwell n).2, idle, (dwellHolds_iff s).mp holds⟩
    · exact (judged ⟨act, up⟩).mpr ⟨idle, (dwellHolds_iff s).mpr holds⟩
    · exact ⟨(heave n).1, (heave n).2, going (heave n) n⟩

/-- What a run leaves of the winch, up to what it still owes. -/
def Wound (d : WinchDebt) (s : State) : Prop :=
  s.isCoup = true → (d ≠ .causes → Rested s) ∧ (d = .settled → Judged s)

/-- A dwell that a run starts runs its full length (R107). -/
def Dwells (s t : State) : Prop :=
  t.coup.dwellTimer = none ∨ t.coup.dwellTimer = s.coup.dwellTimer ∨
    t.coup.dwellTimer = startTimer t.clock (sec (t.param Param.slackDwell))

/-- A run within a debt, in a COUPLING station. -/
def Winds (d : WinchDebt) (s t : State) : Prop := (Wound d s → Wound d t) ∧ (t.isCoup = true → Dwells s t)

theorem wound_of_winchInv {s : State} (d : WinchDebt) (h : WinchInv s) : Wound d s := fun coup =>
  ⟨fun _ => ((winchInv_iff s).mp h coup).1, fun _ => ((winchInv_iff s).mp h coup).2⟩

theorem wound_settled {s : State} (h : Wound .settled s) : WinchInv s :=
  (winchInv_iff s).mpr fun coup => ⟨(h coup).1 nofun, (h coup).2 rfl⟩

/-- Where the winch does not run it is enough that nothing of it does. -/
theorem wound_of_still {s : State} (d : WinchDebt) (n : ¬ s.winchRuns) (dwell : s.coup.dwellTimer = none)
    (heave : s.coup.winch ≠ .heaving) : Wound d s := fun _ =>
  ⟨fun _ => ⟨fun h => absurd dwell h, fun h => absurd h heave, fun h => absurd h n⟩,
    fun _ => ⟨fun h => absurd h n, fun h => absurd h n⟩⟩

theorem Wound.same {d : WinchDebt} {s t : State} (h : Wound d s) (role : t.role = s.role := by rfl)
    (address : t.address = s.address := by rfl) (station : t.station = s.station := by rfl)
    (image : t.start.image = s.start.image := by rfl)
    (winch : t.coup.winch = s.coup.winch := by rfl) (dwell : t.coup.dwellTimer = s.coup.dwellTimer := by rfl)
    (supervised : t.coup.supervised = s.coup.supervised := by rfl)
    (line : s.isCoup = true → t.line 1 = s.line 1 := by exact fun _ => rfl)
    (run : t.has .winchRun = s.has .winchRun := by rfl)
    (signal : d ≠ .settled ∨ t.has .tensionSignal = s.has .tensionSignal := by exact .inr rfl)
    (entries : d ≠ .settled ∨ t.peers.entries = s.peers.entries := by exact .inr rfl)
    (record : d ≠ .settled ∨ s.isCoup = false ∨ (t.demand.record.state = s.demand.record.state ∧
      t.demand.record.demand = s.demand.record.demand) := by exact .inr (.inr ⟨rfl, rfl⟩))
    (cls : d ≠ .settled ∨ t.coup.cls = s.coup.cls := by exact .inr rfl) : Wound d t := by
  intro coup
  have coup : s.isCoup = true := by unfold State.isCoup at coup ⊢; rw [← role]; exact coup
  obtain ⟨rested, judged⟩ := h coup
  have runs : t.winchRuns ↔ s.winchRuns := by unfold State.winchRuns; rw [station, supervised]
  constructor
  · intro n
    obtain ⟨d1, h1, l1⟩ := rested n
    refine ⟨?_, ?_, ?_⟩
    · rw [runs, dwell]; exact d1
    · rw [runs, winch]; exact h1
    · rw [runs, winch, line coup, run]; exact l1
  · intro n
    obtain ⟨d1, h1⟩ := judged n
    have cls := cls.resolve_left (absurd n ·)
    have signal := signal.resolve_left (absurd n ·)
    obtain ⟨state, demand⟩ := (record.resolve_left (absurd n ·)).resolve_left fun e => by rw [coup] at e; cases e
    have permit := permit_congr coup role address station image (entries.resolve_left (absurd n ·)) state demand cls
    have holds : t.dwellHolds = s.dwellHolds := by unfold State.dwellHolds; rw [cls, permit, signal]
    refine ⟨?_, ?_⟩
    · rw [runs, dwell, winch, holds]; exact d1
    · rw [runs, winch, cls, permit, signal]; exact h1

theorem OnlyTouches.has {ps : List Part} {s t : State} (h : OnlyTouches ps s t) (n : Part.present ∉ ps)
    (c : AlertCode) : t.has c = s.has c := by
  unfold State.has Comms.has
  rw [h.present n]

theorem OnlyTouches.wound {d : WinchDebt} {ps : List Part} {s t : State} (touches : OnlyTouches ps s t)
    (role : Part.role ∉ ps := by decide) (address : Part.address ∉ ps := by decide)
    (station : Part.station ∉ ps := by decide) (start : Part.start ∉ ps := by decide)
    (coup : Part.coup ∉ ps := by decide) (lines : Part.lines ∉ ps := by decide)
    (present : Part.present ∉ ps := by decide) (peers : Part.peers ∉ ps := by decide)
    (demand : Part.demand ∉ ps := by decide) (h : Wound d s) : Wound d t := by
  have coup := touches.coup coup
  have demand := touches.demand demand
  exact h.same (touches.role role) (touches.address address) (touches.station station)
    (by rw [touches.start start]) (by rw [coup]) (by rw [coup]) (by rw [coup])
    (fun _ => by unfold State.line; rw [touches.lines lines]) (touches.has present _) (.inr (touches.has present _))
    (.inr (by rw [touches.peers peers])) (.inr (.inr ⟨by rw [demand], by rw [demand]⟩)) (.inr (by rw [coup]))

theorem Dwells.same {s t : State} (h : t.coup.dwellTimer = s.coup.dwellTimer := by rfl) : Dwells s t := .inr (.inl h)

theorem Dwells.trans {s t u : State} (h : Dwells s t) (k : Dwells t u) (held : Held t u) : Dwells s u := by
  obtain e | e | e := k
  · exact .inl e
  · obtain e' | e' | e' := h
    · exact .inl (e.trans e')
    · exact .inr (.inl (e.trans e'))
    · refine .inr (.inr (e.trans (e'.trans ?_)))
      unfold State.param
      rw [held.clock, held.image]
  · exact .inr (.inr e)

theorem OnlyTouches.dwells {ps : List Part} {s t : State} (touches : OnlyTouches ps s t)
    (coup : Part.coup ∉ ps := by decide) : Dwells s t := .same (by rw [touches.coup coup])

/-! ## The operations of the winch -/

theorem isCoup_eq {s t : State} (h : t.role = s.role) : t.isCoup = s.isCoup := by unfold State.isCoup; rw [h]

theorem winchRuns_iff {s : State} (coup : s.isCoup = true) :
    (s.isCoup && s.station == .active && s.coup.supervised) = true ↔ s.winchRuns := by
  simp only [coup, Bool.true_and, Bool.and_eq_true, beq_iff_eq, State.winchRuns]

/-- A heave that is to end (R108). -/
def State.heaveEnds (s : State) : Bool :=
  s.coup.winch = .heaving && (!s.permit || aboveTaut s.coup.cls || s.has .tensionSignal)

/-- The winch judged, in its own terms. -/
theorem winchStep_coup (s : State) :
    s.winchStep.coup.winch = (if s.heaveEnds then .idle else s.coup.winch) ∧
    s.winchStep.coup.cls = s.coup.cls ∧ s.winchStep.coup.supervised = s.coup.supervised ∧
    (s.winchStep.coup.dwellTimer ≠ none ↔ s.winchStep.coup.winch = .idle ∧ s.dwellHolds = true) ∧
    Dwells s s.winchStep := by
  unfold State.winchStep Dwells State.heaveEnds
  dsimp only
  have started : startTimer s.clock (sec (s.param Param.slackDwell)) ≠ none := nofun
  split <;> rename_i ends <;> refine ⟨rfl, rfl, rfl, ?_⟩
  · cases s.dwellHolds <;> simp [CouplingUnit.rest, startTimer, State.param]
  · cases s.coup.dwellTimer <;> cases s.dwellHolds <;> by_cases idle : s.coup.winch = .idle <;>
      simp [idle, startTimer, State.param]

theorem winchStep_permit {s : State} (coup : s.isCoup = true) : s.winchStep.permit = s.permit :=
  permit_congr coup rfl rfl rfl rfl rfl rfl rfl (winchStep_coup s).2.1

/-- A judgement pays what a change of its terms owes (R107, R108). -/
theorem judgeWinch_settles {s : State} (h : s.isCoup = true → Rested s) : WinchInv s.judgeWinch := by
  rw [winchInv_iff]
  intro coup
  have coup : s.isCoup = true := by rw [← isCoup_eq ((judgeWinch_touches s).role (by decide))]; exact coup
  obtain ⟨dwell, heave, locked⟩ := h coup
  by_cases runs : s.winchRuns
  · have stepped : s.judgeWinch = s.winchStep := whenever_pos ((winchRuns_iff coup).mpr runs)
    rw [stepped]
    obtain ⟨winch, cls, supervised, timer, -⟩ := winchStep_coup s
    have runs' : s.winchStep.winchRuns := ⟨runs.1, supervised.trans runs.2⟩
    have holds : s.winchStep.dwellHolds = s.dwellHolds := by
      unfold State.dwellHolds; rw [cls, winchStep_permit coup]; rfl
    refine ⟨⟨fun _ => runs', fun _ => runs', fun _ => ?_⟩, ⟨fun _ => ?_, fun _ heaves => ?_⟩⟩
    · show _ ↔ s.line 1 = true ∨ s.has .winchRun = true
      rw [← locked runs, winch]
      split
      · rename_i ends
        have heaving : s.coup.winch = .heaving := by
          simp only [State.heaveEnds, Bool.and_eq_true, decide_eq_true_eq] at ends
          exact ends.1
        rw [heaving]
        decide
      · rfl
    · rw [holds]; exact timer
    · have going : s.heaveEnds = false := by
        by_contra ends
        rw [winch, if_pos (by simpa using ends)] at heaves
        cases heaves
      rw [winch, going] at heaves
      have heaving : s.coup.winch = .heaving := heaves
      simp only [State.heaveEnds, heaving, decide_true, Bool.true_and, Bool.or_eq_false_iff, Bool.not_eq_false'] at going
      exact ⟨cls ▸ going.1.2, (winchStep_permit coup).trans going.1.1, going.2⟩
  · have same : s.judgeWinch = s := whenever_neg (Bool.eq_false_iff.mpr fun h => runs ((winchRuns_iff coup).mp h))
    rw [same]
    exact ⟨⟨dwell, heave, locked⟩, ⟨fun h => absurd h runs, fun h => absurd h runs⟩⟩

theorem judgeWinch_dwells (s : State) : Dwells s s.judgeWinch := by
  unfold State.judgeWinch State.whenever
  split
  · exact (winchStep_coup s).2.2.2.2
  · exact .same

/-- The winch put in IDLE where it is not locked out. -/
theorem idled_settles {s : State} (h : s.winchRuns → ¬ (s.line 1 = true ∨ s.has .winchRun = true)) :
    WinchInv (State.judgeWinch { s with coup := s.coup.rest .idle }) :=
  judgeWinch_settles fun _ => ⟨fun n => absurd rfl n, nofun, fun runs => ⟨nofun, fun cause => absurd cause (h runs)⟩⟩

theorem idled_dwells (s : State) : Dwells s (State.judgeWinch { s with coup := s.coup.rest .idle }) :=
  Dwells.trans (t := { s with coup := s.coup.rest .idle }) (.inl rfl) (judgeWinch_dwells _) (judgeWinch_touches _).held

/-- The winch put in LOCKED_OUT for a cause. -/
theorem locked_winchInv {s : State} (cause : s.line 1 = true ∨ s.has .winchRun = true) :
    WinchInv { s with coup := s.coup.rest .lockedOut } :=
  (winchInv_iff _).mpr fun _ =>
    ⟨⟨fun n => absurd rfl n, nofun, fun _ => ⟨fun _ => cause, fun _ => rfl⟩⟩, ⟨fun _ => ⟨fun n => absurd rfl n, nofun⟩, nofun⟩⟩

/-- The causes of LOCKED_OUT settle the winch afresh (R112). -/
theorem winchCauses_settles (s : State) : WinchInv s.winchCauses := by
  unfold State.winchCauses
  split
  · rename_i cause
    exact locked_winchInv (by simpa using cause)
  · rename_i n
    exact idled_settles fun _ => by simpa using n

theorem winchCauses_dwells (s : State) : Dwells s s.winchCauses := by
  unfold State.winchCauses
  split
  · exact .inl rfl
  · exact idled_dwells s

theorem winds_of_winchInv {d : WinchDebt} {s t : State} (h : WinchInv t) (k : Dwells s t) : Winds d s t :=
  ⟨fun _ => wound_of_winchInv d h, fun _ => k⟩

theorem Winds.refl (d : WinchDebt) (s : State) : Winds d s s := ⟨id, fun _ => .same⟩

/-- Two winch states of which neither is a heave nor LOCKED_OUT, or a heave and another. -/
theorem rested_of {s : State} {c : CouplingUnit} (rested : Rested s) (act : s.station = .active)
    (up : s.coup.supervised = true) (supervised : c.supervised = s.coup.supervised) (was : s.coup.winch ≠ .lockedOut)
    (now : c.winch ≠ .lockedOut) : Rested { s with coup := c } := by
  have runs : State.winchRuns { s with coup := c } := ⟨act, supervised.trans up⟩
  exact ⟨fun _ => runs, fun _ => runs, fun _ =>
    ⟨fun k => absurd k now, fun cause => absurd ((rested.locked ⟨act, up⟩).mpr cause) was⟩⟩

/-- The dwell runs out into a heave, with every condition that a heave asks for (R107). -/
theorem dwellExpiry_winds (d : WinchDebt) (s : State) : Winds d s s.dwellExpiry := by
  unfold State.dwellExpiry State.whenever
  split
  · rename_i h
    simp only [Bool.and_eq_true, beq_iff_eq] at h
    obtain ⟨⟨⟨coup, act⟩, idle⟩, ends⟩ := h
    refine ⟨fun h _ => ⟨fun n => ?_, fun n => ?_⟩, fun _ => .inl rfl⟩
    · have rested := (h coup).1 n
      exact rested_of rested act (rested.dwell (fun e => by rw [e] at ends; cases ends)).2 rfl
        (by rw [idle]; decide) nofun
    · have judged := (h coup).2 n
      have rested := (h coup).1 (by rw [n]; nofun)
      have timed : s.coup.dwellTimer ≠ none := fun e => by rw [e] at ends; cases ends
      have holds := ((judged.dwell (rested.dwell timed)).mp timed).2
      obtain ⟨slack, permit, signal⟩ := (dwellHolds_iff s).mp holds
      refine ⟨fun _ => ⟨fun n => absurd rfl n, nofun⟩, fun _ _ => ⟨by rw [slack]; rfl, ?_, signal⟩⟩
      refine (permit_congr (s := s) coup ?_ ?_ ?_ ?_ ?_ ?_ ?_ ?_).trans permit <;> rfl
  · exact .refl d s

/-- A heave hauled taut ends in HOLDING (R108). -/
theorem hauledTaut_winds (d : WinchDebt) (s : State) : Winds d s s.hauledTaut := by
  unfold State.hauledTaut State.whenever
  split
  · rename_i h
    simp only [Bool.and_eq_true, beq_iff_eq] at h
    obtain ⟨⟨⟨⟨coup, act⟩, heave⟩, -⟩, -⟩ := h
    refine ⟨fun h _ => ⟨fun n => ?_, fun _ => ?_⟩, fun _ => .inl rfl⟩
    · have rested := (h coup).1 n
      exact rested_of rested act (rested.heave heave).2 rfl (by rw [heave]; decide) nofun
    · exact ⟨fun _ => ⟨fun n => absurd rfl n, nofun⟩, nofun⟩
  · exact .refl d s

theorem winchRun_winds (d : WinchDebt) (s : State) : Winds d s s.winchRun := by
  have touches := raise_touches { s with coup := s.coup.rest .lockedOut } .winchRun
  obtain ⟨-, present, -⟩ := raise_raises { s with coup := s.coup.rest .lockedOut } .winchRun
  have coup : s.winchRun.coup = s.coup.rest .lockedOut := touches.coup (by decide)
  refine ⟨fun _ _ => ⟨fun _ => ⟨?_, ?_, fun _ => ?_⟩, fun _ => ⟨fun _ => ?_, fun _ => ?_⟩⟩, fun _ => .inl ?_⟩
  · rw [coup]; exact fun n => absurd rfl n
  · rw [coup]; exact nofun
  · rw [coup]
    exact ⟨fun _ => .inr present, fun _ => rfl⟩
  · rw [coup]; exact ⟨fun n => absurd rfl n, nofun⟩
  · rw [coup]; exact nofun
  · rw [coup]; rfl

/-- A winch whose LOCKED_OUT has no cause left is put in IDLE and judged (R111). -/
theorem freed_winds {d : WinchDebt} {s t : State} (dwell : t.coup.dwellTimer = s.coup.dwellTimer)
    (h : t.winchRuns → ¬ (t.line 1 = true ∨ t.has .winchRun = true)) :
    Winds d s (State.judgeWinch { t with coup := t.coup.rest .idle }) :=
  winds_of_winchInv (idled_settles h) (by
    obtain e | e | e := idled_dwells t
    · exact .inl e
    · exact .inr (.inl (e.trans dwell))
    · exact .inr (.inr e))

theorem Judged.same {s t : State} (h : Judged s) (coup : s.isCoup = true) (role : t.role = s.role := by rfl)
    (address : t.address = s.address := by rfl) (station : t.station = s.station := by rfl)
    (image : t.start.image = s.start.image := by rfl) (unit : t.coup = s.coup := by rfl)
    (signal : t.has .tensionSignal = s.has .tensionSignal := by rfl) (peers : t.peers = s.peers := by rfl)
    (demand : t.demand = s.demand := by rfl) : Judged t := by
  have permit := permit_congr coup role address station image (by rw [peers]) (by rw [demand]) (by rw [demand])
    (by rw [unit])
  obtain ⟨d1, h1⟩ := h
  have holds : t.dwellHolds = s.dwellHolds := by unfold State.dwellHolds; rw [unit, permit, signal]
  have runs : t.winchRuns ↔ s.winchRuns := by unfold State.winchRuns; rw [station, unit]
  refine ⟨?_, ?_⟩
  · rw [runs, unit, holds]; exact d1
  · rw [runs, unit, permit, signal]; exact h1

/-- A cause of LOCKED_OUT taken away, and the winch let go where none is left (R111). -/
theorem unlockWinch_winds {d : WinchDebt} {s t : State} (role : t.role = s.role) (unit : t.coup = s.coup)
    (station : t.station = s.station) (judged : s.isCoup = true → Judged s → Judged t)
    (causes : t.line 1 = true ∨ t.has .winchRun = true → s.line 1 = true ∨ s.has .winchRun = true) :
    Winds d s t.unlockWinch := by
  unfold State.unlockWinch State.whenever
  split
  · rename_i h
    simp only [Bool.and_eq_true, Bool.not_eq_true'] at h
    refine freed_winds (by rw [unit]) fun _ => ?_
    rw [h.1.2, h.2]
    exact fun n => n.elim nofun nofun
  · rename_i h
    refine ⟨fun wound coup => ?_, fun _ => .same (by rw [unit])⟩
    have was : s.isCoup = true := isCoup_eq role ▸ coup
    obtain ⟨rested, settled⟩ := wound was
    have runs : t.winchRuns ↔ s.winchRuns := by unfold State.winchRuns; rw [station, unit]
    refine ⟨fun n => ?_, fun n => judged was (settled n)⟩
    obtain ⟨dwell, heave, locked⟩ := rested n
    refine ⟨by rw [runs, unit]; exact dwell, by rw [runs, unit]; exact heave, fun on => ⟨fun lockedOut => ?_, fun c => ?_⟩⟩
    · simp only [coup, on.1, lockedOut, beq_self_eq_true, Bool.true_and, Bool.and_eq_true, Bool.not_eq_true'] at h
      by_contra n
      rw [not_or, Bool.not_eq_true, Bool.not_eq_true] at n
      exact h n
    · rw [unit]
      exact (locked (runs.mp on)).mpr (causes c)

theorem settleEnd_winds (d : WinchDebt) (s : State) : Winds d s s.settleEnd := by
  unfold State.settleEnd State.whenever
  split
  · rename_i h
    simp only [Bool.and_eq_true, beq_iff_eq] at h
    obtain ⟨⟨⟨coup, act⟩, holds⟩, -⟩ := h
    cases d with
    | causes => exact ⟨fun _ _ => ⟨fun n => absurd rfl n, nofun⟩, fun _ => idled_dwells s⟩
    | _ =>
      refine ⟨fun wound => ?_, fun _ => idled_dwells s⟩
      refine wound_of_winchInv _ (idled_settles fun runs cause => ?_)
      have locked := (((wound coup).1 nofun).locked runs).mpr cause
      rw [holds] at locked
      cases locked
  · exact .refl d s

theorem frees_winds (d : WinchDebt) (s : State) : Winds d s (s.without .winchRun).unlockWinch := by
  have signal : (s.without .winchRun).has .tensionSignal = s.has .tensionSignal := has_set_ne s.comms false (by decide)
  refine unlockWinch_winds rfl rfl rfl (fun coup h => h.same coup (signal := signal)) (Or.imp_right fun run => ?_)
  have gone : (s.without .winchRun).has .winchRun = false := has_set_self s.comms .winchRun false
  rw [gone] at run
  cases run

theorem lockoutChange_winds (d : WinchDebt) (s : State) (on : Bool) : Winds d s (s.lockoutChange on) := by
  have set : (s.setLine 1 on).line 1 = on := Tab.get_set_self _ _ _
  unfold State.lockoutChange
  dsimp only
  split
  · exact .refl d s
  · split
    · rename_i on_eq
      unfold State.whenever
      split
      · exact winds_of_winchInv (locked_winchInv (.inl (set.trans on_eq))) (.inl rfl)
      · rename_i still
        have still : s.station ≠ .active := fun e => still (beq_iff_eq.mpr e)
        refine ⟨fun wound coup => ?_, fun _ => .same⟩
        obtain ⟨rested, judged⟩ := wound coup
        refine ⟨fun n => ?_, fun n => (judged n).same coup⟩
        obtain ⟨dwell, heave, -⟩ := rested n
        exact ⟨dwell, heave, fun runs => absurd runs.1 still⟩
    · rename_i off
      refine unlockWinch_winds (t := s.setLine 1 on) rfl rfl rfl (fun coup h => h.same coup) (Or.imp_left fun line => ?_)
      rw [set] at line
      exact absurd line off

/-- Out of service the winch stands still. -/
theorem leaveService_winds (d : WinchDebt) (s : State) (b : Bool) : Winds d s (s.leaveService b) := by
  have coup : (s.leaveService b).coup = s.coup.leave := (unitsLeft_touches s b).coup (by decide)
  have station : (s.leaveService b).station = if b then .halted else .listenOnly := leaveService_station s b
  refine ⟨fun _ => wound_of_still d (fun runs => ?_) ?_ ?_, fun _ => .inl ?_⟩
  · have act := runs.1
    rw [station] at act
    cases b <;> cases act
  · rw [coup]; rfl
  · rw [coup]; exact nofun
  · rw [coup]; rfl

/-- Before the first entry to ACTIVE nothing of the winch runs, and none does after an entry to another state. -/
theorem still_winds {d : WinchDebt} {s t : State} (start : s.station = .start) (still : t.station ≠ .active)
    (role : t.role = s.role) (unit : t.coup = s.coup) : Winds d s t := by
  refine ⟨fun wound coup => ?_, fun _ => .same (by rw [unit])⟩
  have off : ∀ {u : State}, u.station ≠ .active → ¬ u.winchRuns := fun n runs => n runs.1
  refine ⟨fun n => ?_, fun _ => ⟨fun h => absurd h (off still), fun h => absurd h (off still)⟩⟩
  obtain ⟨dwell, heave, -⟩ := (wound (isCoup_eq role ▸ coup)).1 n
  have out : ¬ s.winchRuns := off (by rw [start]; decide)
  refine ⟨fun k => absurd (dwell ?_) out, fun k => absurd (heave ?_) out, fun k => absurd k (off still)⟩
  · rw [unit] at k; exact k
  · rw [unit] at k; exact k

theorem OnlyTouches.winds {d : WinchDebt} {ps : List Part} {s t : State} (touches : OnlyTouches ps s t)
    (role : Part.role ∉ ps := by decide) (address : Part.address ∉ ps := by decide)
    (station : Part.station ∉ ps := by decide) (start : Part.start ∉ ps := by decide)
    (coup : Part.coup ∉ ps := by decide) (lines : Part.lines ∉ ps := by decide)
    (present : Part.present ∉ ps := by decide) (peers : Part.peers ∉ ps := by decide)
    (demand : Part.demand ∉ ps := by decide) : Winds d s t :=
  ⟨touches.wound role address station start coup lines present peers demand, fun _ => touches.dwells coup⟩

theorem Winds.helm {d : WinchDebt} {s t : State} (off : t.isCoup = false) : Winds d s t :=
  ⟨fun _ coup => (by rw [off] at coup; cases coup), fun coup => (by rw [off] at coup; cases coup)⟩

theorem Winds.trans {d : WinchDebt} {s t u : State} (h : Winds d s t) (k : Winds d t u) (held : Held t u) : Winds d s u :=
  ⟨fun w => k.1 (h.1 w), fun coup => (h.2 (isCoup_eq held.role ▸ coup)).trans (k.2 coup) held⟩

/-- A run that changes nothing that the winch rests on. -/
theorem Winds.of {d : WinchDebt} {s t : State} (same : Wound d s → Wound d t)
    (dwell : t.coup.dwellTimer = s.coup.dwellTimer := by rfl) : Winds d s t := ⟨same, fun _ => .same dwell⟩

theorem Runs.winds {s t : State} (run : Runs a s t) : Winds a.winch s t := by
  induction run with
  | trans _ run' h k => exact h.trans k run'.held
  | frame h => exact h.winds
  | report touches run signal =>
    have coup := touches.coup (by decide)
    refine .of (fun w => w.same (touches.role (by decide)) (touches.address (by decide)) (touches.station (by decide))
      (by rw [touches.start (by decide)]) (by rw [coup]) (by rw [coup]) (by rw [coup])
      (fun _ => by unfold State.line; rw [touches.lines (by decide)]) run signal (.inr (by rw [touches.peers (by decide)]))
      (.inr (.inr ⟨by rw [touches.demand (by decide)], by rw [touches.demand (by decide)]⟩)) (.inr (by rw [coup])))
      (by rw [coup])
  | line i on other => exact .of fun w => w.same (line := fun coup => Tab.get_set_ne _ _ (other coup).symm)
  | start u image => exact .of fun w => w.same (image := image)
  | table p h => exact .of fun w => w.same (entries := h.symm.imp_left fun e => e.1)
  | demand d view _ permit =>
    refine .of fun w => w.same (record := ?_)
    obtain same | owed | off := permit
    · exact .inr (.inr same)
    · exact .inl owed
    · exact .inr (.inl off)
  | yields v helm => exact .helm ((isCoup_eq ((yielded_touches _ v).role (by decide))).trans (isCoup_of_helm helm))
  | avail => exact (refreshAvailability_touches _).winds
  | refreshed _ h => exact h.trans (refreshStrain_touches _).winds (refreshStrain_touches _).held
  | inhibits => exact (inhibitDrive_touches _).winds
  | enters _ _ u _ _ h => exact h.trans (.of fun w => w.same) ⟨rfl, rfl, rfl, rfl⟩
  | periods => exact (startPeriod_touches _).winds
  | @stands a s x _ _ _ coup =>
    obtain off | owed := coup
    · exact .helm off
    · exact .of fun _ _ => ⟨fun n => absurd owed n, fun n => by rw [owed] at n; cases n⟩
  | coupStands => exact winds_of_winchInv (wound_settled (wound_of_still _ (fun n => nomatch n.1) rfl nofun)) (.inl rfl)
  | coup u same cls =>
    obtain ⟨winch, dwell, supervised⟩ := same
    exact .of (fun w => w.same (winch := winch) (dwell := dwell) (supervised := supervised) (cls := cls)) dwell
  | supervises u same _ owed =>
    exact .of (fun _ _ => ⟨fun n => absurd owed n, fun n => by rw [owed] at n; cases n⟩) same.2
  | @judged a s t run h =>
    refine ⟨fun w => ?_, fun coup => ?_⟩
    · cases debt : a.winch with
      | causes => exact fun _ => ⟨fun n => absurd rfl n, nofun⟩
      | _ =>
        refine wound_of_winchInv _ (judgeWinch_settles fun coup => ?_)
        rw [debt] at w
        have owing : a.owing.winch = .permit := by unfold Scope.owing; rw [debt]
        rw [owing] at h
        refine (h.1 (fun was => ⟨fun _ => (w was).1 nofun, nofun⟩) coup).1 nofun
    · have was : t.isCoup = true := isCoup_eq ((judgeWinch_touches t).role (by decide)) ▸ coup
      exact (h.2 was).trans (judgeWinch_dwells t) (judgeWinch_touches t).held
  | @caused a s t run h =>
    refine ⟨fun _ => wound_of_winchInv _ (winchCauses_settles t), fun coup => ?_⟩
    have was : t.isCoup = true := isCoup_eq ((winchCauses_touches t).role (by decide)) ▸ coup
    exact (h.2 was).trans (winchCauses_dwells t) (winchCauses_touches t).held
  | free run off => exact .helm ((isCoup_eq run.held.role).trans off)
  | heaves => exact dwellExpiry_winds _ _
  | hauls => exact hauledTaut_winds _ _
  | overruns => exact winchRun_winds _ _
  | settles => exact settleEnd_winds _ _
  | locks on => exact lockoutChange_winds _ _ on
  | frees => exact frees_winds _ _
  | withdraws b => exact leaveService_winds _ _ b
  | fails start => exact still_winds start nofun rfl rfl
  | @joins a s start =>
    exact still_winds start (by rw [enterJoining_station]; nofun) (enterJoining_held s).role
      ((joiningUnits_touches s).coup (by decide))
  | _ => exact .of fun w => w.same

/-! ## Every step -/

theorem damageImage_none (image : List Word) : damageImage image [] = image := rfl

theorem reset_winch (cause role address lines totals residue pending) :
    WinchInv (State.afterReset cause role address lines totals residue pending) :=
  wound_settled (wound_of_still _ (fun n => nomatch n.1) rfl nofun)

/-- A command that carries no damage (R191). -/
theorem exec_winch {c : Instr} {s t : State} (undamaged : ∀ dt damage, c = .configWatch dt damage → damage = [])
    (r : isReset c = false) (h : WinchInv s) (e : exec c s = .next t) :
    WinchInv t ∧ (t.isCoup = true → Dwells s t) := by
  obtain ⟨dt, image, u, e', run, kept⟩ := exec_runs (a := .whole) c s r nofun fun _ => rfl
  cases e.symm.trans e'
  have loaded : WinchInv (s.loaded dt image) := by
    have same (k : image = s.start.image) : WinchInv (s.loaded dt image) :=
      wound_settled ((wound_of_winchInv _ h).same (t := s.loaded dt image) (image := k))
    obtain k | start | ⟨dt, damage, rfl, k⟩ := kept
    · exact same k
    · exact wound_settled ((still_winds (t := s.loaded dt image) start (by rw [show (s.loaded dt image).station = _ from start]; nofun)
        rfl rfl).1 (wound_of_winchInv _ h))
    · cases undamaged dt damage rfl
      exact same (k.trans (damageImage_none _))
  obtain ⟨wound, dwells⟩ := run.winds
  exact ⟨wound_settled (wound (wound_of_winchInv _ loaded)), dwells⟩

/-- Settles O60: every command is a run of primitive operations that pays what it owes the winch. -/
theorem everyStepKeepsTheWinch : Obligations.EveryStepKeepsTheWinch := by
  intro s t h undamaged e
  have resets : ∀ (s : State) cause pins address lines, WinchInv (s.resetTo cause pins address lines) :=
    resetTo_meets reset_winch fun s start h =>
      wound_settled ((still_winds (t := s.enterFailed) start nofun rfl rfl).1 (wound_of_winchInv _ h))
  have stopped : ∀ (s : State) cause pins address lines,
      (s.resetTo cause pins address lines).coup.dwellTimer = none :=
    resetTo_meets (P := fun s => s.coup.dwellTimer = none) (fun _ _ _ _ _ _ _ => rfl) fun _ _ h => h
  unfold step at e
  split at e
  · cases e
    exact ⟨wound_settled ((wound_of_winchInv .settled h).same (t := s.idle)), fun _ => .inr (.inl rfl)⟩
  · rename_i c cs front
    cases r : isReset c with
    | false =>
      refine exec_winch (s := s.rest cs) (fun dt damage k => undamaged dt damage cs (k ▸ front)) r
        (wound_settled ((wound_of_winchInv .settled h).same (t := s.rest cs))) e
    | true =>
      cases c with
      | powerOnReset pins address lines =>
        cases e
        exact ⟨resets _ _ _ _ _, fun _ => .inl (stopped _ _ _ _ _)⟩
      | resetLineReset pins address lines =>
        cases e
        exact ⟨resets _ _ _ _ _, fun _ => .inl (stopped _ _ _ _ _)⟩
      | _ => nomatch r

end Sys2Proof.Machine
end

section
/-! SUPPORT. What every run of primitive operations keeps of the alert view and the account, and O59. -/

namespace Sys2Proof.Machine

-- As in Laws/Touches.lean: one theorem at a time.
set_option Elab.async false

variable {a : Scope}

/-! ## The alert view and the account (R126, R143) -/

/-- A run that keeps the view and the account, and lowers no total. -/
structure Audited (s t : State) : Prop where
  view : ViewInv s → ViewInv t
  account : AccountInv s → AccountInv t ∧ ∀ k, s.account.totals.get k ≤ t.account.totals.get k

theorem Audited.trans {s t u : State} (h : Audited s t) (k : Audited t u) : Audited s u := by
  refine ⟨fun v => k.view (h.view v), fun sums => ?_⟩
  obtain ⟨sums, rise⟩ := h.account sums
  obtain ⟨sums, rise'⟩ := k.account sums
  exact ⟨sums, fun i => (rise i).trans (rise' i)⟩

/-- Neither the items nor the records nor the totals change. -/
theorem Audited.same {s t : State} (items : t.view.items = s.view.items := by rfl)
    (records : t.account.records = s.account.records := by rfl)
    (totals : t.account.totals = s.account.totals := by rfl) : Audited s t := by
  refine ⟨fun h => ?_, fun h => ⟨fun k => ?_, fun k => le_of_eq (by rw [totals])⟩⟩
  · rw [viewInv_iff, items]; exact h
  · rw [records, totals]; exact h k

theorem OnlyTouches.audited {ps : List Part} {s t : State} (touches : OnlyTouches ps s t)
    (account : Part.account ∉ ps := by decide) (view : Part.view ∉ ps := by decide) : Audited s t :=
  .same (by rw [touches.view view]) (by rw [touches.account account]) (by rw [touches.account account])

theorem setHolderLow_audited (s : State) (h : Option (Tab 4 Bool)) : Audited s (s.setHolderLow h) :=
  Audited.trans (t := { s with account := { s.account with holderLow := h } }) .same (judgeTankLow_touches _).audited

theorem leaveHolding_audited (s : State) : Audited s s.leaveHolding := by
  have key : ViewItem.key ∘ (fun i : ViewItem => { i with requested := false }) = ViewItem.key := rfl
  refine Audited.trans (t := { s with
      helm := s.helm.released, demand := s.freshRecord s.demand.record.demand s.demand.record.number true,
      view := s.view.unrequest })
    ⟨fun h => ?_, fun h => ⟨h, fun _ => le_rfl⟩⟩ (clear_touches _ _).audited
  obtain ⟨few, once⟩ := (viewInv_iff s).mp h
  rw [viewInv_iff]
  dsimp only [ViewUnit.unrequest]
  rw [List.length_map, List.map_map, key]
  exact ⟨few, once⟩

theorem leaveService_audited (s : State) (b : Bool) : Audited s (s.leaveService b) := by
  rw [leaveService_eq]
  refine Audited.trans (t := s.unitsLeft b) .same (Audited.trans ?_ (applySafe_touches _).audited)
  unfold State.leaveCon
  dsimp only
  split
  · exact (leaveHolding_audited _).trans .same
  · exact .same

theorem Runs.audited {s t : State} (run : Runs a s t) : Audited s t := by
  induction run with
  | trans _ _ h k => exact h.trans k
  | frame h => exact h.audited
  | report h => exact h.audited
  | yields v => exact Audited.trans (t := State.withView _ v) .same ((setHolderLow_audited _ _).trans (leaveHolding_audited _))
  | avail => exact (refreshAvailability_touches _).audited
  | refreshed _ h => exact h.trans (refreshStrain_touches _).audited
  | books u h => exact ⟨id, h⟩
  | items u h => exact ⟨h, fun sums => ⟨sums, fun _ => le_rfl⟩⟩
  | inhibits => exact (inhibitDrive_touches _).audited
  | enters _ _ _ _ _ h => exact h.trans .same
  | periods => exact (startPeriod_touches _).audited
  | judged _ h => exact h.trans (judgeWinch_touches _).audited
  | caused _ h => exact h.trans (winchCauses_touches _).audited
  | free _ _ h => exact h
  | heaves => exact (dwellExpiry_touches _).audited
  | hauls => exact (hauledTaut_touches _).audited
  | overruns => exact (winchRun_touches _).audited
  | settles => exact (settleEnd_touches _).audited
  | locks on => exact (lockoutChange_touches _ on).audited
  | @frees a s => exact Audited.trans (t := s.without .winchRun) .same (unlockWinch_touches _).audited
  | withdraws b => exact leaveService_audited _ b
  | @joins a s => exact Audited.trans (t := s.startJoining) .same (joiningUnits_touches s).audited
  | _ => exact .same

/-! ## Resets -/

theorem reset_conned (cause role address lines totals residue pending) :
    Conned (State.afterReset cause role address lines totals residue pending) := by
  have range : DemandUnit.reset.record.demand.InRange ∧ HelmUnit.reset.live.InRange ∧ HelmUnit.reset.current.InRange := by
    unfold Demand.InRange
    decide
  exact ⟨nofun, nofun, range⟩

theorem reset_account (cause role address lines totals residue pending) :
    AccountInv (State.afterReset cause role address lines totals residue pending) := by
  have sums : ∀ k : Fin 4, AccountUnit.reset.totals.get k = convoyTotal AccountUnit.reset.records k := by decide
  exact sums

theorem reset_view (cause role address lines totals residue pending) :
    ViewInv (State.afterReset cause role address lines totals residue pending) :=
  ⟨Nat.zero_le 48, List.nodup_nil⟩

/-- Settles O59: every command is a run of primitive operations, and each of these keeps what a HELM station keeps. -/
theorem everyStepKeepsTheHelm : Obligations.EveryStepKeepsTheHelm := by
  refine ⟨fun s t con awake range e => ?_, fun s t view e => ?_, fun s t sums e => ?_, fun c s t sums r e => ?_⟩
  · exact step_run_keeps (P := Conned) (fun _ _ h => h) (fun _ h => h) (fun _ _ _ h => h) reset_conned
      (fun _ _ run => run.conned) ⟨con, awake, range⟩ e
  · exact step_run_keeps (P := ViewInv) (fun _ _ h => h) (fun _ h => h) (fun _ _ _ h => h) reset_view
      (fun _ _ run => run.audited.view) view e
  · exact step_run_keeps (P := AccountInv) (fun _ _ h => h) (fun _ h => h) (fun _ _ _ h => h) reset_account
      (fun _ _ run h => (run.audited.account h).1) sums e
  · obtain ⟨dt, image, u, e', run, -⟩ := exec_runs (a := .whole) c s r nofun fun _ => rfl
    cases e.symm.trans e'
    exact (run.audited.account (show AccountInv (s.loaded dt image) from sums)).2

end Sys2Proof.Machine
end

section
/-! SUPPORT. What reports leave of the conditions, and tables read after a change. -/

namespace Sys2Proof.Machine

-- As in Laws/Touches.lean: one theorem at a time.
set_option Elab.async false

/-! ## Conditions after a report (R132, R134, R167) -/

theorem raise_has_self (s : State) (c : AlertCode) : (s.raise c).has c = true := (raise_raises s c).2.1

theorem raise_has_ne (s : State) {c d : AlertCode} (h : d ≠ c) (n : d ≠ .txLoss) : (s.raise c).has d = s.has d :=
  (raise_raises s c).2.2.1 d h (.inl n)

theorem Raised.has_self {s t : State} {c : AlertCode} (h : Raised c s t) : t.has c = true := by
  unfold Raised at h
  split at h
  · rw [h]; assumption
  · exact h.2.1

theorem Raised.has_ne {s t : State} {c d : AlertCode} (h : Raised c s t) (ne : d ≠ c) (n : d ≠ .txLoss) :
    t.has d = s.has d := by
  unfold Raised at h
  split at h
  · rw [h]
  · exact h.2.2.1 d ne (.inl n)

theorem Ended.has_self {s t : State} {c : AlertCode} (h : Ended c s t) (n : c ≠ .txLoss) : t.has c = false := by
  unfold Ended at h
  split at h
  · exact h.2.1 (.inl n)
  · rw [h]
    exact Bool.eq_false_iff.mpr ‹_›

theorem Ended.has_ne {s t : State} {c d : AlertCode} (h : Ended c s t) (ne : d ≠ c) (n : d ≠ .txLoss) :
    t.has d = s.has d := by
  unfold Ended at h
  split at h
  · exact h.2.2.1 d ne (.inl n)
  · rw [h]

theorem raiseNew_has_self (s : State) (c : AlertCode) : (s.raiseNew c).has c = true := (raiseNew_raised s c).has_self

theorem raiseNew_has_ne (s : State) {c d : AlertCode} (h : d ≠ c) (n : d ≠ .txLoss) :
    (s.raiseNew c).has d = s.has d := (raiseNew_raised s c).has_ne h n

theorem clear_has_self (s : State) {c : AlertCode} (n : c ≠ .txLoss) : (s.clear c).has c = false :=
  (clear_ended s c).has_self n

theorem clear_has_ne (s : State) {c d : AlertCode} (h : d ≠ c) (n : d ≠ .txLoss) : (s.clear c).has d = s.has d :=
  (clear_ended s c).has_ne h n

theorem follow_has_self (s : State) {c : AlertCode} (b : Bool) (n : c ≠ .txLoss) : (s.follow c b).has c = b := by
  cases b
  · exact clear_has_self s n
  · exact raiseNew_has_self s c

theorem follow_has_ne (s : State) {c d : AlertCode} (b : Bool) (h : d ≠ c) (n : d ≠ .txLoss) :
    (s.follow c b).has d = s.has d := by
  cases b
  · exact clear_has_ne s h n
  · exact raiseNew_has_ne s h n

/-! ## Tables -/

theorem Tab.set_self {n : Nat} {α : Type} (t : Tab n α) (i : Fin n) : t.set i (t.get i) = t := by
  obtain ⟨cells, size⟩ := t
  simp only [Tab.set, Tab.get, Tab.mk.injEq]
  exact List.set_getElem_self _

end Sys2Proof.Machine
end

section
/-! SUPPORT. The step, the resets and the square root (O1, O3, O4, O41). -/

namespace Sys2Proof.Machine

-- As in Laws/Touches.lean: one theorem at a time.
set_option Elab.async false

/-! ## The step -/

theorem step_cons {s : State} {c : Instr} {cs : List Instr} (h : s.pending = c :: cs) : step s = exec c (s.rest cs) := by
  unfold step
  rw [h]

theorem step_nil {s : State} (h : s.pending = []) : step s = .next s.idle := by
  unfold step
  rw [h]

/-- Settles O1. -/
theorem stepRunsTheFrontCommand : Obligations.StepRunsTheFrontCommand :=
  ⟨fun _ _ _ => step_cons, fun s h => ⟨_, step_nil h, rfl, advance_touches s 1⟩⟩

/-! ## Resets (R187) -/

theorem roleOfCode_pins {pins : BitVec 2} : roleOfCode pins.toNat = none ↔ pins = 0 := by
  revert pins; decide

/-- The end of a reset: FAILED where the pins name no role (R187). -/
theorem resetTo_eq (s : State) (cause : ResetCause) (pins : BitVec 2) (addr : Addr) (lines : BitVec 16) :
    let u := State.afterReset cause (roleOfPins pins) addr (linesOfBits lines)
      (if cause = .powerOn then Tab.all 4 0 else s.meter.totals) (if cause = .powerOn then 0 else s.meter.residue)
      s.pending
    pins = 0 ∧ s.resetTo cause pins addr lines = u.enterFailed ∨ pins ≠ 0 ∧ s.resetTo cause pins addr lines = u := by
  by_cases none : pins = 0
  · subst none
    exact .inl ⟨rfl, by cases cause <;> rfl⟩
  · obtain ⟨r, e⟩ := Option.ne_none_iff_exists'.mp (fun n => none (roleOfCode_pins.mp n))
    refine .inr ⟨none, ?_⟩
    unfold State.resetTo State.judgeStrapping
    dsimp only
    rw [show roleOfPins pins = some r from e]
    cases cause <;> rfl

theorem Tab.get_all {α : Type} {n : Nat} (x : α) (i : Fin n) : (Tab.all n x).get i = x := by
  simp [Tab.get, Tab.all]

theorem mapFrom_get {α β : Type} (f : Nat → α → β) : ∀ (l : List α) (k i : Nat) (h : i < (mapFrom f k l).length)
    (h' : i < l.length), (mapFrom f k l)[i] = f (k + i) l[i]
  | _ :: _, _, 0, _, _ => rfl
  | _ :: l, k, i + 1, h, h' => by
    have tail := mapFrom_get f l (k + 1) i (Nat.lt_of_succ_lt_succ h) (Nat.lt_of_succ_lt_succ h')
    rw [Nat.add_right_comm] at tail
    exact tail

theorem Tab.get_mapIdx {n : Nat} {α β : Type} (f : Nat → α → β) (t : Tab n α) (i : Fin n) :
    (t.mapIdx f).get i = f i.val (t.get i) := by
  have fits : i.val < t.cells.length := by rw [t.size]; exact i.isLt
  refine (mapFrom_get f t.cells 0 i.val (by rw [mapFrom_length]; exact fits) fits).trans ?_
  rw [Nat.zero_add]
  rfl

theorem linesOfBits_get (v : BitVec 16) (i : Fin 16) : (linesOfBits v).get i = v.getLsbD i.val := Tab.get_mapIdx _ _ i

theorem reset_closed (i : Fin 3) : (OutputUnit.reset.outs.get i).Closed := by
  revert i
  unfold Pwm.Closed
  decide

theorem reset_bank (i : Fin 3) : (OutputUnit.reset.outs.get i).inControl = .a := by
  revert i
  decide

/-- Settles O3: the one reset under its two causes, and FAILED where the pins name no role. -/
theorem resetsStartTheStation : Obligations.ResetsStartTheStation := by
  intro s pins addr lines c cause h
  have run : exec c s = .next (s.resetTo cause pins addr lines) := by
    obtain ⟨rfl, rfl⟩ | ⟨rfl, rfl⟩ := h <;> rfl
  refine ⟨_, run, ?_⟩
  obtain ⟨none, e⟩ | ⟨none, e⟩ := resetTo_eq s cause pins addr lines <;> rw [e]
  all_goals
    refine ⟨rfl, rfl, rfl, rfl, ?_, linesOfBits_get lines, ?_,
      fun d => Tab.get_all _ (alertIndex d), rfl, rfl, rfl, rfl, rfl, rfl, rfl, rfl, rfl, fun a => ⟨Tab.get_all _ a, Tab.get_all _ a⟩, rfl, rfl, rfl, rfl,
      rfl, rfl, fun a => Tab.get_all _ a, rfl, rfl, rfl, rfl, rfl, rfl, rfl, rfl, rfl, rfl, rfl, rfl, rfl, rfl, rfl, rfl,
      rfl, rfl, rfl, rfl, rfl, rfl, rfl, rfl, rfl, rfl, rfl, rfl, rfl, rfl, rfl, rfl, rfl,
      fun a => Tab.get_all _ a, fun k => ⟨Tab.get_all _ k, Tab.get_all _ k, Tab.get_all _ k⟩, rfl, rfl, rfl,
      fun a => Tab.get_all _ a, rfl, rfl, rfl, rfl, rfl, fun i => ⟨Tab.get_all _ i, Tab.get_all _ i⟩,
      fun i => ⟨congrArg Channel.stamp (Tab.get_all _ i), congrArg Channel.previous (Tab.get_all _ i),
        congrArg Channel.count (Tab.get_all _ i), congrArg Channel.noise (Tab.get_all _ i)⟩, ?_, rfl⟩
  · rw [if_pos none]; rfl
  · rw [if_pos none]; rfl
  · exact fun i => ⟨applySafe_closed _ i, (congrArg Pwm.inControl (Tab.get_map _ _ i)).trans (reset_bank i)⟩
  · rw [if_neg none]; rfl
  · rw [if_neg none]; rfl
  · exact fun i => ⟨reset_closed i, reset_bank i⟩

theorem reset_queue (cause role address lines totals residue pending) :
    QueueInv (State.afterReset cause role address lines totals residue pending) ∧
      SilentInv (State.afterReset cause role address lines totals residue pending) :=
  ⟨⟨Nat.zero_le 8, fun _ _ => Nat.zero_le 1⟩, fun _ => ⟨rfl, rfl⟩⟩

/-- Settles O4: what the reset leaves meets each invariant, whatever it straps. -/
theorem stateResetMeetsTheInvariants : Obligations.StateResetMeetsTheInvariants := by
  obtain ⟨alert, trip⟩ : Listed State.reset := reset_listed (a := 0) rfl
  obtain ⟨queue, silent⟩ := reset_queue .powerOn (some .propulsion) 0 (Tab.all 16 false) (Tab.all 4 0) 0 []
  obtain ⟨safe, valve⟩ : Gated State.reset := reset_gated _ _ _ _ _ _ _
  obtain ⟨con, awake, range⟩ : Conned State.reset := reset_conned _ _ _ _ _ _ _
  refine ⟨fun s idle => ?_, alert, trip, queue, silent, safe, valve, reset_thrust _ _ _ _ _ _ _, fun _ => rfl,
    fun _ => nofun, reset_trim _ _ _ _ _ _ _, con, awake, range, reset_view _ _ _ _ _ _ _, reset_account _ _ _ _ _ _ _,
    reset_winch _ _ _ _ _ _ _⟩
  obtain ⟨none, -⟩ | ⟨-, e⟩ := resetTo_eq s .powerOn 2 0 0
  · exact absurd none (by decide)
  · refine congrArg Host.Outcome.next (e.trans ?_)
    rw [idle]
    have off : linesOfBits 0 = Tab.all 16 false := by decide
    rw [off]
    rfl

/-! ## The square root (R48) -/

/-- Each digit keeps the root between its digits so far and the next place. -/
theorem isqrtBits_spec (n : Nat) : ∀ (b acc : Nat), acc * acc ≤ n → n < (acc + 2 ^ b) * (acc + 2 ^ b) →
    isqrtBits b n acc * isqrtBits b n acc ≤ n ∧ n < (isqrtBits b n acc + 1) * (isqrtBits b n acc + 1)
  | 0, _, low, high => ⟨low, high⟩
  | b + 1, acc, low, high => by
    unfold isqrtBits
    split
    · rename_i fits
      refine isqrtBits_spec n b _ fits (lt_of_lt_of_eq high ?_)
      rw [Nat.add_assoc, ← Nat.two_mul, ← Nat.pow_succ']
    · rename_i short
      exact isqrtBits_spec n b acc low (Nat.lt_of_not_le short)

theorem isqrt_spec (n : Nat) : isqrt n * isqrt n ≤ n ∧ n < (isqrt n + 1) * (isqrt n + 1) := by
  refine isqrtBits_spec n _ 0 (Nat.zero_le n) ?_
  rw [Nat.zero_add, ← Nat.pow_add]
  exact Nat.lt_log2_self.trans_le (Nat.pow_le_pow_right (by decide) (by omega))

theorem isqrt_le {n m : Nat} (h : n ≤ m * m) : isqrt n ≤ m :=
  Nat.mul_self_le_mul_self_iff.mp ((isqrt_spec n).1.trans h)

/-- A thrust within the rating asks for no more than the whole duty. -/
theorem dutyOf_engaged {g : GearState} {x : Int} {rated : Nat} (gear : g = .ahead ∨ g = .astern) (moves : x ≠ 0)
    (within : x.natAbs ≤ rated) : dutyOf g x rated = isqrt (x.natAbs * 1000000 / rated) := by
  have on : (engaged g && x != 0) = true := by
    rw [Bool.and_eq_true, bne_iff_ne]
    exact ⟨by obtain rfl | rfl := gear <;> rfl, moves⟩
  have whole : isqrt (x.natAbs * 1000000 / rated) ≤ 1000 := by
    refine isqrt_le (Nat.div_le_of_le_mul ?_)
    exact Nat.mul_le_mul_right _ within
  unfold dutyOf
  rw [if_pos on, min_eq_right whole]

theorem dutyOf_idle {g : GearState} {x : Int} {rated : Nat} (h : g ≠ .ahead ∧ g ≠ .astern ∨ x = 0) :
    dutyOf g x rated = 0 := by
  obtain ⟨ahead, astern⟩ | rfl := h
  · unfold dutyOf
    have off : engaged g = false := by
      cases g <;> first | rfl | contradiction
    rw [off]
    rfl
  · exact dutyOf_zero g rated

/-- The expected speed does not fall below 0: it lies between the two speeds that the duty mixes. -/
theorem expectedSpeed_eq (idle maxi : Nat) {duty : Nat} (h : duty ≤ 1000) :
    (expectedSpeed idle maxi duty : Int) = (idle : Int) + Int.tdiv (((maxi : Int) - idle) * duty) 1000 := by
  unfold expectedSpeed
  refine Int.toNat_of_nonneg ?_
  have bound : -((idle : Int) * 1000) ≤ ((maxi : Int) - idle) * duty := by
    have up : (0 : Int) ≤ maxi * duty := by positivity
    have down : (idle : Int) * duty ≤ idle * 1000 := by gcongr; exact_mod_cast h
    rw [sub_mul]
    omega
  have := Int.tdiv_le_tdiv (c := 1000) (by decide) bound
  rw [Int.neg_tdiv, Int.mul_tdiv_cancel _ (by decide)] at this
  omega

/-- Settles O41. -/
theorem dutyFollowsTheSquareRoot : Obligations.DutyFollowsTheSquareRoot :=
  ⟨isqrt_spec, fun g x rated => ⟨fun gear moves _ within => dutyOf_engaged gear moves within, dutyOf_idle, dutyOf_le g x rated⟩,
    fun s duty h => expectedSpeed_eq _ _ h, by decide, by decide, by decide, by decide, by decide, by decide, by decide⟩

end Sys2Proof.Machine
end

section
/-! SUPPORT. Timers and series: the report intervals, the timed conditions, the demand timers, the tank fills and the
gear timers (O31, O33, O34, O37, O46). -/

namespace Sys2Proof.Machine

-- As in Laws/Touches.lean: one theorem at a time.
set_option Elab.async false

/-! ## Commands under a test -/

/-- A command whose test holds. -/
theorem exec_pos {c : Instr} {s u : State} {b : Bool} {f : State → State} (e : exec c s = .next (u.whenever b f))
    (h : b = true) : exec c s = .next (f u) := by rw [e, whenever_pos h]

/-- The same with the outcome named. -/
theorem exec_eq {c : Instr} {s u t : State} {b : Bool} {f : State → State} (e : exec c s = .next (u.whenever b f))
    (h : b = true) (r : f u = t) : exec c s = .next t := by rw [e, whenever_pos h, r]

/-- A command whose test fails. -/
theorem exec_neg {c : Instr} {s u : State} {b : Bool} {f : State → State} (e : exec c s = .next (u.whenever b f))
    (h : b = false) : exec c s = .next u := by rw [e, whenever_neg h]

theorem aged_of_some {since : Option Clock} {c now : Clock} {limit : Micros} (h : since = some c)
    (le : limit ≤ elapsed now c) : aged since now limit = true := by
  subst h
  exact decide_eq_true le

theorem isProp_advance (s : State) (dt : Micros) : (s.advance dt).isProp = s.isProp := rfl
theorem isHelm_advance (s : State) (dt : Micros) : (s.advance dt).isHelm = s.isHelm := rfl
theorem isCoup_advance (s : State) (dt : Micros) : (s.advance dt).isCoup = s.isCoup := rfl

theorem OnlyTouches.comms_same {ps : List Part} {s t : State} (h : OnlyTouches ps s t) (present : Part.present ∉ ps)
    (alerts : Part.alerts ∉ ps) (link : Part.link ∉ ps) : t.comms = s.comms := by
  have p := h.present present
  have a := h.alerts alerts
  have l := h.link link
  cases ht : t.comms
  cases hs : s.comms
  rw [ht, hs] at p a l
  cases p; cases a; cases l
  rfl

/-! ## Report intervals (R27, R104, R121, R129, R140, R166) -/

theorem strainClass_eq (s : State) : s.strainClass = if s.coup.onset = none then 2 else 0 := by
  unfold State.strainClass
  cases s.coup.onset <;> rfl

/-- Settles O31: each expiry offers its frame to a queue with a free place. -/
theorem intervalsQueueTheirReports : Obligations.IntervalsQueueTheirReports := by
  refine ⟨fun s dt helm act holds timer free => ?_, fun s dt prop act timer free => ?_,
    fun s dt coup act timer free => ?_, fun s dt prop act timer free => ?_, fun s dt helm act timer free => ?_,
    fun s dt act timer free => ?_⟩
  · refine ⟨_, exec_pos rfl (by simp [isHelm_advance, helm, holds, timer]), ?_⟩
    exact offer_queued (s := { s.advance dt with helm := _ }) _ _ act free
  · refine ⟨_, exec_pos rfl (by simp [isProp_advance, prop, act, timer]), ?_⟩
    exact offer_queued (s := { s.advance dt with thrust := _ }) _ _ (acting_of_active (beq_iff_eq.mpr act)) free
  · refine ⟨_, exec_pos rfl (by simp [isCoup_advance, coup, act, timer]), ?_⟩
    rw [← strainClass_eq]
    exact offer_queued (s := { s.advance dt with coup := _ }) _ _ (acting_of_active (beq_iff_eq.mpr act)) free
  · refine ⟨_, exec_pos rfl (by simp [isProp_advance, prop, act, timer]), ?_⟩
    exact offer_queued (s := { s.advance dt with meter := _ }) _ _ (acting_of_active (beq_iff_eq.mpr act)) free
  · refine ⟨_, exec_pos rfl (by simp [isHelm_advance, helm, act, timer]), ?_⟩
    exact offer_queued (s := { s.advance dt with account := _ }) _ _ (acting_of_active (beq_iff_eq.mpr act)) free
  · refine ⟨_, exec_pos rfl (by simp [act, timer]), ?_⟩
    exact offer_queued (s := { s.advance dt with comms := _ }) _ _ act free

/-! ## Timed conditions (R34, R84, R90, R120, R126, R167, R185) -/

theorem judgeFlow_follows {s : State} (prop : s.isProp = true) (act : s.station.acting = true) :
    s.judgeFlow = s.follow .flowSignal (s.meter.noSupply || (s.caps.get 1).noise || (s.caps.get 2).noise) :=
  whenever_pos (Bool.and_eq_true_iff.mpr ⟨prop, act⟩)

/-- The end of the flow watch is one of the terms of FLOW_SIGNAL (R120). -/
theorem judgeFlow_raised {s : State} (prop : s.isProp = true) (act : s.station.acting = true)
    (dry : s.meter.noSupply = true) : Raised .flowSignal s s.judgeFlow := by
  rw [judgeFlow_follows prop act, dry]
  exact follow_follows s .flowSignal true

/-- Settles O33. -/
theorem timedConditions : Obligations.TimedConditions := by
  refine ⟨fun s dt since reports loss old => ?_, fun s dt since reports loss old => ?_,
    fun s dt since helm reports disc old => ?_, fun s dt a since helm holds lag old => ?_,
    fun s dt since prop up act dev old => ?_, fun s dt prop up act timer => ?_, fun s dt prop act timer => ?_⟩
  · refine ⟨_, exec_pos rfl ?_, clear_ended _ _⟩
    rw [Bool.and_eq_true]
    exact ⟨reports, aged_of_some loss old⟩
  · refine ⟨_, exec_pos rfl ?_, clear_ended _ _⟩
    rw [Bool.and_eq_true]
    exact ⟨reports, aged_of_some loss old⟩
  · refine ⟨_, exec_pos rfl ?_, clear_ended _ _⟩
    rw [Bool.and_eq_true, Bool.and_eq_true]
    exact ⟨⟨helm, reports⟩, aged_of_some disc old⟩
  · refine ⟨_, exec_pos rfl ?_, raiseNew_raised _ _⟩
    rw [Bool.and_eq_true, Bool.and_eq_true]
    exact ⟨⟨helm, beq_iff_eq.mpr holds⟩, List.any_eq_true.mpr ⟨_, Tab.get_mem s.helm.lag a, aged_of_some lag old⟩⟩
  · refine ⟨_, exec_pos rfl ?_, raiseNew_raised _ _⟩
    simp only [Bool.and_eq_true]
    exact ⟨⟨⟨prop, up⟩, act⟩, aged_of_some dev old⟩
  · refine ⟨_, exec_pos rfl (by simp [isProp_advance, prop, up, act, timer]), raiseNew_raised _ _⟩
  · refine ⟨_, exec_pos rfl (by simp [isProp_advance, prop, act, timer]), ?_⟩
    exact judgeFlow_raised (s := { s.advance dt with meter := _ }) prop act rfl

/-! ## The demand timers (R21, R23) -/

theorem judgeWinch_other {s : State} (h : s.isCoup = false) : s.judgeWinch = s :=
  whenever_neg (by rw [h]; rfl)

theorem judgeWinch_idle {s : State} (h : s.station ≠ .active) : s.judgeWinch = s :=
  whenever_neg (by simp [h])

/-- A heave that a false permit ends (R108). -/
theorem judgeWinch_ends {s : State} (coup : s.isCoup = true) (act : s.station = .active)
    (up : s.coup.supervised = true) (heave : s.coup.winch = .heaving) (permit : s.permit = false) :
    s.judgeWinch = { s with coup := s.coup.rest .idle } := by
  have still : s.dwellHolds = false := by unfold State.dwellHolds; rw [permit, Bool.and_false, Bool.false_and]
  have stepped : s.judgeWinch = s.winchStep := whenever_pos (by simp [coup, act, up])
  rw [stepped]
  unfold State.winchStep
  simp only [heave, permit, still, decide_true, Bool.not_false, Bool.true_or, Bool.and_self, Bool.and_false, if_true,
    Bool.false_eq_true, if_false]
  rfl

theorem heldRecord_eq (s : State) :
    s.heldRecord = { s.demand with
      record := { s.demand.record with state := if s.param Param.holdTime = 0 then .decaying else .held },
      timeout := none,
      hold := if s.param Param.holdTime = 0 then none else startTimer s.clock (sec (s.param Param.holdTime)) } := by
  unfold State.heldRecord
  dsimp only
  split <;> rfl

theorem decaying_permit {s : State} (h : s.demand.record.state = .decaying) : s.permit = false := by
  unfold State.permit
  rw [h]
  rfl

/-- DEMAND_LOST at the timeout, where it is reported (R23). -/
theorem lost_has {s : State} (reports : s.station.reporting = true) :
    (s.whenever s.station.reporting (fun s => s.raiseNew .demandLost)).has .demandLost = true := by
  rw [whenever_pos reports]
  have raised := raiseNew_raised s .demandLost
  unfold Raised at raised
  split at raised
  · rw [raised]; assumption
  · exact raised.2.1

/-- Settles O34. -/
theorem demandTimersAgeTheRecord : Obligations.DemandTimersAgeTheRecord := by
  refine ⟨fun s dt timing fresh timer => ?_, fun s dt timing held timer => ?_⟩
  · intro hold u
    have aged : (s.advance dt).heldRecord = u.demand := heldRecord_eq (s.advance dt)
    have run : exec (.demandTimeoutExpiry dt) s =
        .next (u.whenever u.station.reporting (fun s => s.raiseNew .demandLost)).judgeWinch := by
      rw [show u = { s.advance dt with demand := (s.advance dt).heldRecord } by rw [aged]]
      exact exec_eq rfl (by simp [timing, fresh, timer]) rfl
    have reported : OnlyTouches commsParts u (u.whenever u.station.reporting (fun s => s.raiseNew .demandLost)) :=
      whenever_touches _ _ (raiseNew_touches _ _)
    have judged := judgeWinch_touches (u.whenever u.station.reporting (fun s => s.raiseNew .demandLost))
    have begun : OnlyTouches [.clock, .demand] s u := .of fun p => by
      cases p <;> first | exact .inl (by decide) | exact .inr rfl
    refine ⟨_, run, (judged.clock (by decide)).trans (reported.clock (by decide)),
      (judged.demand (by decide)).trans (reported.demand (by decide)), fun other reports => ?_, fun reports => ?_,
      fun other joining => ?_, fun joining => ?_, begun.mono.trans (reported.mono.trans judged.mono)⟩
    · rw [judgeWinch_other (by rw [isCoup_eq (reported.role (by decide))]; exact other),
        whenever_pos (show u.station.reporting = true from reports)]
      exact raiseNew_raised u .demandLost
    · rw [judged.has (by decide)]
      exact lost_has (s := u) reports
    · have quiet : u.station.reporting = false := by rw [show u.station = _ from joining]; rfl
      rw [whenever_neg quiet]
      exact judgeWinch_other other
    · have quiet : u.station.reporting = false := by rw [show u.station = _ from joining]; rfl
      rw [whenever_neg quiet, judgeWinch_idle (s := u) (by rw [show u.station = _ from joining]; nofun)]
      exact begun
  · intro u
    have run : exec (.holdTimeExpiry dt) s = .next u.judgeWinch :=
      exec_eq rfl (by simp [timing, held, timer]) rfl
    have judged := judgeWinch_touches u
    have begun : OnlyTouches [.clock, .demand] s u := .of fun p => by
      cases p <;> first | exact .inl (by decide) | exact .inr rfl
    refine ⟨_, run, judged.clock (by decide), judged.demand (by decide), fun other => judgeWinch_other other,
      fun coup up act heave => ?_, begun.mono.trans judged.mono⟩
    exact judgeWinch_ends (s := u) coup act up heave (decaying_permit rfl)

/-! ## Tank fills (R127, R128) -/

theorem exec_tankFilledInput (dt : Micros) (k : Fin 4) (on : Bool) (s : State) (helm : s.isHelm = true) :
    exec (.tankFilledInput dt k on) s = .next ((s.advance dt).fillChange k on) := exec_eq rfl helm rfl

/-- Some flag of a tank is set, the own or the holder's (R128). -/
theorem anyLow_iff (a : AccountUnit) : a.anyLow = true ↔
    (∃ k, a.low.get k = true) ∨ ∃ flags k, a.holderLow = some flags ∧ flags.get k = true := by
  have some_cell : ∀ t : Tab 4 Bool, t.cells.any id = true ↔ ∃ k, t.get k = true := by
    intro t
    rw [List.any_eq_true]
    constructor
    · rintro ⟨x, mem, on⟩
      obtain ⟨i, rfl⟩ := List.get_of_mem mem
      exact ⟨⟨i.val, i.isLt.trans_eq t.size⟩, on⟩
    · rintro ⟨k, on⟩
      exact ⟨_, Tab.get_mem t k, on⟩
  unfold AccountUnit.anyLow
  rw [Bool.or_eq_true, some_cell]
  refine or_congr Iff.rfl ?_
  cases a.holderLow with
  | none => exact ⟨nofun, fun ⟨_, _, e, _⟩ => nomatch e⟩
  | some h =>
    refine (some_cell h).trans ⟨fun ⟨k, on⟩ => ⟨h, k, rfl, on⟩, ?_⟩
    rintro ⟨_, k, ⟨⟩, on⟩
    exact ⟨k, on⟩

/-- Just filled, a tank is low only where its allowance stands no higher than its reserve (R128). -/
theorem tankLow_filled (allowance reserve total : Nat) :
    tankLow allowance reserve total total = decide (allowance ≠ 0 ∧ allowance ≤ reserve) := by
  unfold tankLow
  rw [Bool.eq_iff_iff, Bool.and_eq_true, bne_iff_ne, decide_eq_true_eq, decide_eq_true_eq]
  refine and_congr_right fun _ => ?_
  omega

theorem judgeTankLow_follows {s : State} (helm : s.isHelm = true) (reports : s.station.helmReporting = true) :
    Follows .tankLow s.account.anyLow s s.judgeTankLow := by
  rw [show s.judgeTankLow = s.follow .tankLow s.account.anyLow from
    whenever_pos (Bool.and_eq_true_iff.mpr ⟨helm, reports⟩)]
  exact follow_follows _ _ _

/-- Settles O37. -/
theorem tankFillsSetTheBaseline : Obligations.TankFillsSetTheBaseline := by
  intro s dt tank on helm i fills allowance account anyLow u
  have run := exec_tankFilledInput dt tank on s helm
  have test : (!s.line i && on && s.station == .active) = true ↔ fills := by
    simp only [Bool.and_eq_true, Bool.not_eq_true', beq_iff_eq, and_assoc, fills]
  have filled : fills → (s.advance dt).fillChange tank on = State.judgeTankLow { u with account := account } := by
    intro h
    have taken : (s.advance dt).fillChange tank on = ((s.advance dt).setLine i on).recordFill tank :=
      whenever_pos (s := (s.advance dt).setLine i on) (f := fun s => s.recordFill tank) (test.mpr h)
    rw [taken]
    unfold State.recordFill
    have low : (s.advance dt).lowNow { s.account with baselines := s.account.baselines.set tank (s.account.totals.get tank) } tank =
        decide (allowance ≠ 0 ∧ allowance ≤ s.param (Param.tankReserve tank)) := by
      refine Eq.trans ?_ (tankLow_filled _ _ (s.account.totals.get tank))
      unfold State.lowNow
      dsimp only
      rw [Tab.get_set_self]
      rfl
    dsimp only [account]
    rw [← low]
    rfl
  have follows : fills → Follows .tankLow account.anyLow { u with account := account }
      (State.judgeTankLow { u with account := account }) := fun h =>
    judgeTankLow_follows (s := { u with account := account }) helm (by
      show s.station.helmReporting = true
      rw [h.2.2]
      rfl)
  refine ⟨_, run, fun h any => ?_, fun h none => ?_, fun h => ?_⟩
  · rw [filled h]
    have := follows h
    rw [show account.anyLow = true from (anyLow_iff _).mpr any] at this
    exact this
  · rw [filled h]
    have := follows h
    rw [show account.anyLow = false from Bool.eq_false_iff.mpr fun any => none ((anyLow_iff _).mp any)] at this
    exact this
  · exact whenever_neg (s := (s.advance dt).setLine i on) (f := fun s => s.recordFill tank)
      (Bool.eq_false_iff.mpr fun t => h (test.mp t))

/-! ## The drive of a PROPULSION station -/

/-- Availability found again (R50, R51). -/
theorem refreshAvailability_eq {s : State} (prop : s.isProp = true) (taking : s.station.taking = true) :
    s.refreshAvailability =
      State.setX { s with thrust := { s.thrust with
          factor := s.factorNow, ahead := s.param Param.ratedThrust * s.factorNow / 1000,
          astern := s.param Param.ratedThrust * s.factorNow / 1000 * s.param Param.asternRatio / 1000 } }
        (withinAvailability s.thrust.x (s.param Param.ratedThrust * s.factorNow / 1000)
          (s.param Param.ratedThrust * s.factorNow / 1000 * s.param Param.asternRatio / 1000)) :=
  if_pos (Bool.and_eq_true_iff.mpr ⟨prop, taking⟩)

/-- The thrust unit without availability (R50, R51). -/
structure Powerless (u : ThrustUnit) : Prop where
  factor : u.factor = 0
  ahead : u.ahead = 0
  astern : u.astern = 0
  x : u.x = 0
  duty : u.duty = 0

theorem withinAvailability_none (x : Int) : withinAvailability x 0 0 = 0 := by
  unfold withinAvailability
  split
  · rfl
  · split <;> omega

/-- With the factor at 0 nothing is available. -/
theorem refreshAvailability_powerless {s : State} (prop : s.isProp = true) (taking : s.station.taking = true)
    (idle : s.thrust.x = 0 → s.thrust.duty = 0) (none : s.factorNow = 0) :
    Powerless s.refreshAvailability.thrust := by
  rw [refreshAvailability_eq prop taking, none]
  simp only [Nat.mul_zero, Nat.zero_div, Nat.zero_mul]
  refine ⟨rfl, rfl, rfl, withinAvailability_none _, ?_⟩
  rw [withinAvailability_none]
  refine (setDrive_duty _ _ _).trans ?_
  split
  · rename_i still
    exact idle still.1.symm
  · exact dutyOf_zero _ _

theorem factorNow_fault {s : State} (h : s.gear.state = .gearFault) : s.factorNow = 0 := by
  unfold State.factorNow
  rw [h]
  rfl

theorem enterGear_gear (s : State) (g : GearState) :
    (s.enterGear g).gear = { s.gear.entry s.clock (ms (s.param Param.neutralDwell)) g with state := g } :=
  setGear_gear _ g

/-- The entry to GEAR_FAULT takes the availability away. -/
theorem enterGear_fault {s : State} (prop : s.isProp = true) (taking : s.station.taking = true)
    (gear : s.gear.state ≠ .gearFault) : Powerless (s.enterGear .gearFault).thrust := by
  unfold State.enterGear State.setGear
  have moved : ((s.gear.entry s.clock (ms (s.param Param.neutralDwell)) .gearFault).state == .gearFault) = false :=
    beq_eq_false_iff_ne.mpr gear
  dsimp only
  rw [moved]
  refine refreshAvailability_powerless prop taking (fun _ => ?_) (factorNow_fault rfl)
  refine (setDrive_duty _ _ _).trans ?_
  rw [if_neg fun same => gear same.2.symm]
  exact dutyOf_idle (.inl ⟨nofun, nofun⟩)

/-- A gear let go has X at 0 (R61). -/
theorem enterGear_releases {s : State} {g : GearState} (on : engaged s.gear.state = true) (off : engaged g = false)
    (fault : g ≠ .gearFault) : (s.enterGear g).thrust.x = 0 := by
  unfold State.enterGear State.setGear
  have was : ((s.gear.entry s.clock (ms (s.param Param.neutralDwell)) g).state == .gearFault) = false := by
    refine beq_eq_false_iff_ne.mpr fun e => ?_
    rw [show s.gear.state = .gearFault from e] at on
    cases on
  have still : (if engaged (s.gear.entry s.clock (ms (s.param Param.neutralDwell)) g).state && !engaged g then 0
      else s.thrust.x) = 0 := if_pos (by rw [off]; exact Bool.and_eq_true_iff.mpr ⟨on, rfl⟩)
  dsimp only
  rw [was, beq_eq_false_iff_ne.mpr fault, still]
  rfl

/-- X stands where the gear did not drive it. -/
theorem enterGear_x {s : State} {g : GearState} (off : engaged s.gear.state = false ∧ s.gear.state ≠ .gearFault)
    (fault : g ≠ .gearFault) : (s.enterGear g).thrust.x = s.thrust.x := by
  unfold State.enterGear State.setGear
  have was : ((s.gear.entry s.clock (ms (s.param Param.neutralDwell)) g).state == .gearFault) = false :=
    beq_eq_false_iff_ne.mpr off.2
  have kept : (if engaged (s.gear.entry s.clock (ms (s.param Param.neutralDwell)) g).state && !engaged g then 0
      else s.thrust.x) = s.thrust.x :=
    if_neg (by rw [show engaged (s.gear.entry _ _ g).state = false from off.1]; exact nofun)
  dsimp only
  rw [was, beq_eq_false_iff_ne.mpr fault, kept]
  rfl

/-- The gear unit let go: DISENGAGING, or DWELL where both feedbacks are off already (R65, R66). -/
theorem disengage_gear (s : State) : s.disengage.gear = { s.gear with
    state := if s.line 0 || s.line 1 then .disengaging else .dwell, release := .none, releaseTimer := none,
    feedbackTimer := if s.line 0 || s.line 1 then startTimer s.clock (sec 3) else none,
    dwellTimer := if s.line 0 || s.line 1 then none else startTimer s.clock (ms (s.param Param.neutralDwell)) } := by
  unfold State.disengage
  dsimp only
  rw [← Bool.not_or]
  have touches := enterGear_touches s .disengaging
  cases off : s.line 0 || s.line 1 with
  | true => exact enterGear_gear s _
  | false =>
    refine (enterGear_gear _ _).trans ?_
    unfold State.param
    rw [enterGear_gear, touches.clock (by decide), touches.start (by decide)]
    rfl

theorem disengage_x {s : State} (on : engaged s.gear.state = true) : s.disengage.thrust.x = 0 := by
  have let_go : (s.enterGear .disengaging).thrust.x = 0 := enterGear_releases on rfl nofun
  unfold State.disengage
  dsimp only
  split
  · exact (enterGear_x (g := .dwell) (by rw [enterGear_gear]; exact ⟨rfl, nofun⟩) nofun).trans let_go
  · exact let_go

/-- A gear condition takes the gear to GEAR_FAULT (R68, R69). -/
theorem faultGear_gear (s : State) (c : AlertCode) : (s.faultGear c).gear = { s.gear with
    state := .gearFault, release := .none, releaseTimer := none, feedbackTimer := none, dwellTimer := none } := by
  unfold State.faultGear
  rw [enterGear_gear, (raise_touches s c).gear (by decide)]
  rfl

theorem faultGear_has (s : State) (c : AlertCode) : (s.faultGear c).has c = true :=
  ((enterGear_touches _ _).has (by decide) c).trans (raise_raises s c).2.1

theorem faultGear_powerless {s : State} (c : AlertCode) (prop : s.isProp = true) (taking : s.station.taking = true)
    (gear : s.gear.state ≠ .gearFault) : Powerless (s.faultGear c).thrust := by
  have touches := raise_touches s c
  refine enterGear_fault ?_ ?_ ?_
  · unfold State.isProp; rw [touches.role (by decide)]; exact prop
  · rw [touches.station (by decide)]; exact taking
  · rw [touches.gear (by decide)]; exact gear

/-- Settles O46. -/
theorem gearTimersRunOut : Obligations.GearTimersRunOut := by
  refine ⟨fun s dt prop up act timer => ?_, fun s dt prop up act wait on timer => ?_⟩
  · have touches := faultGear_touches (s.advance dt) .gearTimeout
    refine ⟨_, exec_pos rfl (by simp [isProp_advance, prop, up, act, timer]), touches.clock (by decide),
      faultGear_has _ _, faultGear_gear _ _, fun gear => ?_, (advance_touches s dt).mono.trans touches.mono⟩
    obtain ⟨factor, ahead, astern, x, -⟩ :=
      faultGear_powerless (s := s.advance dt) .gearTimeout prop (taking_of_acting act) gear
    exact ⟨factor, ahead, astern, x⟩
  · have touches := disengage_touches (s.advance dt)
    have gear := disengage_gear (s.advance dt)
    refine ⟨_, exec_pos rfl (by simp [isProp_advance, prop, up, act, wait, timer]), touches.clock (by decide),
      disengage_x on, fun line => ?_, fun ahead astern => ?_, ?_, (advance_touches s dt).mono.trans touches.mono⟩
    · have any : ((s.advance dt).line 0 || (s.advance dt).line 1) = true := Bool.or_eq_true_iff.mpr line
      rw [gear, any]
      rfl
    · have none : ((s.advance dt).line 0 || (s.advance dt).line 1) = false := Bool.or_eq_false_iff.mpr ⟨ahead, astern⟩
      rw [gear, none]
      rfl
    · exact touches.comms_same (by decide) (by decide) (by decide)

end Sys2Proof.Machine
end

section
/-! SUPPORT. The machinery of a PROPULSION station: trim and rate, the gear feedbacks, the engine-ready input and the
governor supervisor (O43, O44, O45, O48). -/

namespace Sys2Proof.Machine

-- As in Laws/Touches.lean: one theorem at a time.
set_option Elab.async false

/-! ## Trim and rate (R55, R119) -/

theorem rateOf_eq {n : Int} (h : 0 < n) : rateOf n = min 65535 (n * 36 / 100000).toNat := by
  obtain ⟨m, rfl⟩ := Int.eq_ofNat_of_zero_le h.le
  rfl

theorem rateOf_low {n : Int} (h : n ≤ 0) : rateOf n = 0 := by
  unfold rateOf
  rw [Int.toNat_of_nonpos h]
  rfl

/-- Settles O43. -/
theorem trimAndRateEvaluations : Obligations.TrimAndRateEvaluations := by
  refine ⟨fun s dt prop act timer => ?_, fun s dt prop taking timer ten => ?_⟩
  · intro sum e
    refine ⟨trimAfter s.demand.record.demand.cap e s.thrust.ahead sum s.meter.rate,
      exec_eq rfl (by simp [isProp_advance, prop, act, timer]) rfl, fun cap => ?_, fun c cap none => ?_, fun c cap some => ?_⟩
    · rw [cap]; rfl
    · rw [cap, trimAfter, if_pos none]
    · rw [cap]
      unfold trimAfter fuelAllowance
      dsimp only
      rw [if_neg some]
      refine ⟨fun above => if_pos above, fun under => ?_, fun low high => ?_⟩
      · rw [if_neg (by omega), if_pos under]
      · rw [if_neg (by omega), if_neg (by omega)]
  · refine ⟨_, exec_pos rfl (by simp [isProp_advance, prop, taking, timer]), rfl, ?_, ?_, fun i h => ?_, rateOf_low, rateOf_eq⟩
    · show (s.meter.window.drop 1 ++ [s.meter.secondNet]).length = 10
      rw [List.length_append, List.length_drop, ten]
      rfl
    · exact List.getLast?_concat
    · show (s.meter.window.drop 1 ++ [s.meter.secondNet])[i]? = _
      rw [List.getElem?_append_left (by rw [List.length_drop, ten]; exact h), List.getElem?_drop, Nat.add_comm]

/-! ## Gear feedbacks (R68) -/

theorem gearVerdict_interlock (g : GearState) (a b : Bool) : gearVerdict g a b = .interlock ↔
    a = true ∧ b = true ∨ (g = .neutral ∨ g = .dwell) ∧ (a = true ∨ b = true) ∨
      (g = .engagingAhead ∨ g = .ahead) ∧ b = true ∨ (g = .engagingAstern ∨ g = .astern) ∧ a = true := by
  cases g <;> revert a b <;> decide

theorem gearVerdict_timeout (g : GearState) (a b : Bool) : gearVerdict g a b = .timeout ↔
    (g = .ahead ∨ g = .astern) ∧ a = false ∧ b = false := by
  cases g <;> revert a b <;> decide

theorem gearVerdict_unchanged {g : GearState} {a b : Bool}
    (h : g = .gearFault ∧ ¬ (a = true ∧ b = true) ∨
      g = .disengaging ∧ ¬ (a = true ∧ b = true) ∧ (a = true ∨ b = true) ∨ g = .ahead ∧ a = true ∧ b = false ∨
      g = .astern ∧ a = false ∧ b = true ∨
      (g = .neutral ∨ g = .dwell ∨ g = .engagingAhead ∨ g = .engagingAstern) ∧ a = false ∧ b = false) :
    gearVerdict g a b = .unchanged := by
  revert h
  cases g <;> revert a b <;> decide

theorem judgeFeedback_fault {s : State} (h : gearVerdict s.gear.state (s.line 0) (s.line 1) = .interlock ∨
    gearVerdict s.gear.state (s.line 0) (s.line 1) = .timeout) :
    ∃ c, s.judgeFeedback = s.faultGear c := by
  unfold State.judgeFeedback
  obtain h | h := h <;> rw [h]
  · exact ⟨_, rfl⟩
  · exact ⟨_, rfl⟩

/-- An advance of a gear that drives nothing changes the gear alone. -/
theorem judgeFeedback_advances {s : State} {g : GearState} (h : gearVerdict s.gear.state (s.line 0) (s.line 1) = .enter g)
    (rest : AtRest s) (was : s.gear.state ≠ .gearFault) (now : g ≠ .gearFault) :
    s.judgeFeedback = { s with
      gear := { s.gear.entry s.clock (ms (s.param Param.neutralDwell)) g with state := g } } := by
  unfold State.judgeFeedback
  rw [h]
  exact enterGear_of_atRest rest was now

/-- Settles O45: the table of R68 row by row. -/
theorem gearFeedbackIsJudged : Obligations.GearFeedbackIsJudged := by
  intro s dt a b prop up act inv changes g interlock lost u rest
  have lines0 : u.line 0 = a := by
    show ((s.lines.set 0 a).set 1 b).get 0 = a
    rw [Tab.get_set_ne _ _ (by decide), Tab.get_set_self]
  have lines1 : u.line 1 = b := Tab.get_set_self _ _ _
  have run : exec (.gearFeedbackChange dt a b) s = .next u.judgeFeedback := by
    refine exec_eq rfl prop (whenever_pos (s := u) (f := State.judgeFeedback) ?_)
    simp only [Bool.and_eq_true, Bool.or_eq_true, bne_iff_ne]
    exact ⟨⟨changes, up⟩, act⟩
  have begun : OnlyTouches [.clock, .lines] s u := .of fun p => by
    cases p <;> first | exact .inl (by decide) | exact .inr rfl
  have judged := judgeFeedback_touches u
  have still : ∀ {v : GearVerdict}, gearVerdict g a b = v →
      gearVerdict u.gear.state (u.line 0) (u.line 1) = v := fun e => by rw [lines0, lines1]; exact e
  have advances : ∀ {n : GearState}, gearVerdict g a b = .enter n → engaged g = false → g ≠ .gearFault → n ≠ .gearFault →
      u.judgeFeedback = { u with gear := { u.gear.entry u.clock (ms (u.param Param.neutralDwell)) n with state := n } } :=
    fun e off was now => judgeFeedback_advances (still e) (inv.atRest prop off) was now
  have unchanged : gearVerdict g a b = .unchanged → u.judgeFeedback = u := fun e => by
    unfold State.judgeFeedback
    rw [still e]
  refine ⟨_, run, judged.clock (by decide), judged.lines (by decide), fun h => ?_, fun h => ?_, fun h => ?_,
    fun e ha hb => ?_, fun e ha hb => ?_, fun e ha hb => ?_, fun e n => unchanged (gearVerdict_unchanged (.inl ⟨e, ?_⟩)),
    fun e n any => unchanged (gearVerdict_unchanged (.inr (.inl ⟨e, n, any⟩))),
    fun e ha hb => unchanged (gearVerdict_unchanged (.inr (.inr (.inl ⟨e, ha, hb⟩)))),
    fun e ha hb => unchanged (gearVerdict_unchanged (.inr (.inr (.inr (.inl ⟨e, ha, hb⟩))))),
    fun e ha hb => unchanged (gearVerdict_unchanged (.inr (.inr (.inr (.inr ⟨e, ha, hb⟩))))),
    begun.mono.trans judged.mono⟩
  · unfold State.judgeFeedback
    rw [still ((gearVerdict_interlock g a b).mpr h)]
    exact faultGear_has _ _
  · unfold State.judgeFeedback
    rw [still ((gearVerdict_timeout g a b).mpr h)]
    exact faultGear_has _ _
  · obtain ⟨c, e⟩ := judgeFeedback_fault (s := u) (h.imp (fun h => still ((gearVerdict_interlock g a b).mpr h))
      fun h => still ((gearVerdict_timeout g a b).mpr h))
    rw [e]
    refine ⟨faultGear_gear u c, fun n => ?_⟩
    obtain ⟨factor, ahead, astern, x, duty⟩ := faultGear_powerless (s := u) c prop (taking_of_acting act) n
    exact ⟨factor, ahead, astern, x, duty⟩
  · exact (advances (by rw [e, ha, hb]; rfl) (by rw [e]; rfl) (by rw [e]; nofun) nofun)
  · exact (advances (by rw [e, ha, hb]; rfl) (by rw [e]; rfl) (by rw [e]; nofun) nofun)
  · exact (advances (by rw [e, ha, hb]; rfl) (by rw [e]; rfl) (by rw [e]; nofun) nofun)
  · exact fun both => n (.inl both)

/-! ## Availability (R50, R51) -/

theorem factorNow_eq (s : State) : s.factorNow =
    if s.gear.state = .gearFault ∨ s.has .overspeed = true ∨ s.line 2 = false then 0
    else if s.has .governorFollow = true ∨ s.has .shaftSignal = true then 500 else 1000 := by
  unfold State.factorNow availabilityFactor
  simp only [Bool.or_eq_true, beq_iff_eq, Bool.not_eq_true', or_assoc]

/-- The drive parts of a PROPULSION station after the availability is found again. -/
structure Refreshed (s t : State) : Prop where
  factor : t.thrust.factor = s.factorNow
  ahead : t.thrust.ahead = s.param Param.ratedThrust * s.factorNow / 1000
  astern : t.thrust.astern = t.thrust.ahead * s.param Param.asternRatio / 1000
  x : t.thrust.x = withinAvailability s.thrust.x t.thrust.ahead t.thrust.astern

theorem refreshAvailability_refreshed {s : State} (prop : s.isProp = true) (taking : s.station.taking = true) :
    Refreshed s s.refreshAvailability := by
  rw [refreshAvailability_eq prop taking]
  exact ⟨rfl, rfl, rfl, rfl⟩

theorem Refreshed.bounds {s t : State} (h : Refreshed s t) :
    t.thrust.x ≤ t.thrust.ahead ∧ -(t.thrust.astern : Int) ≤ t.thrust.x := by
  rw [h.x]
  exact (withinAvailability_bounds _ _ _).symm

/-- What the governor supervisor keeps when the availability is found again, and what a changed duty restarts. -/
theorem refreshAvailability_gov (s : State) :
    s.refreshAvailability.thrust.duty = s.thrust.duty ∧ s.refreshAvailability.gov = s.gov ∨
    s.refreshAvailability.thrust.duty ≠ s.thrust.duty ∧
      s.refreshAvailability.gov = s.govAfterDuty s.refreshAvailability.thrust.duty := by
  unfold State.refreshAvailability
  split
  · unfold State.setX State.setDrive
    dsimp only
    by_cases same : ((if withinAvailability s.thrust.x (s.param Param.ratedThrust * s.factorNow / 1000)
        (s.param Param.ratedThrust * s.factorNow / 1000 * s.param Param.asternRatio / 1000) = s.thrust.x ∧
        s.gear.state = s.gear.state then s.thrust.duty
      else dutyOf s.gear.state (withinAvailability s.thrust.x (s.param Param.ratedThrust * s.factorNow / 1000)
        (s.param Param.ratedThrust * s.factorNow / 1000 * s.param Param.asternRatio / 1000))
        (s.param Param.ratedThrust)) == s.thrust.duty) = true
    · exact .inl ⟨beq_iff_eq.mp same, if_pos same⟩
    · exact .inr ⟨fun e => same (beq_iff_eq.mpr e), if_neg same⟩
  · exact .inl ⟨rfl, rfl⟩

/-! ## The engine-ready input (R52, R73, R76) -/

theorem judgeReady_has (s : State) (on : Bool) : (s.judgeReady on).has .engineNotReady =
    if on then (if s.station.acting then false else s.has .engineNotReady)
    else if s.station = .active then true else s.has .engineNotReady := by
  unfold State.judgeReady State.whenever
  cases on
  · simp only [Bool.false_eq_true, if_false, beq_iff_eq]
    split
    · exact raiseNew_has_self s _
    · rfl
  · simp only [if_true]
    split
    · exact clear_has_self s nofun
    · rfl

theorem judgeReady_has_ne (s : State) (on : Bool) {c : AlertCode} (h : c ≠ .engineNotReady) (n : c ≠ .txLoss) :
    (s.judgeReady on).has c = s.has c := by
  unfold State.judgeReady State.whenever
  cases on
  · simp only [Bool.false_eq_true, if_false]
    split
    · exact raiseNew_has_ne s h n
    · rfl
  · simp only [if_true]
    split
    · exact clear_has_ne s h n
    · rfl

/-- The station as IN2 leaves it, before the availability is found again. -/
def State.readied (s : State) (on : Bool) : State :=
  State.judgeReady { s.setLine 2 on with gov := (s.setLine 2 on).govAfterReady on } on

theorem readied_touches (s : State) (on : Bool) :
    OnlyTouches [.present, .alerts, .link] { s.setLine 2 on with gov := (s.setLine 2 on).govAfterReady on } (s.readied on) :=
  judgeReady_touches _ _

theorem readied_line (s : State) (on : Bool) : (s.readied on).line 2 = on := by
  unfold State.line
  rw [(readied_touches s on).lines (by decide)]
  exact Tab.get_set_self _ _ _

theorem readied_gov (s : State) (on : Bool) : (s.readied on).gov = (s.setLine 2 on).govAfterReady on :=
  (readied_touches s on).gov (by decide)

/-- The follow monitor and the no-pulse watch while IN2 is off (R73, R76). -/
theorem unready_gov {s t : State} (h : t = (s.readied false).refreshAvailability) :
    t.gov.watch = none ∧ t.gov.settle = none ∧ t.gov.deviation = none ∧ t.gov.agreement = none := by
  have off : ((s.readied false).station.acting && (s.readied false).line 2) = false := by
    rw [readied_line, Bool.and_false]
  rw [h]
  obtain ⟨-, e⟩ | ⟨-, e⟩ := refreshAvailability_gov (s.readied false) <;> rw [e]
  · rw [readied_gov]
    exact ⟨rfl, rfl, rfl, rfl⟩
  · unfold State.govAfterDuty
    rw [off, readied_gov]
    simp only [Bool.not_false, Bool.or_true, if_true, Bool.false_eq_true, if_false]
    exact ⟨trivial, rfl, rfl, rfl⟩

/-- They start afresh at IN2 on, the watch while the duty is above 0 (R73, R76). -/
theorem ready_gov {s t : State} (h : t = (s.readied true).refreshAvailability) :
    t.gov.deviation = none ∧ t.gov.agreement = none ∧
    t.gov.watch = (if s.station.acting = true ∧ 0 < t.thrust.duty then startTimer s.clock (sec 2) else none) ∧
    (s.station.acting = true → t.gov.settle = startTimer s.clock (sec 5)) := by
  have touches := readied_touches s true
  have station : (s.readied true).station = s.station := touches.station (by decide)
  have clock : (s.readied true).clock = s.clock := touches.clock (by decide)
  have thrust : (s.readied true).thrust = s.thrust := touches.thrust (by decide)
  have begun : (s.readied true).gov.watch =
      if s.station.acting = true ∧ 0 < s.thrust.duty then startTimer s.clock (sec 2) else none := by
    rw [readied_gov]
    have on : (s.setLine 2 true).line 2 = true := setLine_same s 2 true
    show (s.setLine 2 true).watchStart = _
    unfold State.watchStart
    rw [on]
    simp only [Bool.and_true, Bool.and_eq_true, bne_iff_ne, Nat.pos_iff_ne_zero]
    rfl
  have settled : s.station.acting = true → (s.readied true).gov.settle = startTimer s.clock (sec 5) := fun act => by
    rw [readied_gov]
    exact if_pos act
  have free : (s.readied true).gov.deviation = none ∧ (s.readied true).gov.agreement = none := by
    rw [readied_gov]
    exact ⟨rfl, rfl⟩
  rw [h]
  obtain ⟨same, e⟩ | ⟨ne, e⟩ := refreshAvailability_gov (s.readied true)
  · rw [e, same, thrust]
    exact ⟨free.1, free.2, begun, settled⟩
  · rw [thrust] at ne
    rw [e]
    unfold State.govAfterDuty
    rw [readied_line, station, clock, thrust, begun]
    cases act : s.station.acting
    · simp only [Bool.false_and, Bool.false_eq_true, if_false, Bool.not_false, Bool.or_true, if_true, false_and]
      exact ⟨free.1, free.2, trivial, nofun⟩
    · simp only [Bool.true_and, if_true, Bool.not_true, Bool.or_false, true_and]
      refine ⟨?_, fun _ => trivial⟩
      by_cases zero : (s.readied true).refreshAvailability.thrust.duty = 0
      · simp [zero]
      · by_cases was : s.thrust.duty = 0
        · simp [zero, was, Nat.pos_iff_ne_zero]
        · simp [zero, was, Nat.pos_iff_ne_zero]

theorem line_setLine_self {s : State} {i : Fin 16} {on : Bool} (h : s.line i = on) : s.lines.set i on = s.lines := by
  subst h
  exact Tab.set_self _ _

theorem readied_factor (s : State) (on : Bool) : (s.readied on).factorNow =
    if s.gear.state = .gearFault ∨ s.has .overspeed = true ∨ on = false then 0
    else if s.has .governorFollow = true ∨ s.has .shaftSignal = true then 500 else 1000 := by
  have other : ∀ c, c ≠ .engineNotReady → c ≠ .txLoss → (s.readied on).has c = s.has c :=
    fun c h n => judgeReady_has_ne _ on h n
  rw [factorNow_eq, readied_line, other .overspeed nofun nofun, other .governorFollow nofun nofun,
    other .shaftSignal nofun nofun,
    (readied_touches s on).gear (by decide)]
  rfl

/-- Settles O44: IN2 moves the supervisor and the report, and the availability is found again. -/
theorem engineReadyMovesAvailability : Obligations.EngineReadyMovesAvailability := by
  intro s dt on prop inv factor
  have run : exec (.engineReadyChange dt on) s = .next ((s.advance dt).readyChange on) := exec_eq rfl prop rfl
  by_cases same : s.line 2 = on
  · have still : (s.advance dt).readyChange on = s.advance dt := if_pos (beq_iff_eq.mpr same)
    rw [still] at run
    refine ⟨_, run, rfl, (line_setLine_self same).symm, fun _ => rfl, fun n => absurd same n, fun n => absurd same n,
      fun n => absurd same n, fun n => absurd same n, rfl, rfl, rfl, fun _ _ _ => rfl, (advance_touches s dt).mono⟩
  · have moved : (s.advance dt).readyChange on = ((s.advance dt).readied on).refreshAvailability :=
      if_neg fun e => same (beq_iff_eq.mp e)
    rw [moved] at run
    have touches := readied_touches (s.advance dt) on
    have found := refreshAvailability_touches ((s.advance dt).readied on)
    have gear : ((s.advance dt).readied on).refreshAvailability.gear = s.gear :=
      (refreshAvailability_gear _).trans (touches.gear (by decide))
    have begun : OnlyTouches [.clock, .lines, .gov] s
        { (s.advance dt).setLine 2 on with gov := ((s.advance dt).setLine 2 on).govAfterReady on } := .of fun p => by
      cases p <;> first | exact .inl (by decide) | exact .inr rfl
    have thrust : ((s.advance dt).readied on).thrust = s.thrust := touches.thrust (by decide)
    have prop' : ((s.advance dt).readied on).isProp = true := by
      unfold State.isProp; rw [touches.role (by decide)]; exact prop
    have station : ((s.advance dt).readied on).station = s.station := touches.station (by decide)
    have param : ∀ p, ((s.advance dt).readied on).param p = s.param p := fun p => by
      unfold State.param; rw [touches.start (by decide)]; rfl
    have factor_eq : ((s.advance dt).readied on).factorNow = factor := readied_factor (s.advance dt) on
    have has : ∀ c, ((s.advance dt).readied on).refreshAvailability.has c = ((s.advance dt).readied on).has c :=
      found.has (by decide)
    have refreshed := fun taking => refreshAvailability_refreshed prop' (station.symm ▸ taking)
    have report := judgeReady_has { (s.advance dt).setLine 2 on with gov := ((s.advance dt).setLine 2 on).govAfterReady on } on
    refine ⟨_, run, (found.clock (by decide)).trans (touches.clock (by decide)),
      (found.lines (by decide)).trans (touches.lines (by decide)), fun e => absurd e same, fun _ taking => ?_,
      fun _ out => ?_, fun _ off => ?_, fun _ ready => ?_, gear, ?_, ?_, fun c h n => ?_,
      begun.mono.trans (touches.mono.trans found.mono)⟩
    · obtain ⟨f, ahead, astern, x⟩ := refreshed taking
      rw [thrust] at x
      rw [factor_eq] at f ahead
      rw [param] at ahead astern
      exact ⟨f, ahead, astern, x⟩
    · have off : ((s.advance dt).readied on).refreshAvailability = (s.advance dt).readied on := by
        unfold State.refreshAvailability
        rw [station, out, Bool.and_false]
        rfl
      rw [off, thrust]
    · subst off
      obtain ⟨watch, settle, deviation, agreement⟩ := unready_gov (s := s.advance dt) rfl
      refine ⟨watch, settle, deviation, agreement, fun taking => ?_, fun act => ?_, fun idle => ?_⟩
      · have none : ((s.advance dt).readied false).factorNow = 0 := by rw [factor_eq]; exact if_pos (.inr (.inr rfl))
        obtain ⟨-, -, -, x, duty⟩ := refreshAvailability_powerless prop' (station.symm ▸ taking)
          (by rw [thrust]; exact ((thrustInv_iff s).mp inv prop).idle) none
        exact ⟨x, duty⟩
      · rw [has]
        exact report.trans (if_pos act)
      · rw [has]
        exact report.trans (if_neg idle)
    · subst ready
      obtain ⟨deviation, agreement, watch, settle⟩ := ready_gov (s := s.advance dt) rfl
      refine ⟨deviation, agreement, watch, fun act => ⟨settle act, ?_⟩, fun idle => ?_⟩
      · rw [has]
        exact report.trans (if_pos act)
      · rw [has]
        exact report.trans (if_neg (c := s.station.acting = true) (by rw [idle]; nofun))
    · obtain ⟨-, e⟩ | ⟨-, e⟩ := refreshAvailability_gov ((s.advance dt).readied on) <;> rw [e]
      · rw [readied_gov]; rfl
      · unfold State.govAfterDuty; rw [readied_gov]; rfl
    · obtain ⟨-, e⟩ | ⟨-, e⟩ := refreshAvailability_gov ((s.advance dt).readied on) <;> rw [e]
      · rw [readied_gov]; rfl
      · unfold State.govAfterDuty; rw [readied_gov]; rfl
    · rw [has]
      exact judgeReady_has_ne _ on h n

/-! ## The governor supervisor's timers (R72 to R75) -/

theorem judgeShaft_eq {s : State} (prop : s.isProp = true) (act : s.station.acting = true) :
    s.judgeShaft = s.followAvail .shaftSignal (s.gov.noPulse || (s.caps.get 0).noise) :=
  whenever_pos (Bool.and_eq_true_iff.mpr ⟨prop, act⟩)

/-- A speed of 0 is above no limit. -/
theorem judgeOverspeed_still {s : State} (h : s.gov.rpm = 0) : s.judgeOverspeed = s := by
  have below : s.overLimit = false := decide_eq_false (by rw [h]; exact Nat.not_lt_zero _)
  exact whenever_neg (by rw [below, Bool.and_false, Bool.false_and])

/-- The speed found to be 0: no report comes of it (R72). -/
theorem setSpeed_zero (s : State) (n : s.gov.rpm ≠ 0) :
    ∃ g : GovernorUnit, s.setSpeed 0 = { s with gov := g, meter := { s.meter with flowWatch := none } } ∧
      g.rpm = 0 ∧ g.pulseTimer = s.gov.pulseTimer ∧ g.lastPulse = s.gov.lastPulse := by
  have slow : s.flowWatchAfter 0 = none := if_pos (Bool.or_eq_true_iff.mpr (.inr (decide_eq_true (Nat.zero_le _))))
  unfold State.setSpeed
  rw [if_neg n.symm, slow]
  dsimp only
  rw [judgeOverspeed_still rfl]
  unfold State.whenever
  split
  · unfold State.followJudgement
    dsimp only
    split <;> exact ⟨_, rfl, rfl, rfl, rfl⟩
  · exact ⟨_, rfl, rfl, rfl, rfl⟩

/-- A condition that feeds the availability, newly raised or ended. -/
theorem followAvail_changes {s : State} {c : AlertCode} {b : Bool} (h : s.has c ≠ b) :
    s.followAvail c b = (s.follow c b).refreshAvailability :=
  if_neg fun e => h (beq_iff_eq.mp e)

theorem followAvail_stays {s : State} {c : AlertCode} {b : Bool} (h : s.has c = b) : s.followAvail c b = s :=
  if_pos (beq_iff_eq.mpr h)

/-- What a change of one of the conditions leaves: the condition as told, the others and the gear as they stood, and
the availability found again from them (R50). -/
structure Refollowed (c : AlertCode) (b : Bool) (s t : State) : Prop where
  has : t.has c = b
  others : ∀ d, d ≠ c → d ≠ .txLoss → t.has d = s.has d
  gear : t.gear = s.gear
  refreshed : ∃ v : State, Refreshed v t ∧ v.thrust = s.thrust ∧ v.gear = s.gear ∧ (∀ d, v.has d = t.has d) ∧
    v.lines = s.lines ∧ v.start = s.start

theorem followAvail_refollowed {s : State} {c : AlertCode} {b : Bool} (prop : s.isProp = true)
    (taking : s.station.taking = true) (n : c ≠ .txLoss) (h : s.has c ≠ b) : Refollowed c b s (s.followAvail c b) := by
  have touches := follow_touches s c b
  have found := refreshAvailability_touches (s.follow c b)
  have has := found.has (by decide)
  rw [followAvail_changes h]
  refine ⟨(has c).trans (follow_has_self s b n), fun d ne nt => (has d).trans (follow_has_ne s b ne nt),
    (refreshAvailability_gear _).trans (touches.gear (by decide)), s.follow c b,
    refreshAvailability_refreshed ?_ ?_, touches.thrust (by decide), touches.gear (by decide), fun d => (has d).symm,
    touches.lines (by decide), touches.start (by decide)⟩
  · unfold State.isProp; rw [touches.role (by decide)]; exact prop
  · rw [touches.station (by decide)]; exact taking

theorem Refollowed.bounds {c : AlertCode} {b : Bool} {s t : State} (h : Refollowed c b s t) :
    t.thrust.x ≤ t.thrust.ahead ∧ -(t.thrust.astern : Int) ≤ t.thrust.x := by
  obtain ⟨v, refreshed, -⟩ := h.refreshed
  exact refreshed.bounds

/-- The factor from the conditions as they then stand (R50). -/
theorem Refollowed.factor {c : AlertCode} {b : Bool} {s t : State} (h : Refollowed c b s t) : t.thrust.factor =
    if s.gear.state = .gearFault ∨ t.has .overspeed = true ∨ s.line 2 = false then 0
    else if t.has .governorFollow = true ∨ t.has .shaftSignal = true then 500 else 1000 := by
  obtain ⟨v, refreshed, -, gear, has, lines, -⟩ := h.refreshed
  rw [refreshed.factor, factorNow_eq, has, has, has, gear]
  unfold State.line
  rw [lines]

theorem Refollowed.ahead {c : AlertCode} {b : Bool} {s t : State} (h : Refollowed c b s t) :
    t.thrust.ahead = s.param Param.ratedThrust * t.thrust.factor / 1000 := by
  obtain ⟨v, refreshed, -, -, -, -, start⟩ := h.refreshed
  rw [refreshed.ahead, refreshed.factor]
  unfold State.param
  rw [start]

theorem shaftPulse_times {s : State} {dt : Micros} (prop : s.isProp = true) (up : s.station.joined = true)
    (timer : due s.gov.pulseTimer (s.later dt) = true) :
    exec (.shaftPulseTimeout dt) s = .next (State.setSpeed { s.advance dt with gov := { s.gov with pulseTimer := none } } 0) :=
  exec_eq rfl (by simp [isProp_advance, prop, up, timer]) rfl

theorem Refollowed.x {c : AlertCode} {b : Bool} {s t : State} (h : Refollowed c b s t) :
    t.thrust.x = withinAvailability s.thrust.x t.thrust.ahead t.thrust.astern := by
  obtain ⟨v, refreshed, thrust, -⟩ := h.refreshed
  rw [refreshed.x, thrust]

theorem withinAvailability_of {x : Int} {p q : Nat} (low : -(q : Int) ≤ x) (high : x ≤ p) :
    withinAvailability x p q = x := by
  unfold withinAvailability
  rw [if_neg (by omega), if_neg (by omega)]

/-- A start of the follow monitor that is removed stays removed. -/
theorem followAvail_starts (s : State) (c : AlertCode) (b : Bool) :
    (s.gov.deviation = none → (s.followAvail c b).gov.deviation = none) ∧
    (s.gov.agreement = none → (s.followAvail c b).gov.agreement = none) := by
  have gov : (s.follow c b).gov = s.gov := (follow_touches s c b).gov (by decide)
  unfold State.followAvail
  split
  · exact ⟨id, id⟩
  · obtain ⟨-, e⟩ | ⟨-, e⟩ := refreshAvailability_gov (s.follow c b) <;> rw [e]
    · rw [gov]; exact ⟨id, id⟩
    · unfold State.govAfterDuty
      rw [gov]
      refine ⟨fun h => ?_, fun h => ?_⟩
      · show (if _ then none else s.gov.deviation) = none
        rw [h, ite_self]
      · show (if _ then none else s.gov.agreement) = none
        rw [h, ite_self]

theorem followJudgement_eq (s : State) : s.followJudgement = { s with gov := { s.gov with
    deviation := if s.has .governorFollow then s.gov.deviation else runStart s.clock s.gov.deviation s.outOfTolerance,
    agreement := if s.has .governorFollow then runStart s.clock s.gov.agreement (!s.outOfTolerance)
      else s.gov.agreement } } := by
  unfold State.followJudgement
  split
  · rfl
  · rfl

theorem runStart_eq (now : Clock) (start : Option Clock) (run : Bool) :
    runStart now start run = if run = true then (if start = none then some now else start) else none := by
  unfold runStart
  cases run <;> cases start <;> rfl

/-- Settles O48. -/
theorem governorTimersRunOut : Obligations.GovernorTimersRunOut := by
  refine ⟨fun s dt prop up timer => ?_, fun s dt prop act timer => ?_, fun s dt prop act on timer => ?_,
    fun s dt since prop act on free start old => ?_, fun s dt since prop act on present start old => ?_⟩
  · refine ⟨_, shaftPulse_times prop up timer, ?_⟩
    by_cases zero : s.gov.rpm = 0
    · have still : State.setSpeed { s.advance dt with gov := { s.gov with pulseTimer := none } } 0 =
          { s.advance dt with gov := { s.gov with pulseTimer := none } } := if_pos zero.symm
      rw [still]
      exact ⟨rfl, zero, rfl, rfl, rfl, fun _ => rfl, fun n => absurd zero n, .of fun p => by
        cases p <;> first | exact .inl (by decide) | exact .inr rfl⟩
    · obtain ⟨g, e, rpm, timer, pulse⟩ := setSpeed_zero { s.advance dt with gov := { s.gov with pulseTimer := none } } zero
      rw [e]
      exact ⟨rfl, rpm, timer, pulse, rfl, fun h => absurd h zero, fun _ => rfl, .of fun p => by
        cases p <;> first | exact .inl (by decide) | exact .inr rfl⟩
  · let u : State := { s.advance dt with gov := { s.gov with watch := none, noPulse := true } }
    have run : exec (.noPulseWatchExpiry dt) s = .next (u.followAvail .shaftSignal true) :=
      exec_eq rfl (by simp [isProp_advance, prop, act, timer]) (judgeShaft_eq (s := u) prop act)
    have begun : OnlyTouches [.clock, .gov] s u := .of fun p => by
      cases p <;> first | exact .inl (by decide) | exact .inr rfl
    have touches := followAvail_touches u .shaftSignal true
    have gov : (u.followAvail .shaftSignal true).gov.noPulse = true := by
      unfold State.followAvail
      split
      · rfl
      · have kept : (u.follow .shaftSignal true).gov = u.gov := (follow_touches u _ true).gov (by decide)
        obtain ⟨-, e⟩ | ⟨-, e⟩ := refreshAvailability_gov (u.follow .shaftSignal true) <;> rw [e]
        · rw [kept]
        · unfold State.govAfterDuty
          rw [kept]
    refine ⟨_, run, touches.clock (by decide), ?_⟩
    cases has : s.has .shaftSignal with
    | true =>
      have still : u.followAvail .shaftSignal true = u := followAvail_stays has
      rw [still]
      exact ⟨has, rfl, le_rfl, nofun, fun _ => rfl, rfl, begun.mono⟩
    | false =>
      have told := followAvail_refollowed (s := u) (c := .shaftSignal) (b := true) prop (taking_of_acting act) nofun
        (by rw [show u.has .shaftSignal = false from has]; nofun)
      have half : (u.followAvail .shaftSignal true).thrust.factor ≤ 500 := by
        rw [told.factor, told.has]
        split
        · exact Nat.zero_le _
        · rw [if_pos (.inr rfl)]
      refine ⟨told.has, gov, half, fun _ => ⟨?_, told.bounds⟩, nofun, told.gear, begun.mono.trans touches.mono⟩
      rw [told.ahead]
      exact Nat.div_le_div_right (Nat.mul_le_mul_left _ half)
  · intro outside began
    let u : State := { s.advance dt with gov := { s.gov with settle := none, settled := true } }
    have judged := followJudgement_eq u
    have kept : u.has .governorFollow = s.has .governorFollow := rfl
    refine ⟨_, _, exec_eq rfl (by simp [State.followRuns, isProp_advance, prop, act, timer, show (s.advance dt).line 2 = true from on]) judged,
      fun free => ?_, fun has => ?_⟩
    · have absent : ¬ u.has .governorFollow = true := by rw [kept, free]; nofun
      refine ⟨if_neg absent, fun out => (if_neg absent).trans ?_, fun inside => (if_neg absent).trans ?_⟩
      · exact (runStart_eq _ _ _).trans (if_pos (decide_eq_true out))
      · exact (runStart_eq _ _ _).trans (if_neg fun out => inside (of_decide_eq_true out))
    · have present : u.has .governorFollow = true := has
      refine ⟨if_pos present, fun inside => (if_pos present).trans ?_, fun out => (if_pos present).trans ?_⟩
      · refine (runStart_eq _ _ _).trans (if_pos ?_)
        rw [Bool.not_eq_true']
        exact decide_eq_false inside
      · refine (runStart_eq _ _ _).trans (if_neg ?_)
        rw [Bool.not_eq_true']
        exact fun inside => of_decide_eq_false inside out
  · let u : State := { s.advance dt with gov := { s.gov with deviation := none } }
    have run : exec (.deviationStartExpiry dt) s = .next (u.followAvail .governorFollow true) := by
      refine exec_eq rfl ?_ rfl
      simp only [State.followRuns, Bool.and_eq_true, Bool.not_eq_true']
      exact ⟨⟨⟨⟨prop, act⟩, on⟩, free⟩, aged_of_some start old⟩
    have touches := followAvail_touches u .governorFollow true
    have told := followAvail_refollowed (s := u) (c := .governorFollow) (b := true) prop (taking_of_acting act) nofun
      (by rw [show u.has .governorFollow = false from free]; nofun)
    have begun : OnlyTouches [.clock, .gov] s u := .of fun p => by
      cases p <;> first | exact .inl (by decide) | exact .inr rfl
    refine ⟨_, run, touches.clock (by decide), told.has, (followAvail_starts u _ _).1 rfl, ?_, told.bounds.1, told.bounds.2,
      told.gear, begun.mono.trans touches.mono⟩
    have line : u.line 2 = true := on
    have fast : u.has .overspeed = s.has .overspeed := rfl
    rw [told.factor, told.others .overspeed nofun nofun, told.has, line, fast]
    simp [u]
  · let u : State := { s.advance dt with gov := { s.gov with agreement := none } }
    have run : exec (.agreementStartExpiry dt) s = .next (u.followAvail .governorFollow false) := by
      refine exec_eq rfl ?_ rfl
      simp only [State.followRuns, Bool.and_eq_true]
      exact ⟨⟨⟨⟨prop, act⟩, on⟩, present⟩, aged_of_some start old⟩
    have touches := followAvail_touches u .governorFollow false
    have told := followAvail_refollowed (s := u) (c := .governorFollow) (b := false) prop (taking_of_acting act) nofun
      (by rw [show u.has .governorFollow = true from present]; nofun)
    have begun : OnlyTouches [.clock, .gov] s u := .of fun p => by
      cases p <;> first | exact .inl (by decide) | exact .inr rfl
    refine ⟨_, run, touches.clock (by decide), told.has, (followAvail_starts u _ _).2 rfl, ?_, fun inv ahead astern => ?_,
      told.gear, begun.mono.trans touches.mono⟩
    · have line : u.line 2 = true := on
      have fast : u.has .overspeed = s.has .overspeed := rfl
      have signal : u.has .shaftSignal = s.has .shaftSignal := rfl
      rw [told.factor, told.others .overspeed nofun nofun, told.others .shaftSignal nofun nofun, told.has, line, fast, signal]
      simp [u]
    · have bounds := (thrustInv_iff s).mp inv prop
      rw [told.x]
      exact withinAvailability_of ((neg_le_neg (Int.ofNat_le.mpr astern)).trans bounds.astern)
        (bounds.ahead.trans (Int.ofNat_le.mpr ahead))

end Sys2Proof.Machine
end

section
/-! SUPPORT. The control tick: its parts in any order, the metering that books every edge (O39), the decay and the ramp
(O40), the gear's and the standby test's work (O42). -/

namespace Sys2Proof.Machine

-- As in Laws/Touches.lean: one theorem at a time.
set_option Elab.async false

/-! ## The places that a queue still has, an ALERT counted as waiting -/

/-- The places taken once an ALERT has joined: what a change of the list can bring the queue to (R140, R163). -/
def State.load (s : State) : Nat := s.comms.link.queue.length + if s.waits .alert then 0 else 1

theorem load_le (s : State) : s.load ≤ s.comms.link.queue.length + 1 := by
  unfold State.load
  split <;> omega

theorem queueFree_of_load {s : State} (h : s.load ≤ 7) : s.QueueFree := by
  unfold State.load at h
  unfold State.QueueFree
  omega

/-- What a report leaves waiting, where the queue has a place for an ALERT. -/
structure Loaded (s t : State) : Prop where
  load : t.load ≤ s.load
  waits : ∀ k, s.waits k = true → t.waits k = true

theorem Loaded.refl (s : State) : Loaded s s := ⟨le_rfl, fun _ => id⟩

theorem queueAfter_loaded {s t : State} (l : List AlertEntry) (queue : t.comms.link.queue = s.queueAfter l) :
    Loaded s t := by
  have moved (f : Waiting → Waiting) (same : ∀ w, (f w).kind = w.kind) (k : FrameKind) :
      (s.comms.link.queue.map f).any (fun w => w.kind == k) = s.waits k := by
    rw [List.any_map]
    unfold State.waits
    congr 1
    funext w
    simp only [Function.comp, same]
  unfold State.queueAfter at queue
  dsimp only at queue
  split at queue
  · refine ⟨?_, fun k h => ?_⟩
    · unfold State.load State.waits; rw [queue]
    · unfold State.waits; rw [queue]; exact h
  · split at queue
    · rename_i joins
      have new : s.waits .alert = false := by
        simpa using (Bool.and_eq_true_iff.mp joins).2
      refine ⟨?_, fun k h => ?_⟩
      · unfold State.load
        rw [new, queue, List.length_append, List.length_map]
        unfold State.waits
        rw [queue, List.any_append]
        simp
      · unfold State.waits
        rw [queue, List.any_append, moved _ (fun w => by split <;> rfl), h]
        rfl
    · refine ⟨?_, fun k h => ?_⟩
      · unfold State.load
        rw [queue, List.length_map, State.waits, queue, moved _ (fun w => by split <;> rfl)]
      · unfold State.waits
        rw [queue, moved _ (fun w => by split <;> rfl), h]

theorem ReportOnly.loaded {s t : State} (h : ReportOnly s t) (free : s.load ≤ 7) : Loaded s t :=
  queueAfter_loaded _ (h.2.2.2.2.2 (queueFree_of_load free)).1

theorem follow_loaded {s : State} (c : AlertCode) (b : Bool) (free : s.load ≤ 7) : Loaded s (s.follow c b) := by
  have h := follow_follows s c b
  unfold Follows Raised Ended at h
  split at h <;> split at h
  · rw [h]; exact .refl s
  · exact h.1.loaded free
  · exact h.1.loaded free
  · rw [h]; exact .refl s

theorem clear_loaded {s : State} (c : AlertCode) (free : s.load ≤ 7) : Loaded s (s.clear c) :=
  follow_loaded c false free

/-- A frame offered to a queue with a place: it waits, and one place more is taken. -/
theorem offered_loaded {s : State} (w : Waiting) (act : s.station.acting = true) (free : s.load ≤ 7) :
    State.load { s with comms := s.comms.offer s.station s.clock w } ≤ s.load + 1 ∧
      State.waits { s with comms := s.comms.offer s.station s.clock w } w.kind = true ∧
      ∀ j, s.waits j = true → State.waits { s with comms := s.comms.offer s.station s.clock w } j = true := by
  have queued : (s.comms.offer s.station s.clock w).link.queue =
      if coalescing w.kind && s.waits w.kind then s.comms.link.queue else s.comms.link.queue ++ [w] :=
    congrArg (·.comms.link.queue) (offered_queued w act (queueFree_of_load free))
  unfold State.load State.waits
  dsimp only
  rw [queued]
  split
  · rename_i waits
    exact ⟨Nat.le_succ _, (Bool.and_eq_true_iff.mp waits).2, fun _ => id⟩
  · refine ⟨?_, by simp, fun j h => by rw [List.any_append, h]; rfl⟩
    rw [List.any_append, List.length_append]
    cases s.comms.link.queue.any fun w => w.kind == .alert <;> simp
    split <;> omega

theorem offer_loaded {s : State} (k : FrameKind) (c : Fin 4) (act : s.station.acting = true) (free : s.load ≤ 7) :
    (s.offer k c).load ≤ s.load + 1 ∧ (s.offer k c).waits k = true ∧
      ∀ j, s.waits j = true → (s.offer k c).waits j = true :=
  offered_loaded ⟨k, c, s.clock, none⟩ act free

/-! ## The parts in any order -/

/-- The order that a control tick takes: the world's, where it names each part once. -/
def orderTaken (order : List TickPart) : List TickPart := if tickOrderOk order then order else chapterOrder

/-- An order that a control tick takes names each part once. -/
theorem orderTaken_perm (order : List TickPart) : chapterOrder.Perm (orderTaken order) := by
  unfold orderTaken
  split
  · rename_i ok
    simp only [tickOrderOk, Bool.and_eq_true, beq_iff_eq, List.contains_iff_mem] at ok
    obtain ⟨⟨⟨⟨⟨⟨length, decay⟩, thrust⟩, gear⟩, metering⟩, standby⟩, -⟩ := ok
    refine (List.subperm_of_subset (by decide) fun p _ => ?_).perm_of_length_le (le_of_eq length)
    cases p <;> assumption
  · exact .refl _

/-- One part apart: the order runs up to it and on from it without it. -/
theorem orderTaken_once (order : List TickPart) (p : TickPart) :
    ∃ before after, orderTaken order = before ++ p :: after ∧ p ∉ before ∧ p ∉ after := by
  have named : p ∈ chapterOrder := by cases p <;> decide
  obtain ⟨before, after, split⟩ := List.append_of_mem ((orderTaken_perm order).subset named)
  have once : (orderTaken order).Nodup := (orderTaken_perm order).nodup_iff.mp (by decide)
  rw [split, List.nodup_append] at once
  obtain ⟨-, onward, apart⟩ := once
  exact ⟨before, after, split, fun h => apart p h p List.mem_cons_self rfl, (List.nodup_cons.mp onward).1⟩

theorem tickParts_append (before after : List TickPart) :
    ∀ s : State, s.tickParts (before ++ after) = (s.tickParts before).tickParts after := by
  induction before with
  | nil => exact fun _ => rfl
  | cons p ps ih => exact fun s => ih _

/-- What each part of a list keeps, the list keeps. -/
theorem tickParts_keep {R : State → State → Prop} (refl : ∀ s, R s s) (trans : ∀ {s t u}, R s t → R t u → R s u) :
    ∀ (l : List TickPart), (∀ (s : State), ∀ p ∈ l, R s (s.tickPart p)) → ∀ s : State, R s (s.tickParts l)
  | [], _, s => refl s
  | p :: ps, h, s =>
    trans (h s p List.mem_cons_self) (tickParts_keep refl trans ps (fun s q m => h s q (List.mem_cons_of_mem p m)) _)

/-- The state at which a control tick takes its parts: the time passed, the tank selected, the next tick counted. -/
def State.tickStart (s : State) (dt : Micros) (tank : BitVec 2) : State :=
  let u := (s.advance dt).selectTank tank
  { u with demand := { u.demand with tick := nextInterval s.demand.tick } }

theorem tickStart_touches (s : State) (dt : Micros) (tank : BitVec 2) :
    OnlyTouches [.clock, .lines, .demand] s (s.tickStart dt tank) :=
  (advance_touches s dt).mono.trans ((selectTank_touches _ tank).mono.trans (demand_touches _ _).mono)

theorem exec_controlTick {s : State} {dt : Micros} (order : List TickPart) (tank : BitVec 2)
    (taking : s.station.taking = true) (timer : due s.demand.tick (s.later dt) = true) :
    exec (.controlTick dt order tank) s = .next ((s.tickStart dt tank).tickParts (orderTaken order)) := by
  have selected := selectTank_touches (s.advance dt) tank
  have demand : ((s.advance dt).selectTank tank).demand = s.demand := selected.demand (by decide)
  refine exec_eq rfl (Bool.and_eq_true_iff.mpr ⟨?_, ?_⟩) ?_
  · rw [selected.station (by decide)]; exact taking
  · rw [demand, selected.clock (by decide)]; exact timer
  · unfold State.tickStart orderTaken
    dsimp only
    simp only [demand]

/-! ## Metering (R115 to R118) -/

/-- What the other parts of a tick leave of what metering reads and writes. -/
structure BooksKept (s t : State) : Prop where
  role : t.role = s.role
  caps : t.caps = s.caps
  start : t.start = s.start
  lines : t.lines = s.lines
  acting : t.station.acting = s.station.acting
  taking : t.station.taking = s.station.taking
  meter : t.meter = { s.meter with interval := t.meter.interval }
  has : t.has .returnExceeds = s.has .returnExceeds

theorem BooksKept.refl (s : State) : BooksKept s s := ⟨rfl, rfl, rfl, rfl, rfl, rfl, rfl, rfl⟩

theorem BooksKept.trans {s t u : State} (h : BooksKept s t) (k : BooksKept t u) : BooksKept s u :=
  ⟨k.role.trans h.role, k.caps.trans h.caps, k.start.trans h.start, k.lines.trans h.lines, k.acting.trans h.acting,
    k.taking.trans h.taking, by rw [k.meter, h.meter], k.has.trans h.has⟩

theorem OnlyTouches.booksKept {s t : State} (h : OnlyTouches [.demand, .coup, .thrust, .gear, .gov, .outputs] s t) :
    BooksKept s t := by
  have station := h.station (by decide)
  have meter := h.meter (by decide)
  exact ⟨h.role (by decide), h.caps (by decide), h.start (by decide), h.lines (by decide), by rw [station],
    by rw [station], by rw [meter], h.has (by decide) _⟩

theorem offer_has (s : State) (k : FrameKind) (cls : Fin 4) {c : AlertCode} (h : c ≠ .txLoss) :
    (s.offer k cls).has c = s.has c := offered_has s _ h

theorem propStandby_booksKept {s : State} (act : s.station = .active) : BooksKept s s.propStandby := by
  have touches := propStandby_touches s
  refine ⟨touches.role (by decide), touches.caps (by decide), touches.start (by decide), touches.lines (by decide),
    by rw [act]; rfl, by rw [act]; rfl, rfl, ?_⟩
  unfold State.propStandby
  dsimp only
  rw [offer_has (c := .returnExceeds) _ _ _ nofun, offer_has (c := .returnExceeds) _ _ _ nofun]
  exact clear_has_ne s nofun nofun

theorem tickPart_booksKept (s : State) {p : TickPart} (h : p ≠ .metering) : BooksKept s (s.tickPart p) := by
  cases p with
  | decay => exact (decayTick_touches s).mono.booksKept
  | thrust => exact (whenever_touches s _ (thrustTick_touches s)).mono.booksKept
  | gear => exact (gearTick_touches s).mono.booksKept
  | metering => exact absurd rfl h
  | standbyTest =>
    show BooksKept s s.standbyTest
    unfold State.standbyTest State.whenever
    split
    · rename_i test
      simp only [Bool.and_eq_true, beq_iff_eq] at test
      obtain ⟨⟨⟨-, act⟩, -⟩, -⟩ := test
      exact propStandby_booksKept act
    · exact .refl s

/-- The meter after a tick that takes the running counts. -/
def State.metered (s : State) : MeterUnit :=
  s.meter.tick (s.caps.get 1).count (s.caps.get 2).count s.supplyFactor s.returnFactor s.tank

theorem BooksKept.metered {s t : State} (h : BooksKept s t) :
    t.metered = { s.metered with interval := t.meter.interval } := by
  have tank : t.tank = s.tank := by unfold State.tank State.line; rw [h.lines]
  have supply : t.supplyFactor = s.supplyFactor := by unfold State.supplyFactor; rw [h.start]
  have returned : t.returnFactor = s.returnFactor := by unfold State.returnFactor; rw [h.start]
  unfold State.metered
  rw [tank, supply, returned, h.caps, h.meter]
  rfl

theorem meterTick_meter {s : State} (prop : s.isProp = true) (taking : s.station.taking = true) :
    s.meterTick.meter = s.metered ∧
      (s.station.acting = true → s.meterTick.has .returnExceeds = s.metered.returnMark) := by
  unfold State.meterTick
  rw [whenever_pos (Bool.and_eq_true_iff.mpr ⟨prop, taking⟩)]
  refine ⟨?_, fun act => ?_⟩
  · exact (whenever_touches (ps := commsParts) _ _ (follow_touches _ _ _)).meter (by decide)
  · rw [whenever_pos (by exact act)]
    exact follow_has_self _ _ nofun

/-- Metering in a tick, whatever the order: the counts are taken once. -/
theorem tickParts_meter {s : State} (order : List TickPart) (prop : s.isProp = true) (taking : s.station.taking = true) :
    ∃ t, s.tickParts (orderTaken order) = t ∧ (∃ interval, t.meter = { s.metered with interval := interval }) ∧
      (s.station.acting = true → t.has .returnExceeds = s.metered.returnMark) := by
  obtain ⟨before, after, split, prior, later⟩ := orderTaken_once order .metering
  have keeps (l : List TickPart) (apart : TickPart.metering ∉ l) (u : State) : BooksKept u (u.tickParts l) :=
    tickParts_keep BooksKept.refl BooksKept.trans l (fun v p m => tickPart_booksKept v fun e => apart (e ▸ m)) u
  have first := keeps before prior s
  have second := keeps after later (s.tickParts before).meterTick
  obtain ⟨meter, has⟩ := meterTick_meter (s := s.tickParts before) (by unfold State.isProp; rw [first.role]; exact prop)
    (by rw [first.taking]; exact taking)
  refine ⟨_, rfl, ⟨((s.tickParts before).meterTick.tickParts after).meter.interval, ?_⟩, fun act => ?_⟩
  · rw [split, tickParts_append]
    exact second.meter.trans (by rw [meter, first.metered])
  · rw [split, tickParts_append]
    exact second.has.trans ((has (by rw [first.acting]; exact act)).trans (by rw [first.metered]))

theorem tickParts_meter_other {s : State} (l : List TickPart) (other : s.isProp = false) :
    (s.tickParts l).meter = s.meter := by
  refine (tickParts_keep (R := fun s t => s.isProp = false → t.isProp = false ∧ t.meter = s.meter)
    (fun _ h => ⟨h, rfl⟩) (fun h k o => ⟨(k (h o).1).1, (k (h o).1).2.trans (h o).2⟩) l (fun u p _ o => ?_) s other).2
  refine ⟨by unfold State.isProp; rw [(tickPart_touches u p).role (by decide)]; exact o, ?_⟩
  cases p with
  | decay => exact (decayTick_touches u).meter (by decide)
  | thrust => exact (whenever_touches u _ (thrustTick_touches u)).meter (by decide)
  | gear => exact (gearTick_touches u).meter (by decide)
  | metering =>
    have still : u.meterTick = u := whenever_neg (by rw [o]; rfl)
    exact congrArg State.meter still
  | standbyTest =>
    have still : u.standbyTest = u := whenever_neg (by rw [o]; rfl)
    exact congrArg State.meter still

/-- The series of the control tick runs on through the parts. -/
theorem tickParts_series (l : List TickPart) (s : State) : (s.tickParts l).demand.tick = s.demand.tick := by
  refine tickParts_keep (R := fun s t => t.demand.tick = s.demand.tick) (fun _ => rfl) (fun h k => k.trans h) l
    (fun u p _ => ?_) s
  cases p with
  | decay =>
    show (u.whenever _ _).demand.tick = _
    unfold State.whenever
    split
    · rw [(judgeWinch_touches _).demand (by decide)]
    · rfl
  | thrust => exact congrArg (·.tick) ((whenever_touches u _ (thrustTick_touches u)).demand (by decide))
  | gear => exact congrArg (·.tick) ((gearTick_touches u).demand (by decide))
  | metering => exact congrArg (·.tick) ((meterTick_touches u).demand (by decide))
  | standbyTest =>
    show (u.whenever _ _).demand.tick = _
    unfold State.whenever
    split <;> rfl

/-- What a tick books: the whole millilitres, unless the clamp takes the residue (R117, R118). -/
theorem carriedMl_clamp (r : Int) :
    (r < -1000000 → carriedMl (clampResidue r) = 0 ∧ clampResidue r - 1000 * carriedMl (clampResidue r) = -1000000) ∧
    (¬ r < -1000000 → carriedMl (clampResidue r) = (r / 1000).toNat ∧
      1000 * (carriedMl (clampResidue r) : Int) + (clampResidue r - 1000 * carriedMl (clampResidue r)) = r ∧
      -1000000 ≤ clampResidue r - 1000 * carriedMl (clampResidue r) ∧
      clampResidue r - 1000 * carriedMl (clampResidue r) < 1000) := by
  unfold clampResidue carriedMl
  constructor <;> intro low
  · simp [low]
  · rw [if_neg low]
    split <;> omega

theorem excessAfter_eq (mark : Bool) (r : Int) :
    excessAfter mark r = if r < -1000000 then true else if 0 ≤ r then false else mark := by
  unfold excessAfter clampResidue
  split
  · rfl
  · rfl

theorem twoLine_bits (v : BitVec 2) : twoLine (v.getLsbD 0) (v.getLsbD 1) = v.toNat := by
  revert v; decide

theorem selectTank_lines {s : State} (prop : s.isProp = true) (v : BitVec 2) :
    (s.selectTank v).line 3 = v.getLsbD 0 ∧ (s.selectTank v).line 4 = v.getLsbD 1 := by
  unfold State.selectTank
  rw [if_pos prop]
  exact ⟨(Tab.get_set_ne _ _ (by decide)).trans (Tab.get_set_self _ _ _), Tab.get_set_self _ _ _⟩

/-- Settles O39: the counts are taken once in whatever order, and what they bring is booked or stays in the residue. -/
theorem meteringBooksEveryEdge : Obligations.MeteringBooksEveryEdge := by
  intro s dt order tank taking timer supplied returned net clamps
  have start := tickStart_touches s dt tank
  have touches := tickParts_touches (orderTaken order) (s.tickStart dt tank)
  have lines : (s.tickStart dt tank).lines = ((s.advance dt).selectTank tank).lines := rfl
  refine ⟨_, exec_controlTick order tank taking timer, ?_, fun other => ?_, fun prop => ?_⟩
  · exact tickParts_series _ _
  · have other' : (s.tickStart dt tank).isProp = false := by unfold State.isProp; rw [start.role (by decide)]; exact other
    refine ⟨(tickParts_meter_other _ other').trans (start.meter (by decide)), ?_⟩
    rw [touches.lines (by decide), lines]
    unfold State.selectTank
    rw [if_neg (by rw [isProp_advance, other]; nofun)]
    rfl
  · have prop' : (s.tickStart dt tank).isProp = true := by unfold State.isProp; rw [start.role (by decide)]; exact prop
    obtain ⟨line3, line4⟩ := selectTank_lines (s := s.advance dt) prop tank
    have selected : twoLine ((s.tickStart dt tank).line 3) ((s.tickStart dt tank).line 4) = tank.toNat := by
      unfold State.line at line3 line4 ⊢
      rw [lines, line3, line4, twoLine_bits]
    obtain ⟨t, ran, ⟨interval, meter⟩, has⟩ := tickParts_meter order prop' (by rw [start.station (by decide)]; exact taking)
    rw [ran] at touches ⊢
    have metered : (s.tickStart dt tank).metered = s.meter.tick (s.caps.get 1).count (s.caps.get 2).count s.supplyFactor
        s.returnFactor (Fin.ofNat 4 tank.toNat) := by
      unfold State.metered State.tank State.supplyFactor State.returnFactor
      rw [selected, start.meter (by decide), start.caps (by decide), start.start (by decide)]
    have added : s.meter.residue + netVolume ((s.caps.get 1).count - s.meter.supplySnap).toNat
        ((s.caps.get 2).count - s.meter.returnSnap).toNat s.supplyFactor s.returnFactor = s.meter.residue + net := rfl
    rw [metered] at meter has
    obtain ⟨clamped, carried⟩ := carriedMl_clamp (s.meter.residue + net)
    rw [meter]
    refine ⟨?_, rfl, rfl, rfl, ⟨carriedMl (clampResidue (s.meter.residue + net)), fun k => ?_, clamped, carried⟩, ?_,
      fun act => ?_, rfl, rfl, rfl⟩
    · unfold State.line
      rw [touches.lines (by decide)]
      exact selected
    · have place : (Fin.ofNat 4 tank.toNat).val = tank.toNat := Nat.mod_eq_of_lt tank.isLt
      split
      · rename_i taken
        rw [Fin.ext (taken.trans place.symm)]
        exact Tab.get_set_self _ _ _
      · rename_i apart
        exact Tab.get_set_ne _ _ fun e => apart ((congrArg Fin.val e).trans place)
    · exact excessAfter_eq _ _
    · exact (has (by rw [start.station (by decide)]; exact act))

end Sys2Proof.Machine
end

section
/-! SUPPORT. What the control tick does to the demand record, to X and the duty (O40), and to the gear and the standby
entry (O42). -/

namespace Sys2Proof.Machine

-- As in Laws/Touches.lean: one theorem at a time.
set_option Elab.async false

/-! ## The decay of the record (R22) -/

/-- The record after a decay step. -/
def State.decayedRecord (s : State) : DemandRecord :=
  let d := s.demand.record.demand
  if s.station.timing && s.demand.record.state == .decaying then
    { s.demand.record with demand := { d with thrust := decayStep d.thrust, turn := decayStep d.turn } }
  else s.demand.record

theorem decayTick_record (s : State) : s.decayTick.demand.record = s.decayedRecord := by
  unfold State.decayTick State.decayedRecord State.whenever
  dsimp only
  split
  · rw [(judgeWinch_touches _).demand (by decide)]
  · rfl

/-- Nothing takes the station to STANDBY at the tick's test. -/
def State.StaysUp (s : State) : Prop := s.isProp = false ∨ s.start.request = false

theorem standbyTest_still {s : State} (h : s.StaysUp) : s.standbyTest = s :=
  whenever_neg (by cases h with
    | inl h => rw [h]; rfl
    | inr h => rw [h, Bool.and_false]; rfl)

/-- The parts but the decay leave the record, where none takes the station to STANDBY. -/
theorem tickPart_record {s : State} {p : TickPart} (n : p ≠ .decay) (h : s.StaysUp) :
    (s.tickPart p).demand.record = s.demand.record ∧ (s.tickPart p).station = s.station := by
  cases p with
  | decay => exact absurd rfl n
  | thrust =>
    have touches := whenever_touches s (s.isProp && s.station == .active) (thrustTick_touches s)
    exact ⟨congrArg (·.record) (touches.demand (by decide)), touches.station (by decide)⟩
  | gear => exact ⟨congrArg (·.record) ((gearTick_touches s).demand (by decide)), (gearTick_touches s).station (by decide)⟩
  | metering => exact ⟨congrArg (·.record) ((meterTick_touches s).demand (by decide)), (meterTick_touches s).station (by decide)⟩
  | standbyTest =>
    have still : s.tickPart .standbyTest = s := standbyTest_still h
    rw [still]
    exact ⟨rfl, rfl⟩

theorem OnlyTouches.staysUp {ps : List Part} {s t : State} (touches : OnlyTouches ps s t)
    (role : Part.role ∉ ps := by decide) (start : Part.start ∉ ps := by decide) (h : s.StaysUp) : t.StaysUp := by
  unfold State.StaysUp State.isProp at *
  rw [touches.role role, touches.start start]
  exact h

theorem tickParts_record_apart (l : List TickPart) (apart : TickPart.decay ∉ l) {s : State} (h : s.StaysUp) :
    (s.tickParts l).demand.record = s.demand.record ∧ (s.tickParts l).station = s.station := by
  refine (tickParts_keep (R := fun s t => s.StaysUp → t.StaysUp ∧ t.demand.record = s.demand.record ∧ t.station = s.station)
    (fun _ h => ⟨h, rfl, rfl⟩) (fun h k o => ?_) l (fun u p m o => ?_) s h).2
  · obtain ⟨up, record, station⟩ := h o
    obtain ⟨up', record', station'⟩ := k up
    exact ⟨up', record'.trans record, station'.trans station⟩
  · exact ⟨(tickPart_touches u p).staysUp (h := o), tickPart_record (fun e => apart (e ▸ m)) o⟩

/-- One decay step in a tick, whatever the order. -/
theorem tickParts_record (order : List TickPart) {s : State} (h : s.StaysUp) :
    (s.tickParts (orderTaken order)).demand.record = s.decayedRecord := by
  obtain ⟨before, after, split, prior, later⟩ := orderTaken_once order .decay
  rw [split, tickParts_append]
  obtain ⟨record, station⟩ := tickParts_record_apart before prior h
  have up := (tickParts_touches before s).staysUp (h := h)
  have up' := (tickPart_touches (s.tickParts before) .decay).staysUp (h := up)
  refine ((tickParts_record_apart after later up').1.trans (decayTick_record _)).trans ?_
  unfold State.decayedRecord
  rw [record, station]

/-! ## The evaluation and the ramp (R39 to R47) -/

theorem desiredValue_eq (g : GearState) (stop : Bool) (target : Int) : desiredValue g stop target =
    if g = .ahead ∧ stop = false ∧ 0 < target ∨ g = .astern ∧ stop = false ∧ target < 0 then target else 0 := by
  unfold desiredValue
  split <;> simp
  rename_i ahead astern
  rintro (⟨rfl, rfl, -⟩ | ⟨rfl, rfl, -⟩)
  · exact absurd rfl (ahead rfl)
  · exact absurd rfl (astern rfl)

theorem rampToward_self (x : Int) (step : Nat) : rampToward x x step = x := by
  unfold rampToward
  rw [if_pos (by simp)]

/-! ## The duty set (R48, R49) -/

/-- A duty set from another: nothing follows where it is the same; a changed one gives the expected speed and is written
to the inactive bank of OUT0. -/
structure Driven (d : Nat) (s t : State) : Prop where
  duty : t.thrust.duty = d
  expected : t.thrust.expected = if d = s.thrust.duty then s.thrust.expected else s.expectedAt d
  outputs : t.outputs = if d = s.thrust.duty then s.outputs else (s.writeDuty 0 d).outputs
  station : t.station = s.station
  start : t.start = s.start

theorem Driven.same {s t : State} (thrust : t.thrust = s.thrust) (outputs : t.outputs = s.outputs)
    (station : t.station = s.station) (start : t.start = s.start) : Driven s.thrust.duty s t :=
  ⟨by rw [thrust], by rw [thrust, if_pos rfl], by rw [outputs, if_pos rfl], station, start⟩

theorem setDrive_driven (s : State) (x : Int) (g : GearState) : Driven (s.setDrive x g).thrust.duty s (s.setDrive x g) := by
  refine ⟨rfl, ?_, setDrive_outputs s x g, rfl, rfl⟩
  rw [setDrive_duty]
  unfold State.setDrive
  dsimp only
  simp only [beq_iff_eq]

/-- A duty set in two steps, of which at most one moves it. -/
theorem Driven.trans {d e : Nat} {s t u : State} (h : Driven d s t) (k : Driven e t u)
    (once : d = s.thrust.duty ∨ e = d) : Driven e s u := by
  have expected : ∀ n, t.expectedAt n = s.expectedAt n := fun n => by
    unfold State.expectedAt State.param; rw [h.start]
  refine ⟨k.duty, ?_, ?_, k.station.trans h.station, k.start.trans h.start⟩
  · rw [k.expected, h.duty]
    rcases once with once | once <;> subst once
    · rw [h.expected, if_pos rfl, expected]
    · rw [if_pos rfl, h.expected]
  · rw [k.outputs, h.duty]
    rcases once with once | once <;> subst once
    · have same : t.outputs = s.outputs := h.outputs.trans (if_pos rfl)
      unfold State.writeDuty
      rw [same, h.station]
    · rw [if_pos rfl, h.outputs]

theorem not_engaged {g : GearState} (off : engaged g = false) : g ≠ .ahead ∧ g ≠ .astern :=
  ⟨fun e => Bool.noConfusion (e ▸ off : engaged .ahead = false), fun e => Bool.noConfusion (e ▸ off : engaged .astern = false)⟩

theorem engaged_iff (g : GearState) : engaged g = true ↔ g = .ahead ∨ g = .astern := by
  cases g <;> simp [engaged]

/-- The gear entering a state that does not drive, with X at 0 or from another such state: the duty is 0, X stands. -/
theorem enterGear_driven {s : State} {g : GearState} (idle : s.thrust.x = 0 ∨ engaged s.gear.state = false)
    (off : engaged g = false) (moves : g ≠ s.gear.state) (was : s.gear.state ≠ .gearFault) (now : g ≠ .gearFault) :
    Driven 0 s (s.enterGear g) ∧ (s.enterGear g).thrust =
      { s.thrust with duty := 0, expected := (s.enterGear g).thrust.expected } := by
  let u : State := { s with gear := s.gear.entry s.clock (ms (s.param Param.neutralDwell)) g }
  have entered : s.enterGear g = u.setDrive s.thrust.x g := by
    have x : (if engaged s.gear.state && !engaged g then 0 else s.thrust.x) = s.thrust.x := by
      rcases idle with idle | idle <;> simp [idle]
    show (if (s.gear.state == .gearFault) == (g == .gearFault) then _ else _) = _
    rw [if_pos (by simp [was, now])]
    exact congrArg (fun x => u.setDrive x g) x
  have zero : (u.setDrive s.thrust.x g).thrust.duty = 0 := by
    rw [setDrive_duty, if_neg (fun h => moves h.2)]
    exact dutyOf_idle (.inl (not_engaged off))
  have driven := setDrive_driven u s.thrust.x g
  rw [zero] at driven
  rw [entered]
  refine ⟨⟨driven.duty, driven.expected, driven.outputs, driven.station, driven.start⟩, ?_⟩
  rw [← zero]
  rfl

theorem disengage_driven {s : State} (on : engaged s.gear.state = true) (still : s.thrust.x = 0) :
    Driven 0 s s.disengage ∧ s.disengage.thrust =
      { s.thrust with duty := 0, expected := s.disengage.thrust.expected } := by
  have was : s.gear.state ≠ .gearFault := fun e => by rw [e] at on; cases on
  have moves : GearState.disengaging ≠ s.gear.state := fun e => by rw [← e] at on; cases on
  obtain ⟨first, thrust⟩ := enterGear_driven (.inl still) (g := .disengaging) rfl moves was nofun
  have entered : (s.enterGear .disengaging).gear.state = .disengaging := congrArg (·.state) (enterGear_gear s _)
  unfold State.disengage
  split
  · obtain ⟨second, thrust'⟩ := enterGear_driven (s := s.enterGear .disengaging) (g := .dwell) (.inr (by rw [entered]; rfl)) rfl
      (by rw [entered]; nofun) (by rw [entered]; nofun) nofun
    exact ⟨first.trans second (.inr rfl), thrust'.trans (by rw [thrust])⟩
  · exact ⟨first, thrust⟩

/-- What a release cause rests on (R64). -/
theorem releaseCause_iff (s : State) : s.releaseCause = true ↔ s.thrust.x = 0 ∧
    (s.station = .active ∧ targetOpposes s.gear.state s.thrust.lastTarget = true ∨
      s.demand.record.demand.stopAll = true ∨ s.station = .standby) := by
  simp only [State.releaseCause, Bool.and_eq_true, Bool.or_eq_true, beq_iff_eq, or_assoc]

/-- What the sequencer's action leaves of the drive. -/
inductive GearDrives (s t : State) : Prop
  | still (thrust : t.thrust = s.thrust) (outputs : t.outputs = s.outputs)
  | stops (idle : s.gear.state = .neutral ∨ s.thrust.x = 0) (driven : Driven 0 s t)
      (thrust : t.thrust = { s.thrust with duty := 0, expected := t.thrust.expected })

theorem GearDrives.ite {s t u : State} {c : Prop} [Decidable c] (h : c → GearDrives s t) (k : ¬ c → GearDrives s u) :
    GearDrives s (if c then t else u) := by
  split
  · exact h ‹_›
  · exact k ‹_›

theorem beginRelease_drives {s : State} (on : engaged s.gear.state = true) (cause : s.releaseCause = true) :
    GearDrives s s.beginRelease := by
  have still := ((releaseCause_iff s).mp cause).1
  obtain ⟨driven, thrust⟩ := disengage_driven on still
  exact .ite (fun _ => .still rfl rfl) fun _ => .ite (fun _ => .stops (.inr still) driven thrust) fun _ => .still rfl rfl

/-- The action in AHEAD or ASTERN, by the release (R64, R65). -/
def State.engagedAction (s : State) : State :=
  match s.gear.release with
  | .none => if s.releaseCause then s.beginRelease else s
  | .speedWait => if !s.releaseCause then s.abandonRelease else if s.speedPasses then s.disengage else s
  | .timedWait => if s.releaseCause then s else s.abandonRelease

theorem gearAction_engaged {s : State} (on : engaged s.gear.state = true) : s.gearAction = s.engagedAction := by
  unfold State.gearAction State.engagedAction
  rcases (engaged_iff _).mp on with gear | gear <;> rw [gear] <;> cases s.gear.release <;> rfl

theorem engagedAction_drives {s : State} (on : engaged s.gear.state = true) : GearDrives s s.engagedAction := by
  unfold State.engagedAction
  split
  · exact .ite (fun cause => beginRelease_drives on cause) fun _ => .still rfl rfl
  · refine .ite (fun _ => .still rfl rfl) fun cause => .ite (fun _ => ?_) fun _ => .still rfl rfl
    have still := ((releaseCause_iff s).mp (by simpa using cause)).1
    obtain ⟨driven, thrust⟩ := disengage_driven on still
    exact .stops (.inr still) driven thrust
  · exact .ite (fun _ => .still rfl rfl) fun _ => .still rfl rfl

theorem engagingFor_idle (target : Int) : engaged (engagingFor target) = false ∧ engagingFor target ≠ .gearFault ∧
    engagingFor target ≠ .neutral := by
  rcases engagingFor_eq_or target with e | e <;> rw [e] <;> exact ⟨rfl, nofun, nofun⟩

theorem gearAction_drives (s : State) : GearDrives s s.gearAction := by
  by_cases on : engaged s.gear.state = true
  · rw [gearAction_engaged on]
    exact engagedAction_drives on
  · have off : engaged s.gear.state = false := Bool.eq_false_iff.mpr on
    obtain ⟨ahead, astern⟩ := not_engaged off
    unfold State.gearAction
    split
    · rename_i neutral
      refine .ite (fun _ => ?_) fun _ => .still rfl rfl
      obtain ⟨idle, fault, moves⟩ := engagingFor_idle s.thrust.lastTarget
      obtain ⟨driven, thrust⟩ := enterGear_driven (s := s) (.inr off) idle (by rw [neutral]; exact moves)
        (by rw [neutral]; nofun) fault
      exact .stops (.inl neutral) driven thrust
    · exact absurd ‹_› ahead
    · exact absurd ‹_› astern
    all_goals exact .still rfl rfl

theorem gearTick_drives (s : State) : GearDrives s s.gearTick := by
  unfold State.gearTick State.whenever
  exact .ite (fun _ => gearAction_drives s) fun _ => .still rfl rfl

/-! ## The tick in the order of the chapters -/

/-- The state at which the gear takes its part of a tick: the thrust unit's has been taken. -/
def State.ramped (s : State) (dt : Micros) (tank : BitVec 2) : State := (s.tickStart dt tank).thrustTick

theorem chapterTick {s : State} {dt : Micros} (tank : BitVec 2) (prop : s.isProp = true) (act : s.station = .active)
    (timer : due s.demand.tick (s.later dt) = true) (kept : s.demand.record.state ≠ .decaying) :
    exec (.controlTick dt [.decay, .thrust, .gear, .metering, .standbyTest] tank) s =
      .next (s.ramped dt tank).gearTick.meterTick.standbyTest := by
  have start := tickStart_touches s dt tank
  rw [exec_controlTick _ tank (by rw [act]; rfl) timer]
  have undecayed : (s.tickStart dt tank).tickPart .decay = s.tickStart dt tank := by
    show (s.tickStart dt tank).decayTick = _
    refine whenever_neg ?_
    have record : (s.tickStart dt tank).demand.record = s.demand.record := by
      show ((s.advance dt).selectTank tank).demand.record = _
      rw [(selectTank_touches _ tank).demand (by decide)]
      rfl
    rw [record, beq_eq_false_iff_ne.mpr kept, Bool.and_false]
  have ramps : (s.tickStart dt tank).tickPart .thrust = s.ramped dt tank := by
    show (s.tickStart dt tank).whenever _ _ = _
    refine whenever_pos ?_
    unfold State.isProp at prop ⊢
    rw [start.role (by decide), start.station (by decide), prop, act]
    rfl
  show Host.Outcome.next (State.tickPart (State.tickPart (State.tickPart (State.tickPart
    ((s.tickStart dt tank).tickPart .decay) .thrust) .gear) .metering) .standbyTest) = _
  rw [undecayed, ramps]
  rfl

/-- Selecting the tank and counting the tick leave what the evaluation reads. -/
theorem tickStart_eq {s : State} {dt : Micros} (tank : BitVec 2) : ∃ lines, s.tickStart dt tank =
    { s.advance dt with lines := lines, demand := { s.demand with tick := nextInterval s.demand.tick } } := by
  unfold State.tickStart State.selectTank
  dsimp only
  split
  · exact ⟨_, rfl⟩
  · exact ⟨_, rfl⟩

/-- The ramp's X (R46, R47). -/
def State.rampedX (s : State) (target : Int) : Int :=
  rampToward s.thrust.x (desiredValue s.gear.state s.demand.record.demand.stopAll target)
    (rampStep (s.param Param.rampRate) s.thrust.strain s.demand.record.demand.stopAll)

theorem ramped_eq (s : State) (dt : Micros) (tank : BitVec 2) : ∃ lines, s.ramped dt tank = State.setX
    { s.advance dt with lines := lines, demand := { s.demand with tick := nextInterval s.demand.tick },
                        thrust := { s.thrust with lastTarget := (s.advance dt).target } }
    (s.rampedX (s.advance dt).target) := by
  obtain ⟨lines, start⟩ := tickStart_eq (s := s) (dt := dt) tank
  refine ⟨lines, ?_⟩
  unfold State.ramped
  rw [start]
  rfl

/-- What the thrust unit's part of a tick leaves. -/
structure Ramps (s : State) (dt : Micros) (t : State) : Prop where
  thrust : t.thrust = { s.thrust with
    lastTarget := (s.advance dt).target, x := s.rampedX (s.advance dt).target, duty := t.thrust.duty,
    expected := t.thrust.expected }
  driven : Driven t.thrust.duty s t
  duty : t.thrust.duty = if s.rampedX (s.advance dt).target = s.thrust.x then s.thrust.duty
    else dutyOf s.gear.state (s.rampedX (s.advance dt).target) (s.param Param.ratedThrust)
  gear : t.gear = s.gear
  clock : t.clock = s.later dt
  role : t.role = s.role
  comms : t.comms = s.comms
  record : t.demand.record = s.demand.record
  rpm : t.gov.rpm = s.gov.rpm
  pins : ∀ i : Fin 16, i ≠ 3 → i ≠ 4 → t.line i = s.line i

theorem setDrive_rpm (s : State) (x : Int) (g : GearState) : (s.setDrive x g).gov.rpm = s.gov.rpm := by
  have kept (b : Bool) (d : Nat) : (if b then s.gov else s.govAfterDuty d).rpm = s.gov.rpm := by cases b <;> rfl
  exact kept _ _

theorem ramped_ramps (s : State) (dt : Micros) (tank : BitVec 2) : Ramps s dt (s.ramped dt tank) := by
  have pins : ∀ i : Fin 16, i ≠ 3 → i ≠ 4 → (s.ramped dt tank).line i = s.line i := fun i n m => by
    have lines : (s.ramped dt tank).lines = ((s.advance dt).selectTank tank).lines := rfl
    unfold State.line
    rw [lines]
    unfold State.selectTank
    split
    · exact (Tab.get_set_ne _ _ m).trans (Tab.get_set_ne _ _ n)
    · rfl
  obtain ⟨lines, ramped⟩ := ramped_eq s dt tank
  rw [ramped] at pins ⊢
  refine ⟨rfl, ?_, ?_, rfl, rfl, rfl, rfl, rfl, ?_, pins⟩
  · obtain ⟨duty, expected, outputs, station, start⟩ := setDrive_driven
      { s.advance dt with lines := lines, demand := { s.demand with tick := nextInterval s.demand.tick },
                          thrust := { s.thrust with lastTarget := (s.advance dt).target } }
      (s.rampedX (s.advance dt).target) s.gear.state
    exact ⟨duty, expected, outputs, station, start⟩
  · unfold State.setX
    rw [setDrive_duty]
    simp only [and_true]
    rfl
  · exact setDrive_rpm _ _ _

/-- The target in the terms of R39 to R45. -/
theorem target_eq (s : State) : s.target = (
    let d := s.demand.record.demand
    let request := Int.tdiv ((if d.stopAll then 0 else d.thrust) * s.rating) 1000
    let scaled := Int.tdiv (request * s.thrust.strain) 1000
    let a := s.thrust.ahead
    let b := s.thrust.astern
    let share : Int :=
      if 0 ≤ scaled then (if s.sumAhead = 0 then 0 else min a (scaled.natAbs * a / s.sumAhead))
      else (if s.sumAstern = 0 then 0 else -(min b (scaled.natAbs * b / s.sumAstern) : Nat))
    let delta : Int := Int.sign d.turn * (d.turn.natAbs * s.param Param.turnAuthority * s.param Param.ratedThrust
      / 1000000 : Nat) * (if s.side = .port then 1 else if s.side = .starboard then -1 else 0)
    let untrimmed := Int.tdiv (share * s.thrust.trim) 1000 + delta
    if untrimmed < -(b : Int) then -(b : Int) else if (a : Int) < untrimmed then a else untrimmed) := by
  have side : (if s.side = .port then 1 else if s.side = .starboard then -1 else 0 : Int) = sideSign s.side := by
    cases s.side <;> rfl
  unfold State.target State.targetWith strainScaled convoyRequest State.demandD shareOf aheadShare asternShare
    economicShare turnDifferential clampInt
  rw [side]
  simp only [Nat.cast_min, Nat.cast_mul, Int.natCast_ediv]

/-- The duty written to OUT0 in ACTIVE and STANDBY, its inactive bank alone (R176, R177). -/
theorem writeDuty_out0 {s : State} (act : s.station.acting = true) (d : Nat) :
    (s.writeDuty 0 d).outputs.periods = s.outputs.periods ∧
    ((s.writeDuty 0 d).outputs.outs.get 0).pending = true ∧ ((s.writeDuty 0 d).outputs.outs.get 0).next = d ∧
    ((s.writeDuty 0 d).outputs.outs.get 0).inControl = (s.outputs.outs.get 0).inControl ∧
    ((s.writeDuty 0 d).outputs.outs.get 0).driving = (s.outputs.outs.get 0).driving ∧
    ∀ i, i ≠ 0 → (s.writeDuty 0 d).outputs.outs.get i = s.outputs.outs.get i := by
  refine ⟨?_, ?_, writeDuty_same act 0 d, ?_, ?_, fun i n => writeDuty_other s n d⟩
  all_goals
    unfold State.writeDuty
    dsimp only
    rw [if_neg (by rw [not_safe_of_acting act]; nofun)]
  all_goals
    rw [Tab.get_set_self]
    unfold Pwm.write
    split <;> simp_all

/-- What a control tick leaves of the drive, in the order of the chapters. -/
structure Ticked (s : State) (dt : Micros) (t : State) : Prop where
  thrust : t.thrust = { s.thrust with
    lastTarget := (s.advance dt).target, x := s.rampedX (s.advance dt).target, duty := t.thrust.duty,
    expected := t.thrust.expected }
  driven : Driven t.thrust.duty s t
  moved : s.rampedX (s.advance dt).target ≠ s.thrust.x →
    t.thrust.duty = dutyOf s.gear.state (s.rampedX (s.advance dt).target) (s.param Param.ratedThrust)
  still : ThrustInv s → s.isProp = true → s.rampedX (s.advance dt).target = s.thrust.x →
    t.thrust.duty = s.thrust.duty

theorem Ramps.gearTick {s t : State} {dt : Micros} (h : Ramps s dt t) : Ticked s dt t.gearTick := by
  have start : t.gearTick.start = t.start := (gearTick_touches t).start (by decide)
  have station : t.gearTick.station = t.station := (gearTick_touches t).station (by decide)
  cases gearTick_drives t with
  | still thrust outputs =>
    obtain ⟨duty, expected, outputs', station', start'⟩ := h.driven
    refine ⟨?_, ⟨rfl, ?_, ?_, station.trans station', start.trans start'⟩, fun n => ?_, fun _ _ e => ?_⟩
    · rw [thrust]; exact h.thrust
    · rw [thrust]; exact expected
    · rw [thrust, outputs]; exact outputs'
    · rw [thrust, h.duty, if_neg n]
    · rw [thrust, h.duty, if_pos e]
  | stops idle driven thrust =>
    have x : t.thrust.x = s.rampedX (s.advance dt).target := by rw [h.thrust]
    have zero : dutyOf s.gear.state (s.rampedX (s.advance dt).target) (s.param Param.ratedThrust) = 0 := by
      refine dutyOf_idle ?_
      rw [← x, ← h.gear]
      exact idle.imp (fun e => by rw [e]; exact ⟨nofun, nofun⟩) id
    have once : t.thrust.duty = s.thrust.duty ∨ 0 = t.thrust.duty := by
      rw [h.duty, zero]
      split
      · exact .inl rfl
      · exact .inr rfl
    have composed := h.driven.trans driven once
    refine ⟨?_, by rw [driven.duty]; exact composed, fun _ => by rw [driven.duty, zero], fun inv prop e => ?_⟩
    · rw [thrust, h.thrust]
    · rw [driven.duty]
      have bounds := (thrustInv_iff s).mp inv prop
      refine (bounds.idle ?_).symm
      rcases idle with neutral | stopped
      · exact (inv.atRest prop (by rw [← h.gear, neutral]; rfl)).1
      · rw [← e, ← x, stopped]

/-- Settles O40: one decay step in any order; in the chapters' order the ramp comes before the gear, which can only
stop a drive already at 0. -/
theorem tickDecaysAndRamps : Obligations.TickDecaysAndRamps := by
  refine ⟨fun s dt order tank taking timer => ?_, fun s dt tank prop act timer kept awake => ?_⟩
  · intro nearer d
    have start := tickStart_touches s dt tank
    have touches := tickParts_touches (orderTaken order) (s.tickStart dt tank)
    have record : (s.tickStart dt tank).demand.record = s.demand.record := by
      obtain ⟨lines, e⟩ := tickStart_eq (s := s) (dt := dt) tank
      rw [e]
    refine ⟨_, exec_controlTick order tank taking timer, ?_, fun up => ?_, ?_, start.mono.trans touches.mono⟩
    · obtain ⟨lines, e⟩ := tickStart_eq (s := s) (dt := dt) tank
      rw [touches.clock (by decide), e]
      rfl
    · have up' : (s.tickStart dt tank).StaysUp := start.staysUp (h := up)
      rw [tickParts_record order up']
      unfold State.decayedRecord
      rw [record, start.station (by decide)]
      simp only [Bool.and_eq_true, beq_iff_eq]
      rfl
    · refine Eq.trans (tickParts_keepsView (orderTaken order) (s.tickStart dt tank)) ?_
      obtain ⟨lines, e⟩ := tickStart_eq (s := s) (dt := dt) tank
      rw [e]
  · intro u d request scaled a b share delta untrimmed target wanted base halved step
    let v := (s.ramped dt tank).gearTick
    obtain ⟨thrust, ⟨-, expected, outputs, station, start⟩, moved, still⟩ := (ramped_ramps s dt tank).gearTick
    have metered := meterTick_touches v
    have asleep : v.meterTick.standbyTest = v.meterTick := by
      refine standbyTest_still (.inr ?_)
      rw [metered.start (by decide), start]
      exact awake
    have aims : (s.advance dt).target = target := target_eq (s.advance dt)
    have steps : rampStep (s.param Param.rampRate) s.thrust.strain d.stopAll = step := by
      show (if _ then halved * 4 else halved) = if _ then 4 * halved else halved
      rw [Nat.mul_comm]
    have x : s.rampedX (s.advance dt).target = if (wanted - s.thrust.x).natAbs ≤ step then wanted
        else if s.thrust.x < wanted then s.thrust.x + step else s.thrust.x - step := by
      show rampToward s.thrust.x (desiredValue _ d.stopAll _) (rampStep _ _ d.stopAll) = _
      rw [steps, aims, desiredValue_eq]
      rfl
    have kept' : v.meterTick.thrust = v.thrust := metered.thrust (by decide)
    rw [x, aims] at thrust
    rw [x] at moved still
    refine ⟨_, by rw [chapterTick tank prop act timer kept, asleep], ?_⟩
    rw [kept', metered.outputs (by decide)]
    have xs : v.thrust.x = _ := congrArg (·.x) thrust
    refine ⟨by rw [thrust], xs, fun n => ?_, fun inv e => ?_, fun n => ?_, fun e => ?_, by rw [thrust], by rw [thrust],
      by rw [thrust], by rw [thrust]⟩
    · rw [xs] at n ⊢
      exact moved n
    · rw [xs] at e
      exact still inv prop e
    · rw [outputs, if_neg n]
      exact ⟨expected.trans (if_neg n), writeDuty_out0 (by rw [act]; rfl) _⟩
    · exact ⟨expected.trans (if_pos e), outputs.trans (if_pos e)⟩

/-! ## The gear at a tick (R62, R64, R65, R71) -/

theorem ramped_atRest {s t : State} {dt : Micros} (h : Ramps s dt t) (still : s.thrust.x = 0) (duty : s.thrust.duty = 0)
    (held : s.rampedX (s.advance dt).target = 0) : AtRest t := by
  refine ⟨by rw [h.thrust]; exact held, ?_⟩
  rw [h.duty, held, still, if_pos rfl, duty]

/-- X stays at 0 where nothing is desired. -/
theorem rampedX_idle {s : State} {target : Int} (still : s.thrust.x = 0)
    (h : desiredValue s.gear.state s.demand.record.demand.stopAll target = 0) : s.rampedX target = 0 := by
  unfold State.rampedX
  rw [h, still, rampToward_self]

theorem targetOpposes_iff (g : GearState) (target : Int) :
    targetOpposes g target = true ↔ g = .ahead ∧ target < 0 ∨ g = .astern ∧ 0 < target := by
  cases g <;> simp [targetOpposes]

/-- The action where the release has no cause (R64). -/
theorem engagedAction_idle {s : State} (h : s.releaseCause = false) : s.engagedAction.gear = { s.gear with
    release := .none, releaseTimer := if s.gear.release = .none then s.gear.releaseTimer else none } := by
  cases release : s.gear.release <;> simp [State.engagedAction, release, h, State.abandonRelease]
  rw [← release]

theorem standbyTest_drive (s : State) :
    s.standbyTest.thrust.x = s.thrust.x ∧ s.standbyTest.thrust.duty = s.thrust.duty := by
  unfold State.standbyTest State.whenever
  split <;> exact ⟨rfl, rfl⟩

theorem Loaded.of_comms {s t : State} (h : t.comms = s.comms) : Loaded s t := by
  refine ⟨?_, fun k => ?_⟩
  · unfold State.load State.waits; rw [h]
  · unfold State.waits; rw [h]; exact id

theorem Loaded.trans {s t u : State} (h : Loaded s t) (k : Loaded t u) : Loaded s u :=
  ⟨k.load.trans h.load, fun c w => k.waits c (h.waits c w)⟩

theorem meterTick_loaded {s : State} (free : s.load ≤ 7) : Loaded s s.meterTick := by
  unfold State.meterTick State.whenever
  split
  · dsimp only
    split
    · refine Loaded.trans (t := { s with meter := s.metered }) (.of_comms rfl) ?_
      exact follow_loaded (s := { s with meter := s.metered }) .returnExceeds s.metered.returnMark free
    · exact .of_comms rfl
  · exact .of_comms rfl

/-- Entry to STANDBY with places in the queue: both reports wait (R195). -/
theorem propStandby_waits {s : State} (free : s.load ≤ 6) :
    s.propStandby.waits .propState = true ∧ s.propStandby.waits .fuel = true := by
  have cleared := (clear_loaded .engineNotReady (Nat.le_succ_of_le free)).load
  let u : State := { s.clear .engineNotReady with
    station := .standby, demand := (s.clear .engineNotReady).demand.pause,
    thrust := { (s.clear .engineNotReady).thrust with lastTarget := 0, economy := none, stateSeries := none },
    meter := { (s.clear .engineNotReady).meter with interval := none } }
  have room : u.load ≤ 6 := cleared.trans free
  obtain ⟨load, state, -⟩ := offer_loaded (s := u) .propState 2 rfl (room.trans (by decide))
  obtain ⟨-, fuel, keeps⟩ := offer_loaded (s := u.offer .propState 2) .fuel 3 rfl (load.trans (Nat.succ_le_succ room))
  exact ⟨keeps _ state, fuel⟩

/-- Settles O42: the gear acts on the target of this very tick, with X at rest wherever it lets go. -/
theorem tickWorksTheGear : Obligations.TickWorksTheGear := by
  intro s dt tank prop act up timer kept inv target stop opposes threshold turning apart
  let r := s.ramped dt tank
  let v := r.gearTick
  have ramps := ramped_ramps s dt tank
  have ticked := ramps.gearTick
  have bounds := (thrustInv_iff s).mp inv prop
  have station : r.station = .active := ramps.driven.station.trans act
  have acts : v = r.gearAction :=
    whenever_pos (by rw [Bool.and_eq_true_iff]; exact ⟨by rw [station]; rfl, by rw [ramps.gear]; exact up⟩)
  have metered := meterTick_touches v
  have tested := standbyTest_touches v.meterTick
  have gear : v.meterTick.standbyTest.gear = r.gearAction.gear := by
    rw [tested.gear (by decide), metered.gear (by decide), acts]
  have signal : r.has .shaftSignal = s.has .shaftSignal := by unfold State.has; rw [ramps.comms]
  have last : r.thrust.lastTarget = target := by rw [ramps.thrust]
  have stops : r.demand.record.demand.stopAll = stop := by rw [ramps.record]
  have drive : v.meterTick.standbyTest.thrust.x = r.thrust.x ∧ v.meterTick.standbyTest.thrust.duty = v.thrust.duty := by
    obtain ⟨x, duty⟩ := standbyTest_drive v.meterTick
    rw [metered.thrust (by decide)] at x duty
    exact ⟨x.trans (by rw [ticked.thrust, ramps.thrust]), duty⟩
  have passes : r.speedPasses = decide (s.gov.rpm ≤ threshold) := by
    unfold State.speedPasses State.shiftThreshold State.param
    rw [ramps.rpm, ramps.driven.start]
    rfl
  have causes : r.releaseCause = true ↔ r.thrust.x = 0 ∧ (opposes ∨ stop = true) := by
    rw [releaseCause_iff, last, stops, station, ramps.gear, targetOpposes_iff]
    simp [opposes]
  have acting : turning → r.gearAction = r.engagedAction := fun on => gearAction_engaged (by rw [ramps.gear]; exact on)
  have letsGo : s.thrust.x = 0 → opposes ∨ stop = true → AtRest r ∧ r.releaseCause = true := fun still cause => by
    have held : s.rampedX target = 0 := rampedX_idle still (by
      rw [desiredValue_eq]
      refine if_neg fun h => ?_
      rcases cause with (⟨gear, low⟩ | ⟨gear, high⟩) | on
      · rcases h with ⟨-, -, pos⟩ | ⟨gear', -, -⟩
        · omega
        · exact nomatch gear.symm.trans gear'
      · rcases h with ⟨gear', -, -⟩ | ⟨-, -, neg⟩
        · exact nomatch gear.symm.trans gear'
        · omega
      · rcases h with ⟨-, off, -⟩ | ⟨-, off, -⟩ <;> exact nomatch on.symm.trans off)
    have rest := ramped_atRest ramps still (bounds.idle still) held
    exact ⟨rest, causes.mpr ⟨rest.1, cause⟩⟩
  have x : v.meterTick.thrust.x = r.thrust.x := by rw [metered.thrust (by decide), ticked.thrust, ramps.thrust]
  have start : v.meterTick.start = s.start := (metered.start (by decide)).trans ticked.driven.start
  have station' : v.meterTick.station = .active :=
    (metered.station (by decide)).trans (ticked.driven.station.trans act)
  refine ⟨_, chapterTick tank prop act timer kept, ?_⟩
  show _ ∧ _
  rw [gear, drive.1]
  refine ⟨fun neutral aims go => ?engages, fun neutral idle => ?waits, fun on h => ?abandons, fun on still cause none sig => ?timed,
    fun on still cause none sig fast => ?slows, fun on still cause none slow => ?releases, fun on still cause timed => ?goesOn,
    fun other => ?others, fun awake => ?stays, fun ask moving => ?moves, fun ask still => ?standsBy⟩
  case engages =>
    have rest := ramped_atRest ramps (inv.atRest prop (by rw [neutral]; rfl)).1 (inv.atRest prop (by rw [neutral]; rfl)).2
      (rampedX_idle (inv.atRest prop (by rw [neutral]; rfl)).1 (by rw [neutral]; rfl))
    have engages : r.gearAction = r.enterGear (engagingFor target) := by
      unfold State.gearAction
      rw [ramps.gear, neutral, last, stops, go, station]
      exact if_pos (by simp [aims])
    rw [engages, enterGear_of_atRest rest (by rw [ramps.gear, neutral]; nofun) (engagingFor_idle target).2.1, ramps.gear,
      ramps.clock]
    unfold engagingFor
    split <;> rfl
  case waits =>
    have stays : r.gearAction = r := by
      unfold State.gearAction
      rw [ramps.gear, neutral, last, stops]
      refine if_neg fun h => ?_
      simp only [Bool.and_eq_true, bne_iff_ne, Bool.not_eq_true'] at h
      exact idle.elim h.1.2 fun on => nomatch h.2.symm.trans on
    rw [stays, ramps.gear]
  case abandons =>
    have none : r.releaseCause = false := by
      refine Bool.eq_false_iff.mpr fun c => ?_
      obtain ⟨still, cause⟩ := causes.mp c
      exact h.elim (· still) (· cause)
    rw [acting on, engagedAction_idle none, ramps.gear]
  case timed =>
    obtain ⟨-, c⟩ := letsGo still cause
    rw [acting on]
    unfold State.engagedAction State.beginRelease
    rw [ramps.gear, none, c, signal, sig, ramps.clock]
    rfl
  case slows =>
    obtain ⟨-, c⟩ := letsGo still cause
    rw [acting on]
    unfold State.engagedAction State.beginRelease
    rw [ramps.gear, none, c, signal, sig, passes, decide_eq_false (Nat.not_le_of_lt fast)]
    rfl
  case releases =>
    obtain ⟨rest, c⟩ := letsGo still cause
    have lets : r.gearAction = r.disengage := by
      rw [acting on]
      unfold State.engagedAction State.beginRelease
      rcases none with waiting | ⟨none, sig⟩
      · rw [ramps.gear, waiting, c, passes, decide_eq_true slow]
        rfl
      · rw [ramps.gear, none, c, signal, sig, passes, decide_eq_true slow]
        rfl
    have gear' := disengage_gear r
    rw [ramps.pins 0 (by decide) (by decide), ramps.pins 1 (by decide) (by decide)] at gear'
    have duty : v.thrust.duty = 0 := by
      rw [acts, lets]
      exact (disengage_driven (by rw [ramps.gear]; exact on) rest.1).1.duty
    rw [lets, gear', drive.2, duty]
    exact ⟨rfl, rfl, rfl, rest.1, rfl⟩
  case goesOn =>
    obtain ⟨-, c⟩ := letsGo still cause
    rw [acting on]
    unfold State.engagedAction
    rw [ramps.gear, timed, c]
    exact ramps.gear
  case others =>
    have stays : r.gearAction = r := by
      unfold State.gearAction
      rw [ramps.gear]
      rcases other with e | e | e | e | e <;> rw [e]
    rw [stays, ramps.gear]
  case stays =>
    have off : v.meterTick.start.request = false := by rw [start]; exact awake
    rw [standbyTest_still (.inr off)]
    exact station'
  case moves =>
    have off : v.meterTick.standbyTest = v.meterTick :=
      whenever_neg (by rw [x, beq_eq_false_iff_ne.mpr moving, Bool.and_false])
    rw [off]
    exact station'
  case standsBy =>
    have stands : v.meterTick.standbyTest = v.meterTick.propStandby := by
      refine whenever_pos ?_
      have prop' : v.meterTick.isProp = true := by
        unfold State.isProp
        rw [metered.role (by decide), (gearTick_touches r).role (by decide), ramps.role]
        exact prop
      rw [prop', station', start, ask, x, still]
      rfl
    rw [stands]
    refine ⟨rfl, rfl, rfl, rfl, rfl, rfl, rfl, ?_, fun short => ?_⟩
    · unfold State.propStandby
      dsimp only
      rw [offer_has (c := .engineNotReady) _ _ _ nofun, offer_has (c := .engineNotReady) _ _ _ nofun]
      exact clear_has_self _ nofun
    · have told : v.comms = s.comms :=
        ((gearTick_touches r).comms_same (by decide) (by decide) (by decide)).trans ramps.comms
      have room : v.load ≤ 6 := (Loaded.of_comms told).load.trans ((load_le s).trans (Nat.succ_le_succ short))
      exact propStandby_waits ((meterTick_loaded (room.trans (by decide))).load.trans room)

end Sys2Proof.Machine
end

section
/-! SUPPORT. The steering unit: the valve interlock (O49) and a rudder delivery (O50). -/

namespace Sys2Proof.Machine

-- As in Laws/Touches.lean: one theorem at a time.
set_option Elab.async false

/-! ## The interlock (R85, R87, R178) -/

/-- The inhibit of a drive that is not inhibited closes both valves at once. -/
theorem inhibitDrive_closes {s : State} (h : s.steer.drive ≠ .inhibited) :
    s.inhibitDrive = { s with
      steer := { s.steer with drive := .inhibited, valveDuty := 0, followTimer := none },
      outputs := s.inhibitDrive.outputs } ∧
    (s.inhibitDrive.outputs.outs.get 1).Closed ∧ (s.inhibitDrive.outputs.outs.get 2).Closed ∧
    s.inhibitDrive.outputs.outs.get 0 = s.outputs.outs.get 0 ∧ s.inhibitDrive.outputs.periods = s.outputs.periods := by
  have closes : s.inhibitDrive = { s with
      outputs := s.closeValves.outputs, steer := { s.steer with drive := .inhibited, valveDuty := 0, followTimer := none } } :=
    if_neg h
  rw [closes]
  exact ⟨rfl, closeValves_closed s (.inl rfl), closeValves_closed s (.inr rfl), closeValves_other s, rfl⟩

theorem inhibitDrive_stays {s : State} (h : s.steer.drive = .inhibited) : s.inhibitDrive = s := if_pos h

/-- Settles O49. -/
theorem valveInterlockInhibits : Obligations.ValveInterlockInhibits := by
  intro s dt port starboard prop up act changed u
  have moved : (s.line 5 != port || s.line 6 != starboard) = true := by simpa using changed
  refine ⟨_, exec_pos rfl prop, fun off => ?_, fun on on' => ?_⟩
  · refine whenever_neg ?_
    rcases off with off | off <;> rw [off] <;> simp
  · subst on on'
    have locks : (s.advance dt).valveSense true true = u.valveInterlock := by
      refine whenever_pos (s := u) ?_
      show ((s.line 5 != true || s.line 6 != true) && true && true && s.steer.supervised && s.station.acting) = true
      rw [moved, up, act]
      rfl
    rw [locks]
    refine ⟨u.raise .rudderInterlock, raise_raises u _, fun held => ?_, fun free => ?_⟩
    · exact inhibitDrive_stays held
    · exact inhibitDrive_closes free

/-! ## A delivery of the rudder's angle (R79 to R90) -/

/-- The drive once the feedback fault has ended (R86). -/
def SteeringUnit.driveAfterFault (u : SteeringUnit) : DriveState :=
  if u.feedback = true ∧ u.drive = .inhibited ∧ u.interlock = false then .stopped else u.drive

theorem feedbackEnd_steer (s : State) :
    s.feedbackEnd.steer = { s.steer with feedback := false, drive := s.steer.driveAfterFault } := by
  unfold State.feedbackEnd SteeringUnit.driveAfterFault
  split
  · rename_i fault
    show SteeringUnit.released _ = _
    unfold SteeringUnit.released
    simp [fault, State.clear]
  · rename_i sound
    rw [if_neg (fun h => sound h.1)]
    rw [← Bool.eq_false_iff.mpr sound]

theorem feedbackEnd_has (s : State) : (s.steer.feedback = true → s.feedbackEnd.has .rudderFeedback = false) ∧
    ∀ c, c ≠ .rudderFeedback → c ≠ .txLoss → s.feedbackEnd.has c = s.has c := by
  unfold State.feedbackEnd
  constructor
  · intro fault
    rw [if_pos fault]
    exact clear_has_self s nofun
  · intro c ne nt
    split
    · exact clear_has_ne s ne nt
    · rfl

theorem rudderDemand_eq (turn : Int) (mode : SteeringMode) (rudder : RudderType) (gear : GearState) (maxAngle : Nat) :
    rudderDemand turn mode rudder gear maxAngle =
      if mode = .normal ∧ rudder = .steering then Int.tdiv (turn * maxAngle) 1000
      else if mode = .flanking ∧ rudder = .flanking ∧ gear = .astern then -Int.tdiv (turn * maxAngle) 1000 else 0 := by
  unfold rudderDemand
  cases mode <;> cases rudder <;> simp

theorem valveDutyOf_eq (error : Int) (gain : Nat) : valveDutyOf error gain = max 300 (min 1000 (error.natAbs * gain / 10)) := by
  unfold valveDutyOf clampNat
  split
  · omega
  · split <;> omega

/-- The supervised delivery up to its drive step: the fault ended, the demand found. -/
def State.aimed (s : State) : State := s.feedbackEnd.findRudderDemand

theorem aimed_touches (s : State) : OnlyTouches [.present, .alerts, .link, .steer] s s.aimed := by
  refine OnlyTouches.trans ?_ (findRudderDemand_touches _).mono
  exact .ite ((clear_touches s _).mono.trans (steer_touches _ _).mono) (.refl _ _)

theorem aimed_steer (s : State) : s.aimed.steer = { s.steer with
    feedback := false, drive := s.steer.driveAfterFault,
    demand := rudderDemand s.demand.record.demand.turn s.demand.record.demand.mode s.rudderType s.gear.state
      (s.param Param.maxAngle) } := by
  have touches : OnlyTouches (.steer :: commsParts) s s.feedbackEnd :=
    .ite ((clear_touches s _).mono.trans (steer_touches _ _).mono) (.refl _ _)
  unfold State.aimed State.findRudderDemand State.rudderType State.param
  dsimp only
  rw [feedbackEnd_steer, touches.demand (by decide), touches.start (by decide), touches.gear (by decide)]

/-- What the spread monitor leaves (R89, R90). -/
theorem spreadStep_leaves (s : State) :
    s.spreadStep.steer = { s.steer with deviation := s.spreadStep.steer.deviation } ∧ s.spreadStep.outputs = s.outputs ∧
    (∀ c, c ≠ .rudderSpread → c ≠ .txLoss → s.spreadStep.has c = s.has c) ∧
    (s.spreadBeyond ≠ some true → s.spreadStep.steer.deviation = none ∧ s.spreadStep.has .rudderSpread = false) ∧
    (s.spreadBeyond = some true → s.spreadStep.steer.deviation =
      (if s.steer.deviation = none then some s.clock else s.steer.deviation) ∧
      s.spreadStep.has .rudderSpread = s.has .rudderSpread) := by
  unfold State.spreadStep
  cases beyond : s.spreadBeyond with
  | none =>
    exact ⟨rfl, rfl, fun c ne nt => clear_has_ne _ ne nt, fun _ => ⟨rfl, clear_has_self _ nofun⟩, nofun⟩
  | some b =>
    cases b with
    | false => exact ⟨rfl, rfl, fun c ne nt => clear_has_ne _ ne nt, fun _ => ⟨rfl, clear_has_self _ nofun⟩, nofun⟩
    | true =>
      refine ⟨rfl, rfl, fun _ _ _ => rfl, fun n => absurd rfl n, fun _ => ⟨?_, rfl⟩⟩
      exact (runStart_eq _ _ _).trans (if_pos rfl)

theorem spreadBeyond_iff (s : State) : s.spreadBeyond = some true ↔ s.peerAngles ≠ [] ∧
    s.param Param.spreadLimit < (s.steer.angle - Int.tdiv (sumInt s.peerAngles) s.peerAngles.length).natAbs := by
  unfold State.spreadBeyond
  split
  · rename_i empty; simp [empty]
  · rename_i a l peers
    simp [peers, meanOf]

/-! ### The drive step (R81, R82) -/

theorem writeDuty_acting {s : State} (act : s.station.acting = true) (i : Fin 3) (d : Nat) : (s.writeDuty i d).outputs =
    { s.outputs with outs := s.outputs.outs.set i ((s.outputs.outs.get i).write d) } :=
  if_neg (by rw [not_safe_of_acting act]; nofun)

/-- What a drive step keeps. -/
structure DriveKept (s t : State) : Prop where
  steer : t.steer = { s.steer with
    drive := t.steer.drive, valveDuty := t.steer.valveDuty, followTimer := t.steer.followTimer }
  has : ∀ c, c ≠ .rudderFollow → c ≠ .txLoss → t.has c = s.has c

theorem driveStep_kept (s : State) : DriveKept s s.driveStep := by
  have stopped : DriveKept s s.driveStopped := by
    unfold State.driveStopped
    dsimp only
    split
    · exact ⟨rfl, fun _ _ _ => rfl⟩
    · split <;> exact ⟨rfl, fun _ _ _ => rfl⟩
  have running (b : Bool) : DriveKept s (s.driveRunning b) := by
    unfold State.driveRunning
    dsimp only
    split
    · exact ⟨rfl, fun c ne nt => clear_has_ne _ ne nt⟩
    · split
      · exact ⟨rfl, fun _ _ _ => rfl⟩
      · split
        · exact ⟨rfl, fun _ _ _ => rfl⟩
        · split <;> exact ⟨rfl, fun _ _ _ => rfl⟩
  unfold State.driveStep
  split
  · exact stopped
  · exact running _
  · exact running _
  · exact ⟨rfl, fun _ _ _ => rfl⟩

/-- The error of a running drive is small: it stops, and RUDDER_FOLLOW ends (R82, R84). -/
theorem driveRunning_arrives {s : State} (b : Bool) (small : s.rudderError.natAbs ≤ s.param Param.deadband / 2) :
    s.driveRunning b = (s.stopDrive b).clear .rudderFollow := if_pos small

theorem driveRunning_stops {s : State} {b : Bool} (large : s.param Param.deadband / 2 < s.rudderError.natAbs)
    (h : decide (0 < s.rudderError) ≠ b ∨ s.overtravel b = true) : s.driveRunning b = s.stopDrive b := by
  unfold State.driveRunning
  dsimp only
  rw [if_neg (Nat.not_le_of_lt large)]
  by_cases way : (decide (0 < s.rudderError) != b) = true
  · exact if_pos way
  · rw [if_neg way, if_pos (h.resolve_left fun n => way (bne_iff_ne.mpr n))]

theorem driveRunning_goesOn {s : State} {b : Bool} (large : s.param Param.deadband / 2 < s.rudderError.natAbs)
    (way : decide (0 < s.rudderError) = b) (within : s.overtravel b = false) :
    s.driveRunning b = if valveDutyOf s.rudderError (s.param Param.valveGain) = s.steer.valveDuty then s else
      { s with
        outputs := (s.writeDuty (valveOutput b) (valveDutyOf s.rudderError (s.param Param.valveGain))).outputs,
        steer := { s.steer with valveDuty := valveDutyOf s.rudderError (s.param Param.valveGain) } } := by
  unfold State.driveRunning
  dsimp only
  rw [if_neg (Nat.not_le_of_lt large), if_neg (by rw [way]; simp), if_neg (by rw [within]; nofun)]

theorem driveStep_inhibited {s : State} (h : s.steer.drive = .inhibited) : s.driveStep = s := by
  unfold State.driveStep; rw [h]

theorem driveStep_stopped {s : State} (h : s.steer.drive = .stopped) : s.driveStep = s.driveStopped := by
  unfold State.driveStep; rw [h]

theorem driveStopped_rests {s : State} (h : s.rudderError.natAbs ≤ s.param Param.deadband ∨
    s.overtravel (decide (0 < s.rudderError)) = true) : s.driveStopped = s := by
  unfold State.driveStopped
  dsimp only
  by_cases small : s.rudderError.natAbs ≤ s.param Param.deadband
  · exact if_pos small
  · rw [if_neg small, if_pos (h.resolve_left small)]

theorem driveStopped_starts {s : State} (large : s.param Param.deadband < s.rudderError.natAbs)
    (within : s.overtravel (decide (0 < s.rudderError)) = false) : s.driveStopped =
      s.startDrive (decide (0 < s.rudderError)) (valveDutyOf s.rudderError (s.param Param.valveGain)) := by
  unfold State.driveStopped
  dsimp only
  rw [if_neg (Nat.not_le_of_lt large), if_neg (by rw [within]; nofun)]

theorem overtravel_stbd (s : State) : s.overtravel true = decide ((s.param Param.maxAngle + 30 : Int) ≤ s.steer.angle) := rfl

theorem overtravel_port (s : State) :
    s.overtravel false = decide (s.steer.angle ≤ -(s.param Param.maxAngle + 30 : Int)) := rfl

/-! ### The whole delivery -/

/-- The station once a sequence has completed, before its results are delivered. -/
def State.completed (s : State) (dt : Micros) (a0 a1 reference : Raw) : State :=
  { s.advance dt with conv := (s.advance dt).completedConverter a0 a1 reference }

theorem completed_touches (s : State) (dt : Micros) (a0 a1 reference : Raw) :
    OnlyTouches [.clock, .conv] s (s.completed dt a0 a1 reference) :=
  (advance_touches s dt).mono.trans (conv_touches _ _).mono

/-- A completion delivers to the station's unit. -/
theorem exec_completion {s : State} {dt : Micros} {a0 a1 reference : Raw} {since : Clock} (l : Levels)
    (up : s.station.joined = true) (running : s.conv.state = .sequence since a0 a1 reference)
    (old : sequenceLength s.role ≤ elapsed (s.later dt) since) :
    exec (.sequenceCompletion dt l.a0 l.a1 l.reference) s =
      .next (((s.completed dt a0 a1 reference).deliver a0 a1 reference).setLevels l) := by
  have completes : (s.advance dt).sequenceComplete = (s.completed dt a0 a1 reference).deliver a0 a1 reference := by
    unfold State.sequenceComplete
    have running' : (s.advance dt).conv.state = .sequence since a0 a1 reference := running
    rw [running']
    exact whenever_pos (Bool.and_eq_true_iff.mpr ⟨up, decide_eq_true old⟩)
  show Host.Outcome.next (((s.advance dt).sequenceComplete).setLevels l) = _
  rw [completes]

theorem deliver_prop {s : State} (a0 a1 reference : Raw) (prop : s.isProp = true) (up : s.station.joined = true) :
    s.deliver a0 a1 reference = s.rudderDelivery a0 (rangeOf reference a0 == .inRange) := by
  unfold State.deliver
  rw [(isProp_iff s).mp prop]
  exact whenever_pos up

theorem rangeOf_good {reference raw : Raw} : (rangeOf reference raw == .inRange) = true ↔
    (2008 ≤ reference.toNat ∧ reference.toNat ≤ 2088) ∧ 20 < raw.toNat ∧ raw.toNat < 4075 := by
  unfold rangeOf referencePasses rawFault
  split <;> simp_all

/-- Settles O50: the delivery in its four parts, each of which leaves the others' fields. -/
theorem rudderDeliveryDrivesTheValve : Obligations.RudderDeliveryDrivesTheValve := by
  intro s dt raw a1 reference l0 l1 l2 since prop up act running old low high low' high' angle d p wanted e duty limit
    follow drive atRest starts stops runs peers spread
  have joined := joined_of_acting act
  have role := (isProp_iff s).mp prop
  let u := s.completed dt raw a1 reference
  let v : State := { u with steer := { u.steer with angle := rudderAngle (u.param Param.angleSpan) raw } }
  let w := v.aimed
  let x := w.driveStep
  have delivers : u.rudderDelivery raw true = x.spreadStep := by
    have supervised : (u.steer.supervised && u.station.acting) = true := Bool.and_eq_true_iff.mpr ⟨up, act⟩
    exact whenever_pos (s := v) supervised
  have run : exec (.sequenceCompletion dt l0 l1 l2) s =
      .next (x.spreadStep.setLevels { a0 := l0, a1 := l1, reference := l2 }) := by
    have delivered := deliver_prop (s := u) raw a1 reference prop joined
    rw [(rangeOf_good.mpr ⟨⟨low, high⟩, low', high'⟩ : (rangeOf reference raw == .inRange) = true), delivers] at delivered
    rw [← delivered]
    exact exec_completion ⟨l0, l1, l2⟩ joined running (by rw [role]; exact old)
  have aims := aimed_touches v
  have steered := aimed_steer v
  have kept := driveStep_kept w
  have touched := driveStep_touches w
  obtain ⟨steer, outputs, has, settles, deviates⟩ := spreadStep_leaves x
  have ws : w.steer = { s.steer with angle := angle, feedback := false, drive := drive, demand := wanted } := by
    rw [steered, rudderDemand_eq]
    have freed : v.steer.driveAfterFault = drive := rfl
    rw [freed]
    rfl
  have error : w.rudderError = e := by
    unfold State.rudderError
    rw [ws]
  have wout : w.outputs = s.outputs := aims.outputs (by decide)
  have wclock : w.clock = s.later dt := aims.clock (by decide)
  have acts : w.station.acting = true := by rw [aims.station (by decide)]; exact act
  have param (q : ParamSpec) : w.param q = s.param q := by
    unfold State.param
    rw [aims.start (by decide)]
    rfl
  have whas (c : AlertCode) (ne : c ≠ .rudderFeedback) (nt : c ≠ .txLoss) : w.has c = s.has c :=
    (feedbackEnd_has v).2 c ne nt
  have gain : valveDutyOf w.rudderError (w.param Param.valveGain) = duty := by rw [error, param, valveDutyOf_eq]
  have xs := kept.steer
  rw [ws] at xs
  have rests (h : x = w) : atRest x.spreadStep := ⟨by rw [steer, h, ws], by rw [outputs, h, wout]⟩
  have begins (b : Bool) (h : x = w.startDrive b duty) :
      starts x.spreadStep (if b then .drivingStbd else .drivingPort) (valveOutput b) := by
    refine ⟨by rw [steer, h]; rfl, by rw [steer, h]; rfl, ?_, by rw [outputs, h, ← wout]; exact writeDuty_acting acts _ _⟩
    rw [steer, h]
    show (if w.has .rudderFollow then none else startTimer w.clock (sec (w.param _))) = _
    rw [whas .rudderFollow nofun nofun, wclock, param]
  have ends (b : Bool) (h : x.steer = (w.stopDrive b).steer) (k : x.outputs = (w.stopDrive b).outputs) :
      stops x.spreadStep (valveOutput b) :=
    ⟨by rw [steer, h]; rfl, by rw [steer, h]; rfl, by rw [steer, h]; rfl,
      by rw [outputs, k, ← wout]; exact writeDuty_acting acts _ _⟩
  have goes (b : Bool) (way : Bool) (beyond : Prop) (driving : drive = if b then .drivingStbd else .drivingPort)
      (ahead : e ≠ 0 → (way = true ↔ decide (0 < e) = b)) (limits : beyond ↔ w.overtravel b = true) :
      runs x.spreadStep (valveOutput b) way beyond := by
    have wdrive : w.steer.drive = if b then .drivingStbd else .drivingPort := by rw [ws]; exact driving
    have runs : x = w.driveRunning b := driveStep_running (wdrive.trans (by cases b <;> rfl))
    refine ⟨fun small => ?_, fun large h => ?_, fun large h within => ?_⟩
    · have arrives : x = (w.stopDrive b).clear .rudderFollow :=
        runs.trans (driveRunning_arrives b (by rw [error, param]; exact small))
      refine ⟨ends b (by rw [arrives]; rfl) (by rw [arrives]; rfl), ?_⟩
      rw [has .rudderFollow nofun nofun, arrives]
      exact clear_has_self _ nofun
    · have stops : x = w.stopDrive b := by
        refine runs.trans (driveRunning_stops (by rw [error, param]; exact large) (h.imp (fun off => ?_) limits.mp))
        rw [error]
        intro same
        exact nomatch off.symm.trans ((ahead (by rintro zero; rw [zero] at large; exact nomatch large)).mpr same)
      exact ends b (by rw [stops]) (by rw [stops])
    · have on : x = _ := runs.trans (driveRunning_goesOn (by rw [error, param]; exact large)
        (by rw [error]; exact (ahead (by rintro zero; rw [zero] at large; exact nomatch large)).mp h)
        (Bool.eq_false_iff.mpr fun c => within (limits.mpr c)))
      have held : w.steer.valveDuty = s.steer.valveDuty := by rw [ws]
      rw [gain, held] at on
      by_cases same : duty = s.steer.valveDuty
      · rw [if_pos same] at on
        exact ⟨by rw [steer, on, ws], by rw [steer, on, ws]; exact same.symm, by rw [steer, on, ws],
          fun _ => by rw [outputs, on, wout], fun n => absurd same n⟩
      · rw [if_neg same] at on
        refine ⟨by rw [steer, on, ws], by rw [steer, on], by rw [steer, on, ws], fun e => absurd e same, fun _ => ?_⟩
        rw [outputs, on, ← wout]
        exact writeDuty_acting acts _ _
  have wstopped (h : drive = .stopped) : x = w.driveStopped := driveStep_stopped (by rw [ws]; exact h)
  have wangle : w.steer.angle = angle := by rw [ws]
  have beyondStbd : limit ≤ angle ↔ w.overtravel true = true := by
    rw [overtravel_stbd, param, wangle, decide_eq_true_iff]
  have beyondPort : angle ≤ -limit ↔ w.overtravel false = true := by
    rw [overtravel_port, param, wangle, decide_eq_true_iff]
  have stbd (h : 0 < e) : decide (0 < w.rudderError) = true := by rw [error]; exact decide_eq_true h
  have port (h : e < 0) : decide (0 < w.rudderError) = false := by rw [error]; exact decide_eq_false (by omega)
  have peered : x.peerAngles = peers := by
    unfold State.peerAngles State.rudderType State.param
    rw [touched.peers (by decide), touched.address (by decide), touched.start (by decide), aims.peers (by decide),
      aims.address (by decide), aims.start (by decide)]
    rfl
  have spreads : x.spreadBeyond = some true ↔ peers ≠ [] ∧ s.param Param.spreadLimit < spread := by
    rw [spreadBeyond_iff, peered, xs]
    unfold State.param
    rw [touched.start (by decide), aims.start (by decide)]
    rfl
  refine ⟨_, run, ?_⟩
  show _ ∧ _
  refine ⟨?_, ?_, ?_, ?_, ?_, fun fault => ?_, fun held => ?_, fun off small => ?_, fun off large pos within => ?_,
    fun off large neg within => ?_, fun off pos far => ?_, fun off neg far => ?_, fun runs => ?_, fun runs => ?_,
    fun calm => ?_, fun some wide => ?_, ?_⟩
  · exact ((spreadStep_touches x).clock (by decide)).trans ((touched.clock (by decide)).trans wclock)
  · show x.spreadStep.steer.angle = _; rw [steer, xs]
  · show x.spreadStep.steer.demand = _; rw [steer, xs]
  · show x.spreadStep.steer.feedback = _; rw [steer, xs]
  · show x.spreadStep.steer.interlock = _; rw [steer, xs]
  · show x.spreadStep.has _ = _
    rw [has .rudderFeedback nofun nofun, kept.has .rudderFeedback nofun nofun]
    exact (feedbackEnd_has v).1 fault
  · exact rests (driveStep_inhibited (by rw [ws]; exact held))
  · exact rests ((wstopped off).trans (driveStopped_rests (.inl (by rw [error, param]; exact small))))
  · have on : x = w.startDrive _ _ := (wstopped off).trans (driveStopped_starts (by rw [error, param]; exact large)
      (by rw [stbd pos]; exact Bool.eq_false_iff.mpr fun c => absurd (beyondStbd.mpr c) (Int.not_le.mpr within)))
    rw [stbd pos, gain] at on
    exact begins true on
  · have on : x = w.startDrive _ _ := (wstopped off).trans (driveStopped_starts (by rw [error, param]; exact large)
      (by rw [port neg]; exact Bool.eq_false_iff.mpr fun c => absurd (beyondPort.mpr c) (Int.not_le.mpr within)))
    rw [port neg, gain] at on
    exact begins false on
  · exact rests ((wstopped off).trans (driveStopped_rests (.inr (by rw [stbd pos]; exact beyondStbd.mp far))))
  · exact rests ((wstopped off).trans (driveStopped_rests (.inr (by rw [port neg]; exact beyondPort.mp far))))
  · exact goes true _ _ runs (fun _ => by simp) beyondStbd
  · exact goes false _ _ runs (fun n => by simp; omega) beyondPort
  · exact settles fun c => by
      obtain ⟨some, wide⟩ := spreads.mp c
      exact calm.elim some fun low => absurd wide (Nat.not_lt_of_le low)
  · obtain ⟨deviation, has'⟩ := deviates (spreads.mpr ⟨some, wide⟩)
    refine ⟨deviation.trans ?_, has'.trans ?_⟩
    · rw [xs, touched.clock (by decide), wclock]
    · rw [kept.has .rudderSpread nofun nofun, whas .rudderSpread nofun nofun]
  · exact (completed_touches s dt raw a1 reference).mono.trans ((steer_touches u _).mono.trans (aims.mono.trans
      (touched.mono.trans ((spreadStep_touches x).mono.trans (setLevels_touches _ _).mono))))

end Sys2Proof.Machine
end

section
/-! SUPPORT. The lag starts of a holding helm and its renumbering (R26, R34), and the converter's series (O51). -/

namespace Sys2Proof.Machine

-- As in Laws/Touches.lean: one theorem at a time.
set_option Elab.async false

/-! ## Tables combined -/

theorem zipCells_get {α β γ : Type} (f : α → β → γ) : ∀ (as : List α) (bs : List β) (i : Nat) (h : i < (zipCells f as bs).length)
    (ha : i < as.length) (hb : i < bs.length), (zipCells f as bs)[i] = f as[i] bs[i]
  | _ :: _, _ :: _, 0, _, _, _ => rfl
  | _ :: as, _ :: bs, i + 1, h, ha, hb =>
    zipCells_get f as bs i (Nat.lt_of_succ_lt_succ h) (Nat.lt_of_succ_lt_succ ha) (Nat.lt_of_succ_lt_succ hb)

theorem zipTab_get {n : Nat} {α β γ : Type} (f : α → β → γ) (a : Tab n α) (b : Tab n β) (i : Fin n) :
    (zipTab f a b).get i = f (a.get i) (b.get i) := zipCells_get f a.cells b.cells i _ _ _

theorem Tab.any_iff {n : Nat} {α : Type} (t : Tab n α) (p : α → Bool) :
    t.cells.any p = true ↔ ∃ i, p (t.get i) = true := by
  rw [List.any_eq_true]
  constructor
  · rintro ⟨a, m, h⟩
    obtain ⟨i, bound, rfl⟩ := List.getElem_of_mem m
    exact ⟨⟨i, t.size ▸ bound⟩, h⟩
  · rintro ⟨i, h⟩
    exact ⟨t.get i, List.getElem_mem _, h⟩

theorem aged_iff (since : Option Clock) (now : Clock) (limit : Micros) :
    aged since now limit = true ↔ ∃ c, since = some c ∧ limit ≤ elapsed now c := by
  cases since <;> simp [aged]

/-! ## The end of STATION_LAG (R34) -/

theorem judgeLagEnd_has {s : State} (helm : s.isHelm = true) :
    (s.station.helmReporting = true →
      (s.judgeLagEnd.has .stationLag = true ↔ s.has .stationLag = true ∧
        ∃ a since, s.helm.lag.get a = some since ∧ 2000000 ≤ elapsed s.clock since)) ∧
    (s.station.helmReporting = false → s.judgeLagEnd.has .stationLag = s.has .stationLag) := by
  have old : s.helm.lag.cells.any (fun c => aged c s.clock (sec 2)) = true ↔
      ∃ a since, s.helm.lag.get a = some since ∧ 2000000 ≤ elapsed s.clock since := by
    rw [Tab.any_iff]
    exact exists_congr fun a => aged_iff _ _ _
  refine ⟨fun reports => ?_, fun idle => ?_⟩
  · rw [← old]
    unfold State.judgeLagEnd State.whenever
    cases h : s.helm.lag.cells.any (fun c => aged c s.clock (sec 2))
    · rw [helm, reports]
      simp [clear_has_self s (c := .stationLag) nofun]
    · simp
  · rw [show s.judgeLagEnd = s from whenever_neg (by rw [helm, idle]; rfl)]

theorem judgeLagEnd_has_ne (s : State) {c : AlertCode} (ne : c ≠ .stationLag) (nt : c ≠ .txLoss) :
    s.judgeLagEnd.has c = s.has c := by
  unfold State.judgeLagEnd State.whenever
  split
  · exact clear_has_ne s ne nt
  · rfl

/-! ## A renumbering (R26, R34, R35) -/

theorem needsNumber_iff (live c : Demand) : needsNumber live c = true ↔
    5 ≤ (live.thrust - c.thrust).natAbs ∨ 5 ≤ (live.turn - c.turn).natAbs ∨ live.mode ≠ c.mode ∨ live.cap ≠ c.cap ∨
      live.stopAll ≠ c.stopAll := by
  simp only [needsNumber, Bool.or_eq_true, decide_eq_true_eq, bne_iff_ne, or_assoc]

/-- The lag starts found again at a renumbering. -/
def State.relagged (s : State) (old : Byte) : Tab 32 (Option Clock) :=
  zipTab (lagRenumbered s.clock old s.helm.number) s.peers.entries s.helm.lag

theorem livePropAt_followed (s : State) (a : Addr) : s.livePropAt a ↔ (followedOf (s.peers.entries.get a)).isSome = true := by
  unfold State.livePropAt followedOf
  rw [Option.isSome_map]

theorem lagRenumbered_of {now : Clock} {old new : Byte} {e : Option Entry} {start : Option Clock} (moved : new ≠ old) :
    (¬ (livePropRecord e).isSome = true → lagRenumbered now old new e start = none) ∧
    ∀ r, livePropRecord e = some r →
      (r.followed = new → lagRenumbered now old new e start = none) ∧
      (r.followed = old → lagRenumbered now old new e start = some (start.getD now)) ∧
      (r.followed ≠ old → r.followed ≠ new → lagRenumbered now old new e start = start) := by
  unfold lagRenumbered followedOf
  refine ⟨fun none => ?_, fun r found => ?_⟩
  · rw [Option.not_isSome_iff_eq_none.mp none]
    rfl
  · rw [found]
    dsimp only [Option.map]
    refine ⟨fun same => if_pos same, fun was => ?_, fun apart apart' => ?_⟩
    · rw [if_neg (by rw [was]; exact moved.symm), if_pos was]
      cases start <;> rfl
    · rw [if_neg apart', if_neg apart]

/-- The current demand taken and offered, the lag starts found again: the renumbering up to the standby switch. -/
def State.renumbered (s : State) : State := ((s.takeLive (s.helm.number + 1)).offer .demand 1).lagRenumber s.helm.number

/-- What a renumbering leaves, and what it leaves waiting where the queue has the places. -/
structure Renumbers (s t : State) : Prop where
  helm : t.helm = { s.helm with
    current := s.helm.live, number := s.helm.number + 1, lag := t.helm.lag, switchPending := t.helm.switchPending,
    standbyQueued := t.helm.standbyQueued }
  demand : t.demand = s.freshRecord s.helm.live (s.helm.number + 1) false
  lags : LagsRenumbered s t
  has : ∀ c, c ≠ .stationLag → c ≠ .txLoss → t.has c = s.has c
  waits : s.station.acting = true → s.load ≤ 6 → t.waits .demand = true

theorem succ_ne (n : Byte) : n + 1 ≠ n := by
  intro h
  have same := congrArg BitVec.toNat h
  have bound := n.isLt
  simp at same
  omega

theorem offerWith_loaded {s : State} (c : Fin 4) (p : Payload) (act : s.station.acting = true) (free : s.load ≤ 7) :
    (s.offerWith c p).load ≤ s.load + 1 ∧ (s.offerWith c p).waits (payloadKind p) = true ∧
      ∀ j, s.waits j = true → (s.offerWith c p).waits j = true :=
  offered_loaded ⟨payloadKind p, c, s.clock, some p⟩ act free

theorem renumber_eq (s : State) : s.renumber =
    s.renumbered.whenever (s.renumbered.helm.switchPending && s.renumbered.line 2 && s.renumbered.currentZero)
      State.queueStandby := rfl

theorem offerWith_has (s : State) (cls : Fin 4) (p : Payload) {c : AlertCode} (h : c ≠ .txLoss) :
    (s.offerWith cls p).has c = s.has c := offered_has s _ h

/-- The standby switch's part of a renumbering queues a STANDBY and no more. -/
theorem switchPart_keeps (s : State) (b : Bool) :
    (s.whenever b State.queueStandby).helm = { s.helm with
      switchPending := (s.whenever b State.queueStandby).helm.switchPending,
      standbyQueued := (s.whenever b State.queueStandby).helm.standbyQueued } ∧
    (∀ c, c ≠ .txLoss → (s.whenever b State.queueStandby).has c = s.has c) ∧
    (s.station.acting = true → s.load ≤ 7 → ∀ k, s.waits k = true → (s.whenever b State.queueStandby).waits k = true) := by
  cases b with
  | false => exact ⟨rfl, fun _ _ => rfl, fun _ _ _ => id⟩
  | true =>
    let u : State := { s with helm := { s.helm with switchPending := false, standbyQueued := true } }
    refine ⟨rfl, fun c ne => offerWith_has u 1 (.standby s.demand.view.epoch) ne, fun act free k waits => ?_⟩
    exact (offerWith_loaded (s := u) 1 (.standby s.demand.view.epoch) act free).2.2 k waits

theorem renumber_renumbers {s : State} (helm : s.isHelm = true) : Renumbers s s.renumber := by
  let t := (s.takeLive (s.helm.number + 1)).offer .demand 1
  let u : State := { t with helm := { t.helm with lag := t.relagged s.helm.number } }
  have lagged : s.renumbered = u.judgeLagEnd := rfl
  have touches := judgeLagEnd_touches u
  have told (c : AlertCode) (ne : c ≠ .txLoss) : u.has c = s.has c := offer_has (s.takeLive (s.helm.number + 1)) _ _ ne
  obtain ⟨helmed, has, waits⟩ := switchPart_keeps s.renumbered
    (s.renumbered.helm.switchPending && s.renumbered.line 2 && s.renumbered.currentZero)
  have after := whenever_touches s.renumbered
    (s.renumbered.helm.switchPending && s.renumbered.line 2 && s.renumbered.currentZero) (queueStandby_touches s.renumbered)
  rw [← renumber_eq] at helmed has waits after
  have uhelm : s.renumbered.helm = u.helm := touches.helm (by decide)
  have lag : s.renumber.helm.lag = t.relagged s.helm.number := by rw [helmed, uhelm]
  have number : s.renumber.helm.number = s.helm.number + 1 := by rw [helmed, uhelm]; rfl
  have clock : s.renumber.clock = s.clock := (after.clock (by decide)).trans (touches.clock (by decide))
  obtain ⟨ends, stays⟩ := judgeLagEnd_has (s := u) helm
  refine ⟨?_, ?_, ⟨fun a => ?_, fun reports => ?_, fun silent => ?_⟩, fun c ne nt => ?_, fun act room => ?_⟩
  · rw [helmed, uhelm]; rfl
  · rw [after.demand (by decide), lagged, touches.demand (by decide)]; rfl
  · rw [number, lag, clock]
    unfold State.relagged State.livePropAt
    rw [zipTab_get]
    exact lagRenumbered_of (succ_ne s.helm.number)
  · rw [has .stationLag nofun, lag, clock]
    refine (ends reports).trans ?_
    rw [told .stationLag nofun]
    rfl
  · rw [has .stationLag nofun]
    exact (stays silent).trans (told .stationLag nofun)
  · rw [has c nt, lagged, judgeLagEnd_has_ne u ne nt]
    exact told c nt
  · obtain ⟨load, demand, -⟩ := offer_loaded (s := s.takeLive (s.helm.number + 1)) .demand 1 act (room.trans (by decide))
    have free : u.load ≤ 7 := load.trans (Nat.succ_le_succ room)
    have ended : Loaded u u.judgeLagEnd := by
      unfold State.judgeLagEnd State.whenever
      split
      · exact clear_loaded _ free
      · exact .refl u
    exact waits (by rw [lagged, touches.station (by decide)]; exact act) (ended.load.trans free) .demand
      (ended.waits .demand demand)

/-! ## The converter's series (R181 to R185) -/

theorem exec_sequenceStart {s : State} {dt : Micros} {last : Clock} (up : s.station.joined = true)
    (series : s.conv.series = some last) (old : s.conv.interval ≤ elapsed (s.later dt) last) :
    exec (.sequenceStart dt) s = .next (
      let t : State := { s.advance dt with conv := { s.conv with series := some (last + BitVec.ofNat 32 s.conv.interval) } }
      if s.conv.state = .idle then
        { t with conv := { t.conv with
          state := .sequence (s.later dt) s.conv.levels.a0 s.conv.levels.a1 s.conv.levels.reference } }
      else t.overrun) := by
  have counted : s.conv.counted = { s.conv with series := some (last + BitVec.ofNat 32 s.conv.interval) } := by
    unfold Converter.counted; rw [series]; rfl
  have timer : due s.conv.nextStart (s.later dt) = true := by
    unfold Converter.nextStart
    rw [series]
    exact decide_eq_true old
  refine exec_eq rfl (Bool.and_eq_true_iff.mpr ⟨up, timer⟩) ?_
  show (if (s.conv.counted).state = .idle then _ else _) = _
  have same : (s.advance dt).conv.counted = s.conv.counted := rfl
  simp only [same, counted]
  rfl

theorem sequenceRaws_eq (r : Role) (a0 a1 reference : Raw) :
    sequenceRaws (some r) a0 a1 reference = if r = .helm then [a0, a1, reference] else [a0, reference] := by
  cases r <;> rfl

theorem sequenceLength_eq (r : Role) : sequenceLength (some r) = if r = .helm then 120 else 80 := by cases r <;> rfl

theorem sequenceResults_idle {s : State} (h : s.conv.state = .idle) : s.sequenceResults = [] := by
  unfold State.sequenceResults; rw [h]

/-- A delivery to the coupling unit may restart the series; it leaves the rest of the converter. -/
def Retimed (s t : State) : Prop := t.conv = { s.conv with interval := t.conv.interval, series := t.conv.series }

theorem Retimed.refl (s : State) : Retimed s s := rfl

theorem Retimed.trans {s t u : State} (h : Retimed s t) (k : Retimed t u) : Retimed s u := by
  unfold Retimed at *
  rw [k, h]

theorem OnlyTouches.retimed {ps : List Part} {s t : State} (h : OnlyTouches ps s t) (n : Part.conv ∉ ps := by decide) :
    Retimed s t := by
  unfold Retimed
  rw [h.conv n]

theorem standbyByClass_retimed (s : State) : Retimed s s.standbyByClass := by
  have stands (u : State) : Retimed u u.coupStandby := rfl
  have returns (u : State) : Retimed u u.coupReturn :=
    Retimed.trans (t := State.offerStrain (State.restartRepeat
      { u with station := .active, demand := u.resumeDemand,
               coup := { u.coup with interval := startTimer u.clock (ms (u.param Param.strainInterval)) },
               conv := u.conv.restart u.clock (ms 50) })) rfl (winchCauses_touches _).retimed
  unfold State.standbyByClass State.judgeCoupStandby State.whenever
  split
  · exact returns s
  · split
    · exact stands s
    · exact .refl s

theorem reportClass_retimed (s : State) : Retimed s s.reportClass :=
  (offerStrain_touches s).retimed.trans ((judgeWinch_touches _).retimed.trans (standbyByClass_retimed _))

theorem changeClass_retimed (s : State) (c : StrainClass) : Retimed s (s.changeClass c) := by
  unfold State.changeClass
  split
  · exact .refl s
  · exact (clearClass_touches s _).retimed.trans ((coup_touches _ _).retimed.trans ((raiseClass_touches _ _).retimed.trans
      ((OnlyTouches.ite (markOnset_touches _).mono (.refl [.coup, .link] _)).retimed.trans (reportClass_retimed _))))

theorem partedOnset_retimed (s : State) : Retimed s s.partedOnset :=
  (OnlyTouches.ite (.refl commsParts _) (clearClass_touches s _).mono).retimed.trans ((coup_touches _ _).retimed.trans
    ((raise_touches _ _).retimed.trans ((markOnset_touches _).retimed.trans (reportClass_retimed _))))

theorem judgeClass_retimed (s : State) : Retimed s s.judgeClass := by
  unfold State.judgeClass
  dsimp only
  split
  · exact (noteWindow_touches s).retimed.trans (changeClass_retimed _ _)
  · exact (noteWindow_touches s).retimed.trans (coup_touches _ _).retimed

theorem tensionInRange_retimed (s : State) (t : Nat) : Retimed s (s.tensionInRange t) := by
  let u := s.whenever s.coup.supervised fun s => s.clear .tensionSignal
  let v : State := { u with coup := u.coup.take t }
  let w := if s.tensionParts t then v.partedOnset else if s.coup.partedLatch then v.noteWindow else v.judgeClass
  have cleared : Retimed s u := (whenever_touches s _ (clear_touches s .tensionSignal)).retimed
  have judged : Retimed v w := by
    show Retimed v (if _ then _ else if _ then _ else _)
    split
    · exact partedOnset_retimed v
    · split
      · exact (noteWindow_touches v).retimed
      · exact judgeClass_retimed v
  have ended : Retimed w w.judgeWinch.hauledTaut := (judgeWinch_touches w).retimed.trans (hauledTaut_touches _).retimed
  exact cleared.trans (Retimed.trans (t := v) rfl (judged.trans ended))

theorem tensionDelivery_retimed (s : State) (r : Raw) (ok : Bool) : Retimed s (s.tensionDelivery r ok) := by
  unfold State.tensionDelivery State.whenever
  split
  · split
    · exact tensionInRange_retimed s _
    · exact (whenever_touches (f := fun s => (s.raiseNew .tensionSignal).judgeWinch) s _
        ((raiseNew_touches s .tensionSignal).mono.trans (judgeWinch_touches _).mono : OnlyTouches (.coup :: commsParts) s _)).retimed
  · exact .refl s

/-! ## The deliveries (R24, R79, R85, R183) -/

theorem rangeOf_eq (reference raw : Raw) : rangeOf reference raw =
    if (2008 ≤ reference.toNat ∧ reference.toNat ≤ 2088) ∧ 20 < raw.toNat ∧ raw.toNat < 4075 then .inRange else .fault := by
  have h := rangeOf_good (reference := reference) (raw := raw)
  split
  · rename_i good
    exact beq_iff_eq.mp (h.mpr good)
  · rename_i bad
    cases e : rangeOf reference raw with
    | inRange => exact absurd (h.mp (by rw [e]; rfl)) bad
    | fault => rfl

theorem leverValue_eq (raw : Raw) : leverValue raw =
    let v := max (-1000) (min 1000 (Int.tdiv (((raw.toNat : Int) - 2048) * 1000) 2047))
    if v.natAbs ≤ 20 then 0 else v := by
  have scaled : leverScale raw = max (-1000) (min 1000 (Int.tdiv (((raw.toNat : Int) - 2048) * 1000) 2047)) := by
    unfold leverScale clampInt
    split
    · omega
    · split <;> omega
  unfold leverValue
  rw [scaled]

/-- A helm with the levers' new values, its signal fault judged: the delivery up to the renumbering test (R24). -/
def State.levered (s : State) (a0 a1 : Raw) (ok0 ok1 : Bool) : State :=
  let t := { s with helm := { s.helm with
    live := { s.helm.live with thrust := leverAfter s.helm.live.thrust a0 ok0,
                               turn := leverAfter s.helm.live.turn a1 ok1 },
    thrustFault := !ok0, turnFault := !ok1 } }
  t.whenever t.station.helmReporting (fun t => t.follow .leverSignal (!ok0 || !ok1))

theorem leverDelivery_eq {s : State} (a0 a1 : Raw) (ok0 ok1 : Bool) (helm : s.isHelm = true) (timing : s.station.timing = true) :
    s.leverDelivery a0 a1 ok0 ok1 = (s.levered a0 a1 ok0 ok1).testNumber :=
  whenever_pos (Bool.and_eq_true_iff.mpr ⟨helm, timing⟩)

theorem LagsRenumbered.of_same {s v t : State} (h : LagsRenumbered v t) (peers : v.peers = s.peers)
    (number : v.helm.number = s.helm.number) (lag : v.helm.lag = s.helm.lag) (station : v.station = s.station)
    (has : v.has .stationLag = s.has .stationLag) : LagsRenumbered s t := by
  unfold LagsRenumbered State.livePropAt at *
  rw [peers, number, lag, station, has] at h
  exact h

/-- What a delivery of the levers leaves at a HELM station (R24, R26, R34). -/
theorem leverDelivery_leaves {s : State} (a0 a1 : Raw) (ok0 ok1 : Bool) (helm : s.isHelm = true)
    (timing : s.station.timing = true) :
    let t := s.leverDelivery a0 a1 ok0 ok1
    let live := { s.helm.live with thrust := leverAfter s.helm.live.thrust a0 ok0,
                                   turn := leverAfter s.helm.live.turn a1 ok1 }
    t.helm.live = live ∧
    (s.station.helmReporting = true → t.has .leverSignal = (!ok0 || !ok1)) ∧
    (s.helm.con ≠ .holding ∨ needsNumber live s.helm.current = false →
      t.helm = { s.helm with live := live, thrustFault := t.helm.thrustFault, turnFault := t.helm.turnFault } ∧
        t.demand = s.demand) ∧
    (s.helm.con = .holding → needsNumber live s.helm.current = true →
      (s.station.acting = true → s.load ≤ 6 → t.waits .demand = true) ∧ LagsRenumbered s t ∧
      t.helm.current = live ∧ t.helm.number = s.helm.number + 1 ∧
      t.demand.record = { demand := live, number := s.helm.number + 1, accepted := some s.clock, state := .fresh }) := by
  intro t live
  let u : State := { s with helm := { s.helm with live := live, thrustFault := !ok0, turnFault := !ok1 } }
  let v := s.levered a0 a1 ok0 ok1
  have tested : t = v.testNumber := leverDelivery_eq a0 a1 ok0 ok1 helm timing
  have touches : OnlyTouches commsParts u v := 
    whenever_touches (f := fun t => t.follow .leverSignal (!ok0 || !ok1)) u _ (follow_touches u _ _)
  have vhelm : v.helm = u.helm := touches.helm (by decide)
  have told : s.station.helmReporting = true → v.has .leverSignal = (!ok0 || !ok1) := fun reports => by
    show (u.whenever u.station.helmReporting _).has _ = _
    rw [whenever_pos (s := u) reports]
    exact follow_has_self u _ nofun
  have others (c : AlertCode) (ne : c ≠ .leverSignal) (nt : c ≠ .txLoss) : v.has c = s.has c := by
    show (u.whenever u.station.helmReporting _).has _ = _
    unfold State.whenever
    split
    · exact follow_has_ne u _ ne nt
    · rfl
  by_cases test : s.helm.con = .holding ∧ needsNumber live s.helm.current = true
  · have renumbers : t = v.renumber := by
      rw [tested]
      refine whenever_pos ?_
      rw [vhelm]
      exact Bool.and_eq_true_iff.mpr ⟨beq_iff_eq.mpr test.1, test.2⟩
    have vcomms : s.load ≤ 6 → v.load ≤ 6 := fun room => by
      show (u.whenever u.station.helmReporting _).load ≤ _
      unfold State.whenever
      split
      · exact (follow_loaded (s := u) _ _ (Nat.le_succ_of_le room)).load.trans room
      · exact room
    obtain ⟨helmed, demand, lags, has, waits⟩ := renumber_renumbers (s := v) (by unfold State.isHelm; rw [touches.role (by decide)]; exact helm)
    rw [← renumbers] at helmed demand lags has waits
    refine ⟨by rw [helmed, vhelm], fun reports => (has .leverSignal nofun nofun).trans (told reports), fun h => ?_,
      fun _ _ => ⟨fun act room => waits (by rw [touches.station (by decide)]; exact act) (vcomms room), ?_, ?_, ?_, ?_⟩⟩
    · exact absurd test fun both => h.elim (fun n => n both.1) fun n => nomatch n.symm.trans both.2
    · exact lags.of_same (touches.peers (by decide)) (by rw [vhelm]) (by rw [vhelm]) (touches.station (by decide))
        (others .stationLag nofun nofun)
    · rw [helmed, vhelm]
    · rw [helmed, vhelm]
    · rw [demand, vhelm]
      unfold State.freshRecord
      rw [touches.clock (by decide)]
  · have still : t = v := by
      rw [tested]
      refine whenever_neg (Bool.eq_false_iff.mpr fun h => test ?_)
      rw [vhelm] at h
      obtain ⟨con, moves⟩ := Bool.and_eq_true_iff.mp h
      exact ⟨beq_iff_eq.mp con, moves⟩
    rw [still]
    exact ⟨by rw [vhelm], told, fun _ => ⟨by rw [vhelm], touches.demand (by decide)⟩, fun con moves => absurd ⟨con, moves⟩ test⟩

theorem deliver_helm {s : State} (a0 a1 reference : Raw) (helm : s.isHelm = true) : s.deliver a0 a1 reference =
    s.leverDelivery a0 a1 (rangeOf reference a0 == .inRange) (rangeOf reference a1 == .inRange) := by
  unfold State.deliver
  rw [(isHelm_iff s).mp helm]

/-- The same by the judgements of the reference and of each channel (R183, R184). -/
theorem levers_delivered {s : State} (a0 a1 reference : Raw) (helm : s.isHelm = true) (timing : s.station.timing = true) :
    let good := fun (raw : Raw) => 20 < raw.toNat ∧ raw.toNat < 4075
    let sound := 2008 ≤ reference.toNat ∧ reference.toNat ≤ 2088
    let lever := fun (raw : Raw) =>
      let v := max (-1000) (min 1000 (Int.tdiv (((raw.toNat : Int) - 2048) * 1000) 2047))
      if v.natAbs ≤ 20 then 0 else v
    let differs := fun (live c : Demand) =>
      5 ≤ (live.thrust - c.thrust).natAbs ∨ 5 ≤ (live.turn - c.turn).natAbs ∨ live.mode ≠ c.mode ∨ live.cap ≠ c.cap ∨
        live.stopAll ≠ c.stopAll
    let t := s.leverDelivery a0 a1 (rangeOf reference a0 == .inRange) (rangeOf reference a1 == .inRange)
    t.helm.live.thrust = (if sound ∧ good a0 then lever a0 else s.helm.live.thrust) ∧
    t.helm.live.turn = (if sound ∧ good a1 then lever a1 else s.helm.live.turn) ∧
    t.helm.live.mode = s.helm.live.mode ∧ t.helm.live.cap = s.helm.live.cap ∧
    t.helm.live.stopAll = s.helm.live.stopAll ∧
    (s.station.helmReporting = true → (t.has .leverSignal = true ↔ ¬ (sound ∧ good a0 ∧ good a1))) ∧
    (s.helm.con ≠ .holding ∨ ¬ differs t.helm.live s.helm.current →
      t.helm = { s.helm with live := t.helm.live, thrustFault := t.helm.thrustFault,
                             turnFault := t.helm.turnFault } ∧
      t.demand = s.demand) ∧
    (s.helm.con = .holding → differs t.helm.live s.helm.current →
      (s.station.acting = true → s.comms.link.queue.length ≤ 5 → t.waits .demand = true) ∧ LagsRenumbered s t ∧
      t.helm.current = t.helm.live ∧ t.helm.number = s.helm.number + 1 ∧
      t.demand.record = { demand := t.helm.live, number := s.helm.number + 1, accepted := some s.clock,
                          state := .fresh }) := by
  intro good sound lever differs t
  obtain ⟨live, signal, still, renumbers⟩ :=
    leverDelivery_leaves a0 a1 (rangeOf reference a0 == .inRange) (rangeOf reference a1 == .inRange) helm timing
  have value (held : Int) (raw : Raw) : leverAfter held raw (rangeOf reference raw == .inRange) =
      if sound ∧ good raw then lever raw else held := by
    unfold leverAfter
    rw [leverValue_eq]
    exact if_congr rangeOf_good rfl rfl
  have moves := needsNumber_iff t.helm.live s.helm.current
  rw [← live] at still renumbers
  refine ⟨?_, ?_, by rw [live], by rw [live], by rw [live], fun reports => ?_, fun h => ?_, fun con moved => ?_⟩
  · rw [live]; exact value _ a0
  · rw [live]; exact value _ a1
  · rw [signal reports, ← Bool.not_and, Bool.not_eq_true', ← Bool.not_eq_true, Bool.and_eq_true_iff, rangeOf_good,
      rangeOf_good, ← and_and_left]
  · exact still (h.imp_right fun n => Bool.eq_false_iff.mpr fun m => n (moves.mp m))
  · obtain ⟨waits, rest⟩ := renumbers con (moves.mpr moved)
    exact ⟨fun act short => waits act ((load_le s).trans (Nat.succ_le_succ short)), rest⟩

/-! ### The rudder's delivery -/

theorem rudderDelivery_angle (s : State) (raw : Raw) :
    (s.rudderDelivery raw true).steer.angle = rudderAngle (s.param Param.angleSpan) raw := by
  let v : State := { s with steer := { s.steer with angle := rudderAngle (s.param Param.angleSpan) raw } }
  show (v.whenever _ State.rudderStep).steer.angle = _
  unfold State.whenever
  split
  · show (v.aimed.driveStep.spreadStep).steer.angle = _
    rw [(spreadStep_leaves _).1, (driveStep_kept _).steer, aimed_steer]
  · rfl

/-- The first fault of the feedback at a supervised station (R85). -/
theorem feedbackFault_first {s : State} (sound : s.steer.feedback = false) :
    s.feedbackFault.has .rudderFeedback = true ∧ s.feedbackFault.steer.feedback = true ∧
    s.feedbackFault.steer.drive = .inhibited ∧ s.feedbackFault.steer.deviation = none ∧
    s.feedbackFault.steer.angle = s.steer.angle ∧
    (s.steer.drive ≠ .inhibited → s.feedbackFault.steer.followTimer = none ∧
      (s.feedbackFault.outputs.outs.get 1).Closed ∧ (s.feedbackFault.outputs.outs.get 2).Closed) := by
  let u : State := { s.raiseNew .rudderFeedback with steer := { s.steer with feedback := true, deviation := none } }
  have faults : s.feedbackFault = u.inhibitDrive := if_neg (by rw [sound]; nofun)
  have told : u.inhibitDrive.has .rudderFeedback = true :=
    ((inhibitDrive_touches u).has (by decide) _).trans (raiseNew_has_self s _)
  rw [faults]
  by_cases held : s.steer.drive = .inhibited
  · have still : u.inhibitDrive = u := inhibitDrive_stays held
    rw [still] at told ⊢
    exact ⟨told, rfl, held, rfl, rfl, fun n => absurd held n⟩
  · obtain ⟨closes, port, stbd, -⟩ := inhibitDrive_closes (s := u) held
    refine ⟨told, ?_, ?_, ?_, ?_, fun _ => ⟨?_, port, stbd⟩⟩ <;> rw [closes]

/-- A delivery of a faulted result to the steering unit (R80, R85). -/
theorem rudderDelivery_fault (s : State) (raw : Raw) :
    (s.rudderDelivery raw false).steer.angle = s.steer.angle ∧
    (s.steer.supervised = true → s.station.acting = true → s.steer.feedback = false →
      (s.rudderDelivery raw false).has .rudderFeedback = true ∧ (s.rudderDelivery raw false).steer.feedback = true ∧
      (s.rudderDelivery raw false).steer.drive = .inhibited ∧ (s.rudderDelivery raw false).steer.deviation = none ∧
      (s.steer.drive ≠ .inhibited → (s.rudderDelivery raw false).steer.followTimer = none ∧
        ((s.rudderDelivery raw false).outputs.outs.get 1).Closed ∧ ((s.rudderDelivery raw false).outputs.outs.get 2).Closed)) ∧
    (s.steer.feedback = true → s.rudderDelivery raw false = s) := by
  have faulted (sound : s.steer.feedback = false) : s.rudderFault = s.feedbackFault.findRudderDemand :=
    if_neg (by rw [sound]; nofun)
  have further (fault : s.steer.feedback = true) : s.rudderFault = s := if_pos fault
  have delivers : s.rudderDelivery raw false = s.whenever (s.steer.supervised && s.station.acting) State.rudderFault := rfl
  rw [delivers]
  refine ⟨?_, fun up act sound => ?_, fun fault => ?_⟩
  · unfold State.whenever
    split
    · cases fault : s.steer.feedback with
      | true => rw [further fault]
      | false =>
        rw [faulted fault]
        exact (feedbackFault_first fault).2.2.2.2.1
    · rfl
  · rw [whenever_pos (Bool.and_eq_true_iff.mpr ⟨up, act⟩), faulted sound]
    obtain ⟨has, feedback, drive, deviation, -, closed⟩ := feedbackFault_first sound
    exact ⟨has, feedback, drive, deviation, closed⟩
  · unfold State.whenever
    split
    · exact further fault
    · rfl

theorem rudderDelivery_unsupervised {s : State} (raw : Raw) (ok : Bool) (new : s.steer.supervised = false) :
    (s.rudderDelivery raw ok).comms = s.comms ∧ (s.rudderDelivery raw ok).outputs = s.outputs ∧
      (s.rudderDelivery raw ok).steer.drive = s.steer.drive := by
  have idle : (s.steer.supervised && s.station.acting) = false := by rw [new]; rfl
  cases ok with
  | true =>
    let v : State := { s with steer := { s.steer with angle := rudderAngle (s.param Param.angleSpan) raw } }
    have still : s.rudderDelivery raw true = v := whenever_neg (s := v) idle
    rw [still]
    exact ⟨rfl, rfl, rfl⟩
  | false =>
    have still : s.rudderDelivery raw false = s := whenever_neg idle
    rw [still]
    exact ⟨rfl, rfl, rfl⟩

/-! ### The converter after a completion -/

theorem deliver_retimed (s : State) (a0 a1 reference : Raw) :
    Retimed s (s.deliver a0 a1 reference) ∧ (s.isCoup = false → (s.deliver a0 a1 reference).conv = s.conv) := by
  unfold State.deliver
  dsimp only
  split
  · have touches := leverDelivery_touches s a0 a1 (rangeOf reference a0 == .inRange) (rangeOf reference a1 == .inRange)
    exact ⟨touches.retimed, fun _ => touches.conv (by decide)⟩
  · have touches := whenever_touches (f := fun s => s.rudderDelivery a0 (rangeOf reference a0 == .inRange)) s
      s.station.joined (rudderDelivery_touches s a0 _)
    exact ⟨touches.retimed, fun _ => touches.conv (by decide)⟩
  · rename_i role
    refine ⟨tensionDelivery_retimed s _ _, fun other => ?_⟩
    unfold State.isCoup at other
    rw [role] at other
    exact nomatch other
  · exact ⟨rfl, fun _ => rfl⟩

theorem completedConverter_tables (s : State) (a0 a1 reference : Raw) :
    (s.completedConverter a0 a1 reference).latest.get 0 = some a0 ∧
    (s.completedConverter a0 a1 reference).range.get 0 = some (rangeOf reference a0) ∧
    (s.isHelm = true → (s.completedConverter a0 a1 reference).latest.get 1 = some a1 ∧
      (s.completedConverter a0 a1 reference).range.get 1 = some (rangeOf reference a1)) ∧
    (∀ i : Fin 8, 0 < i.val → s.isHelm = false ∨ 1 < i.val →
      (s.completedConverter a0 a1 reference).latest.get i = s.conv.latest.get i ∧
      (s.completedConverter a0 a1 reference).range.get i = s.conv.range.get i) := by
  unfold State.completedConverter
  dsimp only
  refine ⟨?_, ?_, fun helm => ?_, fun i pos apart => ?_⟩
  · split
    · exact (Tab.get_set_ne _ _ (by decide)).trans (Tab.get_set_self _ _ _)
    · exact Tab.get_set_self _ _ _
  · split
    · exact (Tab.get_set_ne _ _ (by decide)).trans (Tab.get_set_self _ _ _)
    · exact Tab.get_set_self _ _ _
  · rw [if_pos helm, if_pos helm]
    exact ⟨Tab.get_set_self _ _ _, Tab.get_set_self _ _ _⟩
  · have ne0 : i ≠ 0 := fun e => by rw [e] at pos; exact absurd pos (by decide)
    split
    · rename_i helm
      have ne1 : i ≠ 1 := fun e => by
        rw [e] at apart
        exact apart.elim (fun off => nomatch helm.symm.trans off) (fun h => absurd h (by decide))
      exact ⟨(Tab.get_set_ne _ _ ne1).trans (Tab.get_set_ne _ _ ne0), (Tab.get_set_ne _ _ ne1).trans (Tab.get_set_ne _ _ ne0)⟩
    · exact ⟨Tab.get_set_ne _ _ ne0, Tab.get_set_ne _ _ ne0⟩

/-- Settles O51: a completion keeps the results in the converter, and each role's unit takes its own. -/
theorem sequencesStartAndComplete : Obligations.SequencesStartAndComplete := by
  unfold Obligations.SequencesStartAndComplete
  intro good sound lever differs
  refine ⟨fun s dt last up series old => ?_, fun s a0 a1 reference since r role running => ?_, fun s dt l idle => ?_,
    fun s dt a0 a1 reference l since r role up running old => ?_⟩
  · intro next u
    refine ⟨_, exec_sequenceStart up series old, fun idle => ?_, fun busy reports => ?_, fun busy silent => ?_⟩
    · dsimp only
      rw [if_pos idle]
      refine ⟨?_, rfl⟩
      have none : elapsed (s.later dt) (s.later dt) = 0 := by unfold elapsed; simp
      show List.take (elapsed (s.later dt) (s.later dt) / 40) _ = []
      rw [none]
      rfl
    · dsimp only
      rw [if_neg busy]
      have raises : u.whenever u.station.reporting (fun t => t.raiseNew .converterOverrun) = u.raiseNew .converterOverrun :=
        whenever_pos reports
      show Raised .converterOverrun u (u.whenever u.station.reporting fun t => t.raiseNew .converterOverrun)
      rw [raises]
      exact raiseNew_raised u .converterOverrun
    · dsimp only
      rw [if_neg busy]
      show u.whenever u.station.reporting (fun t => t.raiseNew .converterOverrun) = u
      exact whenever_neg (s := u) silent
  · refine ⟨_, step_nil rfl, ?_⟩
    intro channels
    have kept : State.sequenceResults (State.idle { s with pending := [] }) =
        channels.take (elapsed (State.idle { s with pending := [] }).clock since / 40) := by
      unfold State.sequenceResults
      have running' : (State.idle { s with pending := [] }).conv.state = .sequence since a0 a1 reference := running
      have role' : (State.idle { s with pending := [] }).role = some r := role
      rw [running', role']
      exact congrArg _ (sequenceRaws_eq r a0 a1 reference)
    rw [kept]
    exact ⟨List.take_prefix _ _, List.length_take.trans (Nat.min_comm _ _)⟩
  · have still : (s.advance dt).sequenceComplete = s.advance dt := by
      unfold State.sequenceComplete
      have idle' : (s.advance dt).conv.state = .idle := idle
      rw [idle']
    show Host.Outcome.next (State.setLevels (s.advance dt).sequenceComplete _) = _
    rw [still]
    rfl
  · let u := s.completed dt a0 a1 reference
    let v := u.deliver a0 a1 reference
    obtain ⟨retimed, kept⟩ := deliver_retimed u a0 a1 reference
    obtain ⟨latest0, range0, second, rest⟩ := completedConverter_tables (s.advance dt) a0 a1 reference
    have ok (raw : Raw) : (rangeOf reference raw == .inRange) = true ↔ sound reference ∧ good raw := rangeOf_good
    have range (raw : Raw) : some (rangeOf reference raw) = if sound reference ∧ good raw then some .inRange else some .fault := by
      rw [rangeOf_eq]
      exact apply_ite some _ _ _
    have coup : r ≠ .coupling → u.isCoup = false := fun n => by
      have role' : u.role = some r := role
      unfold State.isCoup
      rw [role']
      cases r <;> first | rfl | exact absurd rfl n
    have helmed : r = .helm → (s.advance dt).isHelm = true := fun e => by
      have role' : (s.advance dt).role = some r := role
      unfold State.isHelm
      rw [role', e]
      rfl
    have unhelmed : r ≠ .helm → (s.advance dt).isHelm = false := fun n => by
      have role' : (s.advance dt).role = some r := role
      unfold State.isHelm
      rw [role']
      cases r <;> first | rfl | exact absurd rfl n
    have propped : r = .propulsion → u.isProp = true := fun e => (isProp_iff u).mpr (role.trans (congrArg some e))
    have conv : v.conv = { u.conv with interval := v.conv.interval, series := v.conv.series } := retimed
    have touches : OnlyTouches deliveryParts u v := deliver_touches u a0 a1 reference
    have idle : (v.setLevels l).conv.state = .idle := by
      show v.conv.state = _
      rw [conv]
      rfl
    refine ⟨_, exec_completion l up running (by rw [role, sequenceLength_eq]; exact old), ?_⟩
    show _ ∧ _
    refine ⟨touches.clock (by decide), idle, rfl, sequenceResults_idle idle, ?_, ?_, fun n => ?_, ?_, ?_, fun helm => ?_,
      fun i pos apart => ?_, fun helm timing => ?_, fun helm => ?_, fun prop ref raw => ?_, fun prop bad => ?_,
      fun prop new => ?_, fun prop => ?_⟩
    · show v.conv.latestRef = _; rw [conv]; rfl
    · show v.conv.lastOverrun = _; rw [conv]; rfl
    · have same : v.conv = u.conv := kept (coup n)
      show v.conv.interval = _ ∧ v.conv.series = _
      rw [same]
      exact ⟨rfl, rfl⟩
    · show v.conv.latest.get 0 = _; rw [conv]; exact latest0
    · show v.conv.range.get 0 = _; rw [conv]; exact range0.trans (range a0)
    · obtain ⟨latest1, range1⟩ := second (helmed helm)
      refine ⟨?_, ?_⟩
      · show v.conv.latest.get 1 = _; rw [conv]; exact latest1
      · show v.conv.range.get 1 = _; rw [conv]; exact range1.trans (range a1)
    · show v.conv.latest.get i = _ ∧ v.conv.range.get i = _
      rw [conv]
      exact rest i pos (apart.imp_left unhelmed)
    · have delivered := levers_delivered (s := u) a0 a1 reference (helmed helm) timing
      have delivers : v = u.leverDelivery a0 a1 (rangeOf reference a0 == .inRange) (rangeOf reference a1 == .inRange) :=
        deliver_helm a0 a1 reference (helmed helm)
      rw [← delivers] at delivered
      obtain ⟨thrust, turn, mode, cap, stopAll, signal, still, renumbers⟩ := delivered
      refine ⟨thrust, turn, mode, cap, stopAll, signal, still, fun con moved => ?_⟩
      obtain ⟨waits, lags, current, number, record⟩ := renumbers con moved
      exact ⟨waits, lags.of_same rfl rfl rfl rfl rfl, current, number, record⟩
    · have delivers : v = u.leverDelivery a0 a1 (rangeOf reference a0 == .inRange) (rangeOf reference a1 == .inRange) :=
        deliver_helm a0 a1 reference (helmed helm)
      have helmParts := leverDelivery_touches u a0 a1 (rangeOf reference a0 == .inRange) (rangeOf reference a1 == .inRange)
      rw [← delivers] at helmParts
      exact (completed_touches s dt a0 a1 reference).mono.trans (helmParts.mono.trans (setLevels_touches _ _).mono)
    · have delivers : v = u.rudderDelivery a0 true := by
        rw [← (ok a0).mpr ⟨ref, raw⟩]
        exact deliver_prop a0 a1 reference (propped prop) up
      show v.steer.angle = _
      rw [delivers]
      exact rudderDelivery_angle u a0
    · have faulted : (rangeOf reference a0 == .inRange) = false := Bool.eq_false_iff.mpr fun h => bad ((ok a0).mp h)
      have delivers : v = u.rudderDelivery a0 false := by
        rw [← faulted]
        exact deliver_prop a0 a1 reference (propped prop) up
      obtain ⟨angle, first, further⟩ := rudderDelivery_fault u a0
      rw [← delivers] at angle first further
      refine ⟨angle, first, fun fault => ?_⟩
      have same : v = u := further fault
      show v.steer = _ ∧ v.comms = _ ∧ v.outputs = _
      rw [same]
      exact ⟨rfl, rfl, rfl⟩
    · have delivers : v = u.rudderDelivery a0 (rangeOf reference a0 == .inRange) :=
        deliver_prop a0 a1 reference (propped prop) up
      have quiet := rudderDelivery_unsupervised (s := u) a0 (rangeOf reference a0 == .inRange) new
      rw [← delivers] at quiet
      exact quiet
    · have delivers : v = u.rudderDelivery a0 (rangeOf reference a0 == .inRange) :=
        deliver_prop a0 a1 reference (propped prop) up
      have steering := rudderDelivery_touches u a0 (rangeOf reference a0 == .inRange)
      rw [← delivers] at steering
      exact (completed_touches s dt a0 a1 reference).mono.trans (steering.mono.trans (setLevels_touches _ _).mono)

end Sys2Proof.Machine
end

section
/-! SUPPORT. Capture edges, their timers and the outputs' periods (O54). -/

namespace Sys2Proof.Machine

-- As in Laws/Touches.lean: one theorem at a time.
set_option Elab.async false

/-! ## What the judgements leave of the measured speed -/

/-- The speed and the pulse marks of the governor supervisor stand. -/
structure PulseKept (s t : State) : Prop where
  rpm : t.gov.rpm = s.gov.rpm
  lastPulse : t.gov.lastPulse = s.gov.lastPulse
  pulseTimer : t.gov.pulseTimer = s.gov.pulseTimer
  noPulse : t.gov.noPulse = s.gov.noPulse

theorem PulseKept.trans {s t u : State} (h : PulseKept s t) (k : PulseKept t u) : PulseKept s u :=
  ⟨k.rpm.trans h.rpm, k.lastPulse.trans h.lastPulse, k.pulseTimer.trans h.pulseTimer, k.noPulse.trans h.noPulse⟩

theorem PulseKept.of_gov {s t : State} (h : t.gov = s.gov) : PulseKept s t := by
  constructor <;> rw [h]

theorem refreshAvailability_pulse (s : State) : PulseKept s s.refreshAvailability := by
  obtain ⟨-, e⟩ | ⟨-, e⟩ := refreshAvailability_gov s
  · exact .of_gov e
  · constructor <;> rw [e] <;> rfl

theorem followAvail_pulse (s : State) (c : AlertCode) (b : Bool) : PulseKept s (s.followAvail c b) := by
  unfold State.followAvail
  split
  · exact .of_gov rfl
  · exact (PulseKept.of_gov ((follow_touches s c b).gov (by decide))).trans (refreshAvailability_pulse _)

theorem judgeShaft_pulse (s : State) : PulseKept s s.judgeShaft := by
  unfold State.judgeShaft State.whenever
  split
  · exact followAvail_pulse s _ _
  · exact .of_gov rfl

theorem judgeOverspeed_pulse (s : State) : PulseKept s s.judgeOverspeed := by
  unfold State.judgeOverspeed State.whenever
  split
  · exact (PulseKept.of_gov ((raise_touches s _).gov (by decide))).trans (refreshAvailability_pulse _)
  · exact .of_gov rfl

theorem followJudgement_pulse (s : State) : PulseKept s s.followJudgement := by
  rw [followJudgement_eq]
  exact ⟨rfl, rfl, rfl, rfl⟩

theorem followAvail_has {s : State} {c : AlertCode} (b : Bool) (n : c ≠ .txLoss) :
    (s.followAvail c b).has c = b ∧ ∀ d, d ≠ c → d ≠ .txLoss → (s.followAvail c b).has d = s.has d := by
  unfold State.followAvail
  split
  · rename_i same
    exact ⟨beq_iff_eq.mp same, fun _ _ _ => rfl⟩
  · have kept := fun d => (refreshAvailability_touches (s.follow c b)).has (by decide) d
    exact ⟨(kept c).trans (follow_has_self s b n), fun d ne nt => (kept d).trans (follow_has_ne s b ne nt)⟩

theorem judgeShaft_has {s : State} (prop : s.isProp = true) (act : s.station.acting = true) :
    s.judgeShaft.has .shaftSignal = (s.gov.noPulse || (s.caps.get 0).noise) := by
  rw [judgeShaft_eq prop act]
  exact (followAvail_has (c := .shaftSignal) _ nofun).1

theorem judgeShaft_has_ne (s : State) {c : AlertCode} (n : c ≠ .shaftSignal) (nt : c ≠ .txLoss) :
    s.judgeShaft.has c = s.has c := by
  unfold State.judgeShaft State.whenever
  split
  · exact (followAvail_has (c := .shaftSignal) _ nofun).2 c n nt
  · rfl

/-- OVERSPEED judged above the limit at an acting station: present, and newly so with no availability (R50, R51, R74). -/
theorem judgeOverspeed_over {s : State} (prop : s.isProp = true) (act : s.station.acting = true)
    (fast : s.overLimit = true) : s.judgeOverspeed.has .overspeed = true ∧
      (s.has .overspeed = false → s.judgeOverspeed.thrust.factor = 0 ∧ s.judgeOverspeed.thrust.x = 0) := by
  cases present : s.has .overspeed with
  | true =>
    have still : s.judgeOverspeed = s := whenever_neg (by rw [present, Bool.not_true, Bool.and_false])
    rw [still]
    exact ⟨present, nofun⟩
  | false =>
    have raises : s.judgeOverspeed = (s.raise .overspeed).refreshAvailability :=
      whenever_pos (by rw [prop, act, fast, present]; rfl)
    have told : (s.raise .overspeed).has .overspeed = true := raise_has_self s _
    obtain ⟨factor, ahead, astern, x⟩ := refreshAvailability_refreshed (s := s.raise .overspeed) prop (taking_of_acting act)
    have none : (s.raise .overspeed).factorNow = 0 := by
      rw [factorNow_eq]
      exact if_pos (.inr (.inl told))
    rw [raises]
    refine ⟨((refreshAvailability_touches _).has (by decide) _).trans told, fun _ => ⟨factor.trans none, ?_⟩⟩
    rw [x, astern, ahead, none]
    simp [withinAvailability_none]

theorem judgeOverspeed_has_ne (s : State) {c : AlertCode} (n : c ≠ .overspeed) (nt : c ≠ .txLoss) :
    s.judgeOverspeed.has c = s.has c := by
  unfold State.judgeOverspeed State.whenever
  split
  · exact ((refreshAvailability_touches _).has (by decide) _).trans (raise_has_ne s n nt)
  · rfl

/-! ## The measured speed set (R72, R74) -/

theorem setSpeed_leaves (s : State) (rpm : Nat) :
    (s.setSpeed rpm).gov.rpm = rpm ∧ (s.setSpeed rpm).gov.lastPulse = s.gov.lastPulse ∧
    (s.setSpeed rpm).gov.pulseTimer = s.gov.pulseTimer ∧ (s.setSpeed rpm).gov.noPulse = s.gov.noPulse ∧
    (∀ c, c ≠ .overspeed → c ≠ .txLoss → (s.setSpeed rpm).has c = s.has c) ∧
    (s.isProp = true → s.station.acting = true → rpm ≠ s.gov.rpm → overspeedLimit (s.param Param.maxSpeed) < rpm →
      (s.setSpeed rpm).has .overspeed = true ∧
      (s.has .overspeed = false → (s.setSpeed rpm).thrust.factor = 0 ∧ (s.setSpeed rpm).thrust.x = 0)) := by
  unfold State.setSpeed
  split
  · rename_i same
    exact ⟨same.symm, rfl, rfl, rfl, fun _ _ _ => rfl, fun _ _ n => absurd same n⟩
  · let u : State := { s with gov := { s.gov with rpm := rpm },
                              meter := { s.meter with flowWatch := s.flowWatchAfter rpm } }
    let v := u.judgeOverspeed
    have judged (b : Bool) : PulseKept v (v.whenever b State.followJudgement) ∧
        (∀ c, (v.whenever b State.followJudgement).has c = v.has c) ∧
        (v.whenever b State.followJudgement).thrust = v.thrust := by
      cases b
      · exact ⟨.of_gov rfl, fun _ => rfl, rfl⟩
      · exact ⟨followJudgement_pulse v, fun _ => rfl, rfl⟩
    obtain ⟨pulse, has, thrust⟩ := judged (v.followRuns && v.gov.settled)
    have kept := (judgeOverspeed_pulse u).trans pulse
    dsimp only
    refine ⟨kept.rpm, kept.lastPulse, kept.pulseTimer, kept.noPulse, fun c n nt => ?_, fun prop act _ fast => ?_⟩
    · exact (has c).trans (judgeOverspeed_has_ne u n nt)
    · obtain ⟨over_, power⟩ := judgeOverspeed_over (s := u) prop act (decide_eq_true fast)
      exact ⟨(has _).trans over_, fun new => by rw [thrust]; exact power new⟩

/-! ## An edge (R72, R73, R109, R120, R171, R172) -/

/-- An accepted edge of the shaft (R72 to R74). -/
theorem shaftEdge_leaves {s : State} (period : Option Nat) (prop : s.isProp = true) :
    (s.shaftEdge period).gov.lastPulse = some s.clock ∧ (s.shaftEdge period).gov.pulseTimer = startTimer s.clock (sec 2) ∧
    (s.shaftEdge period).gov.noPulse = false ∧
    (s.shaftEdge period).gov.rpm =
      (match period with | none => s.gov.rpm | some p => speedOfPeriod (s.param Param.pulsesPerRev) p) ∧
    (s.station.acting = true → (s.shaftEdge period).has .shaftSignal = (s.caps.get 0).noise ∧
      ((s.shaftEdge period).gov.rpm ≠ s.gov.rpm →
        overspeedLimit (s.param Param.maxSpeed) < (s.shaftEdge period).gov.rpm →
        (s.shaftEdge period).has .overspeed = true ∧
        (s.has .overspeed = false → (s.shaftEdge period).thrust.factor = 0 ∧ (s.shaftEdge period).thrust.x = 0))) := by
  let u : State := { s with gov := { s.gov with
    lastPulse := some s.clock, pulseTimer := startTimer s.clock (sec 2), watch := s.watchStart, noPulse := false } }
  let v := u.judgeShaft
  have pulse : PulseKept u v := judgeShaft_pulse u
  have touches : OnlyTouches driveComms u v := judgeShaft_touches u
  have start : v.start = s.start := touches.start (by decide)
  have param (q : ParamSpec) : v.param q = s.param q := by unfold State.param; rw [start]
  have told (act : s.station.acting = true) : v.has .shaftSignal = (s.caps.get 0).noise :=
    judgeShaft_has (s := u) prop act
  cases period with
  | none => exact ⟨pulse.lastPulse, pulse.pulseTimer, pulse.noPulse, pulse.rpm, fun act =>
      ⟨told act, fun moved => absurd pulse.rpm moved⟩⟩
  | some p =>
    obtain ⟨rpm, last, timer, none, has, overspeed⟩ := setSpeed_leaves v (speedOfPeriod (s.param Param.pulsesPerRev) p)
    refine ⟨last.trans pulse.lastPulse, timer.trans pulse.pulseTimer, none.trans pulse.noPulse, ?_, fun act =>
      ⟨(has .shaftSignal nofun nofun).trans (told act), fun moved fast => ?_⟩⟩
    · exact rpm
    · have rpm' : (s.shaftEdge (some p)).gov.rpm = speedOfPeriod (s.param Param.pulsesPerRev) p := rpm
      rw [rpm'] at moved fast
      have sped := overspeed (by unfold State.isProp; rw [touches.role (by decide)]; exact prop)
        (by rw [touches.station (by decide)]; exact act) (by rw [pulse.rpm]; exact moved) (by rw [param]; exact fast)
      have old : v.has .overspeed = s.has .overspeed := judgeShaft_has_ne u nofun nofun
      rw [old] at sped
      exact sped

theorem judgeFlow_has {s : State} (prop : s.isProp = true) (act : s.station.acting = true) :
    s.judgeFlow.has .flowSignal = (s.meter.noSupply || (s.caps.get 1).noise || (s.caps.get 2).noise) := by
  rw [judgeFlow_follows prop act]
  exact follow_has_self _ _ nofun

theorem accepts_iff (c : Channel) (now : Clock) (minimum : Nat) :
    c.accepts now minimum = true ↔ ∀ stamp, c.stamp = some stamp → minimum ≤ elapsed now stamp := by
  unfold Channel.accepts
  cases c.stamp <;> simp

/-- The state in which an edge is handed to the channel's owner. -/
def State.edged (s : State) (dt : Micros) (ch : Fin 4) (c : Channel) : State := (s.advance dt).setChannel ch c

theorem exec_edge_accepted {s : State} {dt : Micros} {ch : Fin 4} (h : ∀ stamp, (s.caps.get ch).stamp = some stamp →
    s.param (Param.minInterval ch) ≤ elapsed (s.later dt) stamp) :
    exec (.captureEdge dt ch) s = .next ((s.edged dt ch ((s.caps.get ch).accepted (s.later dt))).ownEdge ch) :=
  congrArg Host.Outcome.next (if_pos ((accepts_iff _ _ _).mpr h))

theorem exec_edge_rejected {s : State} {dt : Micros} {ch : Fin 4} (h : ∃ stamp, (s.caps.get ch).stamp = some stamp ∧
    elapsed (s.later dt) stamp < s.param (Param.minInterval ch)) :
    exec (.captureEdge dt ch) s = .next ((s.edged dt ch ((s.caps.get ch).rejected (s.later dt))).ownNoise ch) := by
  obtain ⟨stamp, has, short⟩ := h
  exact congrArg Host.Outcome.next (if_neg fun a => absurd ((accepts_iff _ _ _).mp a stamp has) (Nat.not_le_of_lt short))

/-- A change of a channel's noise, told to its owner, leaves the speed and the coupling. -/
theorem ownNoise_leaves (s : State) (ch : Fin 4) :
    (s.ownNoise ch).gov.rpm = s.gov.rpm ∧
    (s.isProp = true → s.station.acting = true →
      (ch = 0 → (s.ownNoise ch).has .shaftSignal = (s.gov.noPulse || (s.caps.get 0).noise)) ∧
      (ch = 1 ∨ ch = 2 → (s.ownNoise ch).has .flowSignal =
        (s.meter.noSupply || (s.caps.get 1).noise || (s.caps.get 2).noise))) ∧
    (s.isProp = false ∨ s.station.acting = false ∨ ch = 3 → s.ownNoise ch = s) := by
  unfold State.ownNoise
  refine ⟨?_, fun prop act => ⟨fun zero => ?_, fun flow => ?_⟩, fun idle => ?_⟩
  · split
    · exact (judgeShaft_pulse s).rpm
    · split
      · rfl
      · exact congrArg (·.rpm) ((judgeFlow_touches s).gov (by decide))
  · rw [if_pos zero]
    exact judgeShaft_has prop act
  · rw [if_neg (by rcases flow with rfl | rfl <;> decide), if_neg (by rcases flow with rfl | rfl <;> decide)]
    exact judgeFlow_has prop act
  · have off (h : s.isProp = false ∨ s.station.acting = false) : (s.isProp && s.station.acting) = false :=
      h.elim (fun h => by rw [h]; rfl) (fun h => by rw [h, Bool.and_false])
    split
    · rename_i zero
      refine whenever_neg (off (idle.imp_right fun h => h.resolve_right fun three => ?_))
      rw [zero] at three
      exact absurd three (by decide)
    · split
      · rfl
      · rename_i other three
        exact whenever_neg (off (idle.imp_right fun h => h.resolve_right three))

/-- An edge of the drum at a heaving winch counts, and ends a heave that has paid in too much (R109). -/
theorem drumEdge_counts {s : State} (coup : s.isCoup = true) (act : s.station = .active) (heave : s.coup.winch = .heaving) :
    let pulses := ((s.caps.get 0).count - s.coup.drumSnap).toNat
    s.drumEdge.coup.drumCount = pulses ∧
    (pulses ≤ s.param Param.maxDrumCount → s.drumEdge.coup = { s.coup with drumCount := pulses } ∧ s.drumEdge.comms = s.comms) ∧
    (s.param Param.maxDrumCount < pulses → s.drumEdge.coup.winch = .lockedOut ∧ s.drumEdge.coup.runTimer = none ∧
      s.drumEdge.has .winchRun = true) := by
  intro pulses
  let u : State := { s with coup := { s.coup with drumCount := pulses } }
  have counts : s.drumEdge = u.whenever (decide (s.param Param.maxDrumCount < pulses)) State.winchRun :=
    whenever_pos (by rw [coup, act, heave]; rfl)
  rw [counts]
  by_cases far : s.param Param.maxDrumCount < pulses
  · rw [whenever_pos (decide_eq_true far)]
    exact ⟨rfl, fun near => absurd far (Nat.not_lt_of_le near), fun _ => ⟨rfl, rfl, raise_has_self _ _⟩⟩
  · rw [whenever_neg (decide_eq_false far)]
    exact ⟨rfl, fun _ => ⟨rfl, rfl⟩, fun h => absurd h far⟩

theorem edged_touches (s : State) (dt : Micros) (ch : Fin 4) (c : Channel) :
    OnlyTouches [.clock, .caps] s (s.edged dt ch c) :=
  (advance_touches s dt).mono.trans (setChannel_touches _ _ _).mono

/-- What the owner of a channel can touch at an edge. -/
theorem ownEdge_owned (s : State) (ch : Fin 4) :
    OnlyTouches [.present, .alerts, .link, .thrust, .gear, .gov, .outputs, .meter, .coup] s (s.ownEdge ch) := by
  unfold State.ownEdge
  split
  · exact .ite (whenever_touches s _ (shaftEdge_touches s _)).mono (.ite (supplyEdge_touches s).mono (.refl _ _))
  · exact .ite (drumEdge_touches s).mono (.refl _ _)
  · exact .refl _ _
  · exact .refl _ _

theorem ownEdge_unowned {s : State} {ch : Fin 4} (h : s.isHelm = true ∨ ch = 3) : s.ownEdge ch = s := by
  unfold State.ownEdge
  rcases h with helm | rfl
  · rw [(isHelm_iff s).mp helm]
  · split <;> rfl

theorem ownEdge_shaft {s : State} (prop : s.isProp = true) (up : s.station.joined = true) :
    s.ownEdge 0 = s.shaftEdge (s.caps.get 0).period := by
  unfold State.ownEdge
  rw [(isProp_iff s).mp prop]
  exact whenever_pos (f := fun s => s.shaftEdge (s.caps.get 0).period) up

theorem ownEdge_supply {s : State} (prop : s.isProp = true) : s.ownEdge 1 = s.supplyEdge := by
  unfold State.ownEdge
  rw [(isProp_iff s).mp prop]
  rfl

theorem ownEdge_drum {s : State} (coup : s.isCoup = true) : s.ownEdge 0 = s.drumEdge := by
  unfold State.ownEdge
  rw [(isCoup_iff s).mp coup]
  rfl

theorem speedOfPeriod_pos (ppr : Nat) {period : Nat} (pos : 0 < period) :
    speedOfPeriod ppr period = if period < 2000000 then 60000000 / (period * ppr) else 0 :=
  if_neg (Nat.pos_iff_ne_zero.mp pos)

theorem startPeriod_out {s : State} (timer : due (some s.outputs.periods) s.clock = true) :
    s.startPeriod = { s with outputs :=
      { outs := s.outputs.outs.map Pwm.periodStart,
        periods := { s.outputs.periods with
          since := s.outputs.periods.since + BitVec.ofNat 32 s.outputs.periods.span } } } := whenever_pos timer

/-- What a period start does to one output (R176, R177). -/
theorem periodStart_takes (p : Pwm) :
    p.periodStart.pending = false ∧ p.periodStart.bankA = p.bankA ∧ p.periodStart.bankB = p.bankB ∧
    (p.pending = false → p.periodStart.inControl = p.inControl) ∧
    (p.pending = true → p.periodStart.inControl ≠ p.inControl) ∧
    (p.periodStart.inControl = .a → p.periodStart.driving = p.bankA) ∧
    (p.periodStart.inControl = .b → p.periodStart.driving = p.bankB) := by
  obtain ⟨a, b, control, pending, driving⟩ := p
  cases control <;> cases pending <;> simp [Pwm.periodStart, Pwm.duty, Bank.other]

/-- The level of an output within its period (R176). -/
theorem pwmLevel_iff (s : State) (i : Fin 3) : s.pwmLevel i = true ↔ 1000 ≤ (s.outputs.outs.get i).driving ∨
    elapsed s.clock s.outputs.periods.since < 2 * (s.outputs.outs.get i).driving := by
  simp only [State.pwmLevel, Bool.or_eq_true, decide_eq_true_eq, Nat.mul_comm 2]

/-- Settles O54: an edge is told to the channel's owner, whose units take it each by its own lemma. -/
theorem capturesAndPeriods : Obligations.CapturesAndPeriods := by
  refine ⟨fun s dt ch => ?_, fun s dt ch timer => ?_, fun s dt ch timer => exec_eq rfl timer rfl, fun s dt timer => ?_,
    fun s i => ?_⟩
  · intro c shortest accepts rejects
    have apart (d : Channel) (k : Fin 4) (n : k ≠ ch) : (s.edged dt ch d).caps.get k = s.caps.get k := Tab.get_set_ne _ _ n
    have placed (d : Channel) : (s.edged dt ch d).caps.get ch = d := Tab.get_set_self _ _ _
    by_cases ok : accepts
    · let u := s.edged dt ch (c.accepted (s.later dt))
      have begun : OnlyTouches [.clock, .caps] s u := edged_touches s dt ch _
      have owned := ownEdge_owned u ch
      have caps : (u.ownEdge ch).caps = u.caps := owned.caps (by decide)
      have chan : u.caps.get ch = c.accepted (s.later dt) := placed _
      refine ⟨u.ownEdge ch, exec_edge_accepted ok, owned.clock (by decide), fun k n => ?_, fun _ => ?_,
        fun ⟨stamp, has, short⟩ => absurd (ok stamp has) (Nat.not_le_of_lt short), fun unowned => ?_,
        fun _ prop up zero => ?_, fun _ prop one => ?_, fun _ coup zero act heave => ?_, begun.mono.trans owned.mono⟩
      · rw [caps]; exact apart _ k n
      · rw [caps]; exact chan
      · have same : u.ownEdge ch = u := ownEdge_unowned unowned
        rw [same]
        exact begun
      · subst zero
        rw [ownEdge_shaft (s := u) prop up, chan]
        obtain ⟨last, timer, none, rpm, shaft⟩ := shaftEdge_leaves (s := u) (c.accepted (s.later dt)).period prop
        refine ⟨last, timer, none, fun fresh => rpm.trans ?_, fun stamp had pos => rpm.trans ?_, fun act => ?_⟩
        · unfold Channel.period Channel.accepted
          rw [fresh]
          rfl
        · unfold Channel.period Channel.accepted
          rw [had]
          exact speedOfPeriod_pos _ pos
        · obtain ⟨signal, overspeed⟩ := shaft act
          rw [chan] at signal
          exact ⟨signal, overspeed⟩
      · subst one
        rw [ownEdge_supply (s := u) prop]
        let v : State := { u with meter := { u.meter with noSupply := false, flowWatch := u.flowStart } }
        have edge : u.supplyEdge = v.judgeFlow := rfl
        rw [edge]
        refine ⟨congrArg (·.noSupply) ((judgeFlow_touches v).meter (by decide)), fun act => ?_⟩
        have other : v.caps.get 2 = s.caps.get 2 := apart _ 2 (by decide)
        have own : v.caps.get 1 = c.accepted (s.later dt) := chan
        refine (judgeFlow_has (s := v) prop act).trans ?_
        rw [own, other]
        rfl
      · subst zero
        intro pulses
        rw [ownEdge_drum (s := u) coup]
        have counted := drumEdge_counts (s := u) coup act heave
        rw [chan] at counted
        exact counted
    · have no : rejects := by
        by_contra none
        exact ok fun stamp has => Nat.le_of_not_lt fun short => none ⟨stamp, has, short⟩
      let u := s.edged dt ch (c.rejected (s.later dt))
      have begun : OnlyTouches [.clock, .caps] s u := edged_touches s dt ch _
      have owned := ownNoise_touches u ch
      have caps : (u.ownNoise ch).caps = u.caps := owned.caps (by decide)
      have chan : u.caps.get ch = c.rejected (s.later dt) := placed _
      obtain ⟨rpm, told, still⟩ := ownNoise_leaves u ch
      refine ⟨u.ownNoise ch, exec_edge_rejected no, owned.clock (by decide), fun k n => ?_, fun yes => absurd yes ok,
        fun _ => ⟨?_, rpm, owned.coup (by decide), owned.meter (by decide), fun prop act => ?_⟩, fun unowned => ?_,
        fun yes => absurd yes ok, fun yes => absurd yes ok, fun yes => absurd yes ok, begun.mono.trans owned.mono⟩
      · rw [caps]; exact apart _ k n
      · rw [caps]; exact chan
      · obtain ⟨shaft, flow⟩ := told prop act
        have noisy : (u.caps.get ch).noise = true := by rw [chan]; rfl
        refine ⟨fun zero => ?_, fun which => ?_⟩
        · subst zero
          rw [shaft rfl, noisy, Bool.or_true]
        · rw [flow which]
          rcases which with rfl | rfl <;> rw [noisy] <;> simp
      · have same : u.ownNoise ch = u := still (unowned.imp (fun helm => ?_) .inr)
        · rw [same]
          exact begun
        · exact isProp_of_helm helm
  · let c : Channel := { s.caps.get ch with noise := false, noiseTimer := none }
    let u := s.edged dt ch c
    have begun := edged_touches s dt ch c
    have owned := ownNoise_touches u ch
    obtain ⟨-, told, still⟩ := ownNoise_leaves u ch
    refine ⟨u.ownNoise ch, exec_eq rfl timer rfl, owned.clock (by decide), owned.caps (by decide), fun prop act => ?_,
      fun idle => ?_, begun.mono.trans owned.mono⟩
    · obtain ⟨shaft, flow⟩ := told prop act
      refine ⟨fun zero => ?_, fun one => ?_, fun two => ?_⟩
      · subst zero
        refine (shaft rfl).trans ?_
        have quiet : (u.caps.get 0).noise = false := congrArg Channel.noise (Tab.get_set_self _ _ _)
        rw [quiet, Bool.or_false]
        rfl
      · subst one
        refine (flow (.inl rfl)).trans ?_
        have quiet : (u.caps.get 1).noise = false := congrArg Channel.noise (Tab.get_set_self _ _ _)
        have other : u.caps.get 2 = s.caps.get 2 := Tab.get_set_ne _ _ (by decide)
        rw [quiet, other, Bool.or_false]
        rfl
      · subst two
        refine (flow (.inr rfl)).trans ?_
        have quiet : (u.caps.get 2).noise = false := congrArg Channel.noise (Tab.get_set_self _ _ _)
        have other : u.caps.get 1 = s.caps.get 1 := Tab.get_set_ne _ _ (by decide)
        rw [quiet, other, Bool.or_false]
        rfl
    · have same : u.ownNoise ch = u := still idle
      rw [same]
      exact begun
  · have starts := startPeriod_out (s := s.advance dt) timer
    refine ⟨_, rfl, ?_⟩
    rw [starts]
    refine ⟨rfl, rfl, fun i => ?_, (advance_touches s dt).mono.trans (outputs_touches _ _).mono⟩
    dsimp only
    rw [Tab.get_map]
    exact periodStart_takes _
  · intro duty into
    have level := pwmLevel_iff s i
    refine ⟨fun low => Bool.eq_false_iff.mpr fun high => ?_, fun full => level.mpr (.inl full), fun pos part => level.trans ?_⟩
    · have zero : (s.outputs.outs.get i).driving = 0 := low
      rw [level, zero] at high
      exact high.elim (by decide) (Nat.not_lt_zero _)
    · exact or_iff_right (Nat.not_le_of_lt part)

end Sys2Proof.Machine
end

section
/-! SUPPORT. The coupling's wire and winch: the events of O53. -/

namespace Sys2Proof.Machine

-- As in Laws/Touches.lean: one theorem at a time.
set_option Elab.async false

/-! ## The winch at rest, judged anew (R107, R110, R111) -/

/-- The slack dwell as a winch that has come to rest in IDLE leaves it. -/
def State.dwellFrom (s : State) : Option Timer :=
  if s.coup.supervised = true ∧ s.coup.cls = .slack ∧ s.permit = true ∧ s.has .tensionSignal = false
  then startTimer s.clock (sec (s.param Param.slackDwell)) else none

theorem judgeWinch_rested {s : State} (coup : s.isCoup = true) (act : s.station = .active) :
    State.judgeWinch { s with coup := s.coup.rest .idle } =
      { s with coup := { s.coup.rest .idle with dwellTimer := s.dwellFrom } } := by
  let u : State := { s with coup := s.coup.rest .idle }
  have permit : u.permit = s.permit := permit_congr (s := s) coup rfl rfl rfl rfl rfl rfl rfl rfl
  have holds : u.dwellHolds = true ↔ s.coup.cls = .slack ∧ s.permit = true ∧ s.has .tensionSignal = false :=
    permit ▸ dwellHolds_iff u
  cases up : s.coup.supervised with
  | false =>
    have off : s.dwellFrom = none := if_neg (by rw [up]; rintro ⟨h, -⟩; exact nomatch h)
    rw [off]
    refine whenever_neg ?_
    show (s.isCoup && s.station == .active && s.coup.supervised) = false
    rw [up, Bool.and_false]
  | true =>
    have judged : u.judgeWinch = u.winchStep := by
      refine whenever_pos ?_
      show (s.isCoup && s.station == .active && s.coup.supervised) = true
      rw [coup, act, up]
      rfl
    have found : s.dwellFrom = if u.dwellHolds = true then startTimer s.clock (sec (s.param Param.slackDwell)) else none :=
      if_congr ⟨fun h => holds.mpr h.2, fun h => ⟨up, holds.mp h⟩⟩ rfl rfl
    rw [judged, found]
    unfold State.winchStep
    rw [if_neg (by simp [u, CouplingUnit.rest])]
    cases u.dwellHolds <;> rfl

/-! ## The outputs of a heave (R105) -/

theorem outputChanges_starts {s t : State} (coup : s.isCoup = true) (coup' : t.isCoup = true) (old : s.coup.winch ≠ .heaving)
    (act : t.station.acting = true) (new : t.coup.winch = .heaving) :
    outputChanges s t = [((1 : Fin 8), true), ((0 : Fin 8), true)] := by
  obtain ⟨old0, old1⟩ := discrete_winch coup
  obtain ⟨new0, new1⟩ := discrete_winch coup'
  have off : s.discrete 0 = false := by rw [old0, beq_eq_false_iff_ne.mpr old, Bool.and_false]
  have on : t.discrete 0 = true := by rw [new0, not_safe_of_acting act, new]; rfl
  unfold outputChanges
  simp [off, on, old1, new1]

theorem outputChanges_stops {s t : State} (coup : s.isCoup = true) (coup' : t.isCoup = true) (act : s.station.acting = true)
    (old : s.coup.winch = .heaving) (new : t.coup.winch ≠ .heaving) :
    outputChanges s t = [((0 : Fin 8), false), ((1 : Fin 8), false)] := by
  obtain ⟨old0, old1⟩ := discrete_winch coup
  obtain ⟨new0, new1⟩ := discrete_winch coup'
  have on : s.discrete 0 = true := by rw [old0, not_safe_of_acting act, old]; rfl
  have off : t.discrete 0 = false := by rw [new0, beq_eq_false_iff_ne.mpr new, Bool.and_false]
  unfold outputChanges
  simp [off, on, old1, new1]

theorem outputChanges_none {s t : State} (h : ∀ i : Fin 8, t.discrete i = s.discrete i) : outputChanges s t = [] := by
  unfold outputChanges
  simp [h]

/-! ## A report of the class, and an onset (R100, R104, R196) -/

/-- A frame offered of which one waits leaves the station as it was. -/
theorem offer_coalesced {s : State} {k : FrameKind} (c : Fin 4) (kind : coalescing k = true) (waits : s.waits k = true) :
    ∀ j, s.waits j = true → (s.offer k c).waits j = true := by
  intro j h
  have same : coalesced ⟨k, c, s.clock, none⟩ s.comms.link.queue = true := Bool.and_eq_true_iff.mpr ⟨kind, waits⟩
  have queue : (s.comms.offer s.station s.clock ⟨k, c, s.clock, none⟩).link.queue = s.comms.link.queue := by
    unfold Comms.offer
    split
    · have kept : offerLoses ⟨k, c, s.clock, none⟩ s.comms.link.queue = false := by unfold offerLoses; rw [same]; rfl
      rw [kept, afterLoss_false]
      exact if_pos same
    · rfl
  unfold State.waits at h ⊢
  exact (congrArg (fun q : List Waiting => q.any fun w => w.kind == j) queue).trans h

/-- What a report of the class leaves. -/
structure Reports (s t : State) : Prop where
  coup : t.coup = { s.coup with
    winch := t.coup.winch, dwellTimer := t.coup.dwellTimer, runTimer := t.coup.runTimer,
    settleTimer := t.coup.settleTimer, interval := t.coup.interval }
  has : ∀ c, c ≠ .txLoss → t.has c = s.has c

theorem Reports.refl (s : State) : Reports s s := ⟨rfl, fun _ _ => rfl⟩

theorem Reports.trans {s t u : State} (h : Reports s t) (k : Reports t u) : Reports s u :=
  ⟨by rw [k.coup, h.coup], fun c n => (k.has c n).trans (h.has c n)⟩

theorem offerStrain_reports (s : State) : Reports s s.offerStrain := ⟨rfl, fun _ n => offer_has s _ _ n⟩

theorem winchStep_only (s : State) : s.winchStep.coup = { s.coup with
    winch := s.winchStep.coup.winch, dwellTimer := s.winchStep.coup.dwellTimer, runTimer := s.winchStep.coup.runTimer,
    settleTimer := s.winchStep.coup.settleTimer } := by
  unfold State.winchStep
  dsimp only
  split <;> rfl

theorem judgeWinch_only (s : State) : s.judgeWinch.coup = { s.coup with
    winch := s.judgeWinch.coup.winch, dwellTimer := s.judgeWinch.coup.dwellTimer,
    runTimer := s.judgeWinch.coup.runTimer, settleTimer := s.judgeWinch.coup.settleTimer } := by
  unfold State.judgeWinch State.whenever
  split
  · exact winchStep_only s
  · rfl

theorem judgeWinch_reports (s : State) : Reports s s.judgeWinch :=
  ⟨by rw [judgeWinch_only], fun c _ => (judgeWinch_touches s).has (by decide) c⟩

theorem winchCauses_only (s : State) : s.winchCauses.coup = { s.coup with
    winch := s.winchCauses.coup.winch, dwellTimer := s.winchCauses.coup.dwellTimer,
    runTimer := s.winchCauses.coup.runTimer, settleTimer := s.winchCauses.coup.settleTimer } := by
  unfold State.winchCauses
  split
  · rfl
  · rw [judgeWinch_only]
    rfl

theorem winchCauses_reports (s : State) : Reports s s.winchCauses :=
  ⟨by rw [winchCauses_only], fun c _ => (winchCauses_touches s).has (by decide) c⟩

theorem coupReturn_reports (s : State) : Reports s s.coupReturn :=
  Reports.trans (t := State.restartRepeat { s with
    station := .active, demand := s.resumeDemand,
    coup := { s.coup with interval := startTimer s.clock (ms (s.param Param.strainInterval)) },
    conv := s.conv.restart s.clock (ms 50) }) ⟨rfl, fun _ _ => rfl⟩
    ((offerStrain_reports _).trans (winchCauses_reports _))

theorem coupStandby_reports (s : State) : Reports s s.coupStandby :=
  Reports.trans (t := { s with
    station := .standby, demand := s.demand.pause, coup := { s.coup.rest .idle with interval := none },
    conv := s.conv.restart s.clock (ms 1000) }) ⟨rfl, fun _ _ => rfl⟩ (offerStrain_reports _)

theorem standbyByClass_reports (s : State) : Reports s s.standbyByClass := by
  unfold State.standbyByClass State.judgeCoupStandby State.whenever
  split
  · exact coupReturn_reports s
  · split
    · exact coupStandby_reports s
    · exact .refl s

theorem reportClass_reports (s : State) : Reports s s.reportClass :=
  (offerStrain_reports s).trans ((judgeWinch_reports _).trans (standbyByClass_reports _))

/-! ### The STRAIN that waits -/

theorem offerStrain_waits {s : State} (h : s.waits .strain = true) : s.offerStrain.waits .strain = true :=
  offer_coalesced s.strainClass (k := .strain) rfl h .strain h

theorem OnlyTouches.waits {ps : List Part} {s t : State} (touches : OnlyTouches ps s t) (k : FrameKind)
    (link : Part.link ∉ ps := by decide) : t.waits k = s.waits k := by
  unfold State.waits
  rw [touches.link link]

theorem standbyByClass_waits {s : State} (h : s.waits .strain = true) : s.standbyByClass.waits .strain = true := by
  unfold State.standbyByClass State.judgeCoupStandby State.whenever
  split
  · exact ((winchCauses_touches _).waits .strain).trans (offerStrain_waits (s := State.restartRepeat { s with
      station := .active, demand := s.resumeDemand,
      coup := { s.coup with interval := startTimer s.clock (ms (s.param Param.strainInterval)) },
      conv := s.conv.restart s.clock (ms 50) }) h)
  · split
    · exact offerStrain_waits (s := { s with
        station := .standby, demand := s.demand.pause, coup := { s.coup.rest .idle with interval := none },
        conv := s.conv.restart s.clock (ms 1000) }) h
    · exact h

theorem reportClass_waits {s : State} (act : s.station.acting = true) (free : s.load ≤ 7) :
    s.reportClass.waits .strain = true :=
  standbyByClass_waits (((judgeWinch_touches _).waits .strain).trans (offer_loaded .strain s.strainClass act free).2.1)

/-! ### The station after a report -/

/-- A report in ACTIVE that brings no standby. -/
theorem reportClass_active {s : State} (act : s.station = .active)
    (stays : s.start.request = false ∨ aboveTaut s.coup.cls = true) : s.reportClass = s.offerStrain.judgeWinch := by
  let b := s.offerStrain.judgeWinch
  have touches : OnlyTouches [.coup] s.offerStrain b := judgeWinch_touches _
  have station : b.station = .active := (touches.station (by decide)).trans act
  have cls : b.coup.cls = s.coup.cls := congrArg (·.cls) (judgeWinch_only s.offerStrain)
  have start : b.start = s.start := touches.start (by decide)
  show b.standbyByClass = b
  unfold State.standbyByClass
  rw [if_neg (by rw [station]; simp)]
  refine whenever_neg ?_
  rw [start, cls]
  rcases stays with h | h <;> rw [h] <;> simp

/-- A report in STANDBY at HIGH or above returns the station to ACTIVE (R196). -/
theorem reportClass_returns {s : State} (coup : s.isCoup = true) (stands : s.station = .standby)
    (high : aboveTaut s.coup.cls = true) : s.reportClass = s.offerStrain.coupReturn := by
  have still : s.offerStrain.judgeWinch = s.offerStrain := judgeWinch_idle (by
    show s.station ≠ .active
    rw [stands]; nofun)
  show s.offerStrain.judgeWinch.standbyByClass = _
  rw [still]
  refine if_pos ?_
  show (s.isCoup && s.station == .standby && aboveTaut s.coup.cls) = true
  rw [coup, stands, high]
  rfl

theorem reportClass_elsewhere {s : State} (n : s.station ≠ .active) (m : s.station ≠ .standby) :
    s.reportClass = s.offerStrain := by
  have still : s.offerStrain.judgeWinch = s.offerStrain := judgeWinch_idle n
  show s.offerStrain.judgeWinch.standbyByClass = _
  rw [still]
  unfold State.standbyByClass
  have station : s.offerStrain.station = s.station := rfl
  rw [if_neg (by rw [station, beq_eq_false_iff_ne.mpr m]; simp)]
  exact whenever_neg (by rw [station, beq_eq_false_iff_ne.mpr n]; simp)

/-! ### The repeat timer through an offer (R140) -/

theorem afterLoss_afresh {m : Comms} (b : Bool) {st : StationState} {now : Clock}
    (h : m.alerts.repeatTimer = repeatAfter st now m.alerts.list none) :
    (m.afterLoss b st now).alerts.repeatTimer = repeatAfter st now (m.afterLoss b st now).alerts.list none := by
  unfold Comms.afterLoss
  split
  · exact setList_afresh _ h
  · exact h

theorem offered_afresh {m : Comms} {st : StationState} {now : Clock} (w : Waiting)
    (h : m.alerts.repeatTimer = repeatAfter st now m.alerts.list none) :
    (m.offer st now w).alerts.repeatTimer = repeatAfter st now (m.offer st now w).alerts.list none := by
  unfold Comms.offer
  split
  · exact afterLoss_afresh _ h
  · exact h

theorem repeatsAfresh_iff {s : State} (act : s.station.acting = true) : s.RepeatsAfresh ↔
    s.comms.alerts.repeatTimer = repeatAfter s.station s.clock s.comms.alerts.list none := by
  have u : (fun e : AlertEntry => isUnack e.state) = fun e => e.state != .activeAcked := by
    funext e
    cases e.state <;> rfl
  unfold State.RepeatsAfresh repeatAfter
  rw [act, u, Bool.true_and]

/-- The return of a COUPLING station to ACTIVE (R140, R196). -/
theorem coupReturn_active (s : State) : s.coupReturn.station = .active ∧ s.coupReturn.RepeatsAfresh := by
  let r : State := State.restartRepeat { s with
    station := .active, demand := s.resumeDemand,
    coup := { s.coup with interval := startTimer s.clock (ms (s.param Param.strainInterval)) },
    conv := s.conv.restart s.clock (ms 50) }
  have touches : OnlyTouches [.coup] r.offerStrain s.coupReturn := winchCauses_touches r.offerStrain
  have station : s.coupReturn.station = .active := touches.station (by decide)
  refine ⟨station, (repeatsAfresh_iff (by rw [station]; rfl)).mpr ?_⟩
  rw [station, touches.clock (by decide), touches.alerts (by decide)]
  exact offered_afresh (st := .active) _ rfl

/-! ## A PARTED onset (R100, R101, R104) -/

/-- A PARTED onset up to its report. -/
def State.partedMarked (s : State) : State :=
  let t := if s.coup.cls = .parted then s else s.clearClass s.coup.cls
  (State.raise { t with coup := { t.coup with cls := .parted, partedLatch := true } } .parted).markOnset

theorem partedOnset_eq (s : State) : s.partedOnset = s.partedMarked.reportClass := rfl

theorem raise_loaded {s : State} (c : AlertCode) (free : s.load ≤ 7) : Loaded s (s.raise c) :=
  (raise_raises s c).1.loaded free

theorem promoteStrain_waits (q : List Waiting) (k : FrameKind) :
    (promoteStrain q).any (fun w => w.kind == k) = q.any fun w => w.kind == k := by
  unfold promoteStrain
  rw [List.any_map]
  congr 1
  funext w
  simp only [Function.comp]
  split <;> rfl

theorem markOnset_loaded (s : State) : Loaded s s.markOnset := by
  have waits (k : FrameKind) : s.markOnset.waits k = s.waits k := promoteStrain_waits _ k
  have length : s.markOnset.comms.link.queue.length = s.comms.link.queue.length := List.length_map _
  refine ⟨?_, fun k h => (waits k).trans h⟩
  unfold State.load
  rw [waits, length]

theorem clearClass_loaded {s : State} (c : StrainClass) (free : s.load ≤ 7) : Loaded s (s.clearClass c) := by
  unfold State.clearClass
  split
  · exact clear_loaded _ free
  · exact .refl s

theorem raiseClass_loaded {s : State} (c : StrainClass) (free : s.load ≤ 7) : Loaded s (s.raiseClass c) := by
  unfold State.raiseClass
  split
  · exact follow_loaded _ true free
  · exact .refl s

theorem clearClass_has (s : State) (cls : StrainClass) :
    (∀ c, classCondition cls = some c → c ≠ .txLoss → (s.clearClass cls).has c = false) ∧
    ∀ c, classCondition cls ≠ some c → c ≠ .txLoss → (s.clearClass cls).has c = s.has c := by
  unfold State.clearClass
  cases condition : classCondition cls with
  | none => exact ⟨nofun, fun _ _ _ => rfl⟩
  | some d =>
    refine ⟨fun c e nt => ?_, fun c n nt => clear_has_ne s (fun e => n (congrArg some e.symm)) nt⟩
    cases e
    exact clear_has_self s nt

theorem raiseClass_has (s : State) (cls : StrainClass) :
    (∀ c, classCondition cls = some c → (s.raiseClass cls).has c = true) ∧
    ∀ c, classCondition cls ≠ some c → c ≠ .txLoss → (s.raiseClass cls).has c = s.has c := by
  unfold State.raiseClass
  cases condition : classCondition cls with
  | none => exact ⟨nofun, fun _ _ _ => rfl⟩
  | some d =>
    refine ⟨fun c e => ?_, fun c n nt => raiseNew_has_ne s (fun e => n (congrArg some e.symm)) nt⟩
    cases e
    exact raiseNew_has_self s d

theorem partedMarked_touches (s : State) : OnlyTouches [.present, .alerts, .link, .coup] s s.partedMarked :=
  (OnlyTouches.ite (.refl commsParts _) (clearClass_touches s _).mono).mono.trans ((coup_touches _ _).mono.trans
    ((raise_touches _ _).mono.trans (markOnset_touches _).mono))

theorem partedMarked_coup (s : State) :
    s.partedMarked.coup = { s.coup with cls := .parted, partedLatch := true, onset := some s.clock } := by
  have cleared : (if s.coup.cls = .parted then s else s.clearClass s.coup.cls).coup = s.coup := by
    split
    · rfl
    · exact (clearClass_touches s _).coup (by decide)
  have clock : (if s.coup.cls = .parted then s else s.clearClass s.coup.cls).clock = s.clock := by
    split
    · rfl
    · exact (clearClass_touches s _).clock (by decide)
  unfold State.partedMarked State.markOnset State.raise
  dsimp only
  rw [cleared, clock]

theorem partedMarked_has (s : State) : s.partedMarked.has .parted = true ∧
    (s.coup.cls = .high → s.partedMarked.has .strainHigh = false) ∧
    (s.coup.cls = .overload → s.partedMarked.has .overload = false) ∧
    (s.partedMarked.has .tensionSignal = s.has .tensionSignal) := by
  let t := if s.coup.cls = .parted then s else s.clearClass s.coup.cls
  let u : State := { t with coup := { t.coup with cls := .parted, partedLatch := true } }
  have told (c : AlertCode) (n : c ≠ .parted) (nt : c ≠ .txLoss) : s.partedMarked.has c = t.has c := raise_has_ne u n nt
  obtain ⟨gone, kept⟩ := clearClass_has s s.coup.cls
  refine ⟨raise_has_self u .parted, fun high => ?_, fun over_ => ?_, ?_⟩
  · rw [told .strainHigh nofun nofun]
    show (if s.coup.cls = .parted then s else s.clearClass s.coup.cls).has _ = _
    rw [if_neg (by rw [high]; nofun)]
    exact gone _ (by rw [high]; rfl) nofun
  · rw [told .overload nofun nofun]
    show (if s.coup.cls = .parted then s else s.clearClass s.coup.cls).has _ = _
    rw [if_neg (by rw [over_]; nofun)]
    exact gone _ (by rw [over_]; rfl) nofun
  · rw [told .tensionSignal nofun nofun]
    show (if s.coup.cls = .parted then s else s.clearClass s.coup.cls).has _ = _
    split
    · rfl
    · exact kept _ (by cases s.coup.cls <;> nofun) nofun

theorem partedMarked_loaded {s : State} (free : s.load ≤ 7) : Loaded s s.partedMarked := by
  let t := if s.coup.cls = .parted then s else s.clearClass s.coup.cls
  let u : State := { t with coup := { t.coup with cls := .parted, partedLatch := true } }
  have cleared : Loaded s t := by
    show Loaded s (if _ then _ else _)
    split
    · exact .refl s
    · exact clearClass_loaded _ free
  have raised : Loaded u (u.raise .parted) := raise_loaded .parted (cleared.load.trans free)
  exact (cleared.trans (.of_comms (t := u) rfl)).trans (raised.trans (markOnset_loaded _))

/-- What a PARTED onset leaves. -/
structure Parts (s t : State) : Prop where
  coup : t.coup = { s.coup with
    cls := .parted, partedLatch := true, onset := some s.clock, winch := t.coup.winch, dwellTimer := t.coup.dwellTimer,
    runTimer := t.coup.runTimer, settleTimer := t.coup.settleTimer, interval := t.coup.interval }
  parted : t.has .parted = true
  high : s.coup.cls = .high → t.has .strainHigh = false
  overload : s.coup.cls = .overload → t.has .overload = false
  signal : t.has .tensionSignal = s.has .tensionSignal
  waits : s.station.acting = true → s.load ≤ 7 → t.waits .strain = true

theorem partedOnset_parts (s : State) : Parts s s.partedOnset := by
  obtain ⟨coup, has⟩ := reportClass_reports s.partedMarked
  obtain ⟨parted, high, overload, signal⟩ := partedMarked_has s
  rw [partedOnset_eq]
  refine ⟨?_, (has .parted nofun).trans parted, fun h => (has .strainHigh nofun).trans (high h), fun h => (has .overload nofun).trans (overload h),
    (has .tensionSignal nofun).trans signal, fun act free => ?_⟩
  · rw [coup, partedMarked_coup]
  · exact reportClass_waits (by rw [(partedMarked_touches s).station (by decide)]; exact act)
      ((partedMarked_loaded free).load.trans free)

/-! ## The winch after a report -/

theorem judgeWinch_winch (s : State) : s.judgeWinch.coup.winch = .idle ∨ s.judgeWinch.coup.winch = s.coup.winch := by
  unfold State.judgeWinch State.whenever
  split
  · rw [(winchStep_coup s).1]
    split
    · exact .inl rfl
    · exact .inr rfl
  · exact .inr rfl

theorem judgeWinch_slackens {s : State} (coup : s.isCoup = true) (act : s.station = .active)
    (up : s.coup.supervised = true) (ends : s.permit = false ∨ aboveTaut s.coup.cls = true ∨ s.has .tensionSignal = true) :
    s.judgeWinch.coup.winch ≠ .heaving := by
  have stepped : s.judgeWinch = s.winchStep := whenever_pos (by simp [coup, act, up])
  rw [stepped, (winchStep_coup s).1]
  split
  · nofun
  next goesOn =>
    intro heave
    apply goesOn
    unfold State.heaveEnds
    rw [heave]
    rcases ends with h | h | h <;> simp [h]

theorem winchCauses_slackens (s : State) : s.winchCauses.coup.winch ≠ .heaving := by
  unfold State.winchCauses
  split
  · nofun
  · rcases judgeWinch_winch { s with coup := s.coup.rest .idle } with h | h <;> rw [h] <;> nofun

/-- A PARTED onset in ACTIVE and STANDBY ends the heave and the standby (R108, R196). -/
theorem partedOnset_stops {s : State} (coup : s.isCoup = true) (act : s.station.acting = true)
    (up : s.coup.supervised = true) : s.partedOnset.coup.winch ≠ .heaving ∧ s.partedOnset.station = .active := by
  let m := s.partedMarked
  have unit : m.coup = _ := partedMarked_coup s
  have touches : OnlyTouches [.present, .alerts, .link, .coup] s m := partedMarked_touches s
  have role : m.isCoup = true := by rw [← coup]; exact isCoup_eq (touches.role (by decide))
  have station : m.station = s.station := touches.station (by decide)
  have high : aboveTaut m.coup.cls = true := by rw [unit]; rfl
  rw [partedOnset_eq]
  cases stands : s.station with
  | active =>
    rw [reportClass_active (station.trans stands) (.inr high)]
    exact ⟨judgeWinch_slackens (s := m.offerStrain) role (station.trans stands) (by show m.coup.supervised = true; rw [unit]; exact up)
        (.inr (.inl high)),
      ((judgeWinch_touches _).station (by decide)).trans (station.trans stands)⟩
  | standby =>
    rw [reportClass_returns role (station.trans stands) high]
    exact ⟨winchCauses_slackens _, (coupReturn_active _).1⟩
  | _ => rw [stands] at act; exact nomatch act

/-! ## The events (R100, R107, R109 to R111) -/

theorem unlockWinch_rests {s : State} (coup : s.isCoup = true) (act : s.station = .active) :
    s.unlockWinch = if s.coup.winch = .lockedOut ∧ s.line 1 = false ∧ s.has .winchRun = false
      then { s with coup := { s.coup.rest .idle with dwellTimer := s.dwellFrom } } else s := by
  unfold State.unlockWinch State.whenever
  refine if_congr ?_ (judgeWinch_rested coup act) rfl
  simp [coup, act, and_assoc]

theorem dwellFrom_congr {s t : State} (coup : s.isCoup = true) (lines : t = { s with clock := t.clock, lines := t.lines }) :
    t.dwellFrom = if s.coup.supervised = true ∧ s.coup.cls = .slack ∧ s.permit = true ∧ s.has .tensionSignal = false
      then startTimer t.clock (sec (s.param Param.slackDwell)) else none := by
  rw [lines]
  have permit : State.permit { s with clock := t.clock, lines := t.lines } = s.permit :=
    permit_congr coup rfl rfl rfl rfl rfl rfl rfl rfl
  unfold State.dwellFrom
  rw [permit]
  rfl

theorem wireBroken_parts {s : State} (dt : Micros) (coup : s.isCoup = true) (off : s.line 0 = false)
    (up : s.coup.supervised = true) (act : s.station.acting = true) :
    exec (.wireBrokenInput dt true) s = .next ((s.advance dt).setLine 0 true).partedOnset := by
  refine exec_eq rfl coup (whenever_pos (s := (s.advance dt).setLine 0 true) (f := State.partedOnset) ?_)
  show (!s.line 0 && true && s.coup.supervised && s.station.acting) = true
  rw [off, up, act]
  rfl

theorem wireBroken_elsewhere {s : State} (dt : Micros) (on : Bool) (coup : s.isCoup = true)
    (h : ¬ (s.line 0 = false ∧ on = true ∧ s.coup.supervised = true ∧ s.station.acting = true)) :
    exec (.wireBrokenInput dt on) s = .next ((s.advance dt).setLine 0 on) := by
  refine exec_eq rfl coup (whenever_neg (s := (s.advance dt).setLine 0 on) (f := State.partedOnset) ?_)
  show (!s.line 0 && on && s.coup.supervised && s.station.acting) = false
  rw [← Bool.not_eq_true]
  simpa [and_assoc] using h

theorem exec_lockout {s : State} (dt : Micros) (on : Bool) (coup : s.isCoup = true) :
    exec (.winchLockoutInput dt on) s = .next ((s.advance dt).lockoutChange on) :=
  exec_eq rfl coup rfl

theorem lockoutChange_same {s : State} {on : Bool} (h : s.line 1 = on) : s.lockoutChange on = s :=
  if_pos (beq_iff_eq.mpr h)

theorem lockoutChange_on {s : State} (off : s.line 1 = false) : s.lockoutChange true =
    (s.setLine 1 true).whenever (s.station == .active) (fun s => { s with coup := s.coup.rest .lockedOut }) := by
  unfold State.lockoutChange
  rw [off]
  rfl

theorem lockoutChange_off {s : State} (on : s.line 1 = true) : s.lockoutChange false = (s.setLine 1 false).unlockWinch := by
  unfold State.lockoutChange
  rw [on]
  rfl

theorem unlockWinch_idle {s : State} (h : s.station ≠ .active) : s.unlockWinch = s :=
  whenever_neg (by simp [h])

/-- Settles O53: each event of the wire and the winch by its own rule. -/
theorem wireAndWinchEvents : Obligations.WireAndWinchEvents := by
  refine ⟨fun s dt on coup => ?_, fun s dt on coup => ?_, fun s dt coup act idle timer => ?_,
    fun s dt coup act heave timer => ?_, fun s dt coup act holds timer => ?_⟩
  · intro parts
    by_cases h : parts
    · obtain ⟨off, rfl, up, act⟩ := h
      let u := (s.advance dt).setLine 0 true
      have told := partedOnset_parts u
      have stops := partedOnset_stops (s := u) coup act up
      have touches : OnlyTouches coupComms u u.partedOnset := partedOnset_touches u
      refine ⟨u.partedOnset, wireBroken_parts dt coup off up act, touches.clock (by decide), touches.lines (by decide),
        fun n => absurd ⟨off, rfl, up, act⟩ n, fun _ => ?_, ?_⟩
      · rw [told.coup]
        exact ⟨rfl, rfl, rfl, told.parted, stops.1, told.high, told.overload, stops.2, fun free =>
          told.waits act ((load_le u).trans (Nat.succ_le_succ free))⟩
      · exact (advance_touches s dt).mono.trans ((setLine_touches _ 0 true).mono.trans touches.mono)
    · exact ⟨_, wireBroken_elsewhere dt on coup h, rfl, rfl, fun _ => rfl, fun k => absurd k h,
        (advance_touches s dt).mono.trans (setLine_touches _ 0 on).mono⟩
  · intro u held
    refine ⟨_, exec_lockout dt on coup, fun h => ?_, fun off new act => ?_, fun old off act keep => ?_,
      fun old off act locked gone => ?_⟩
    · rcases h with same | away
      · rw [lockoutChange_same (s := s.advance dt) same]
        exact (congrArg (fun l => { s.advance dt with lines := l }) (line_setLine_self same)).symm
      · by_cases same : s.line 1 = on
        · rw [lockoutChange_same (s := s.advance dt) same]
          exact (congrArg (fun l => { s.advance dt with lines := l }) (line_setLine_self same)).symm
        · cases on with
          | true =>
            rw [lockoutChange_on (s := s.advance dt) (Bool.eq_false_iff.mpr same)]
            exact whenever_neg (beq_eq_false_iff_ne.mpr away)
          | false =>
            rw [lockoutChange_off (s := s.advance dt) (Bool.eq_true_of_not_eq_false same)]
            exact unlockWinch_idle away
    · subst new
      rw [lockoutChange_on (s := s.advance dt) off]
      exact whenever_pos (beq_iff_eq.mpr act)
    · subst off
      rw [lockoutChange_off (s := s.advance dt) old, unlockWinch_rests (s := (s.advance dt).setLine 1 false) coup act, if_neg]
      · rfl
      · rintro ⟨locked, -, gone⟩
        rcases keep with n | n
        · exact n locked
        · exact Bool.false_ne_true (gone.symm.trans n)
    · subst off
      rw [lockoutChange_off (s := s.advance dt) old, unlockWinch_rests (s := (s.advance dt).setLine 1 false) coup act, if_pos ⟨locked, setLine_same _ 1 false, gone⟩,
        dwellFrom_congr (s := s) coup rfl]
      rfl
  · intro t
    have run : exec (.slackDwellExpiry dt) s = .next t :=
      exec_eq rfl (by simp only [isCoup_advance]; simp [coup, act, idle, timer]) rfl
    exact ⟨run, outputChanges_starts (t := t) coup coup (by rw [idle]; nofun)
      (by show s.station.acting = true; rw [act]; rfl) rfl⟩
  · let u : State := { s.advance dt with coup := s.coup.rest .lockedOut }
    have unit : (u.raise .winchRun).coup = u.coup := (raise_touches u _).coup (by decide)
    refine ⟨u.raise .winchRun, exec_eq rfl (by simp only [isCoup_advance]; simp [coup, act, heave, timer]) rfl,
      raise_raises u .winchRun, outputChanges_stops coup ?_ (by rw [act]; rfl) heave (by rw [unit]; nofun)⟩
    rw [← coup]
    exact isCoup_eq ((raise_touches u _).role (by decide))
  · refine exec_eq rfl (by simp only [isCoup_advance]; simp [coup, act, holds, timer]) ?_
    rw [judgeWinch_rested (s := s.advance dt) coup act, dwellFrom_congr (s := s) coup rfl]
    rfl

end Sys2Proof.Machine
end

section
/-! SUPPORT. A delivery of the tension bridge: the facts of O52. -/

namespace Sys2Proof.Machine

-- As in Laws/Touches.lean: one theorem at a time.
set_option Elab.async false

/-! ## A change of the class (R99, R104) -/

/-- A change of the class up to its report. -/
def State.classMarked (s : State) (c : StrainClass) : State :=
  let t := s.clearClass s.coup.cls
  let u := State.raiseClass { t with coup := { t.coup with cls := c } } c
  if c = .overload then u.markOnset else u

theorem changeClass_eq {s : State} {c : StrainClass} (n : c ≠ s.coup.cls) :
    s.changeClass c = (s.classMarked c).reportClass := if_neg n

theorem classMarked_touches (s : State) (c : StrainClass) :
    OnlyTouches [.present, .alerts, .link, .coup] s (s.classMarked c) :=
  (clearClass_touches s _).mono.trans ((coup_touches _ _).mono.trans ((raiseClass_touches _ _).mono.trans
    (OnlyTouches.ite (markOnset_touches _).mono (.refl [.coup, .link] _)).mono))

theorem classMarked_coup (s : State) (c : StrainClass) : (s.classMarked c).coup = { s.coup with
    cls := c, onset := if c = .overload then some s.clock else s.coup.onset } := by
  let t := s.clearClass s.coup.cls
  let u : State := { t with coup := { t.coup with cls := c } }
  have cleared : OnlyTouches commsParts s t := clearClass_touches s _
  have raised : OnlyTouches commsParts u (u.raiseClass c) := raiseClass_touches u c
  have unit : (u.raiseClass c).coup = { s.coup with cls := c } := by
    rw [raised.coup (by decide)]
    show ({ t.coup with cls := c } : CouplingUnit) = _
    rw [cleared.coup (by decide)]
  have clock : (u.raiseClass c).clock = s.clock := (raised.clock (by decide)).trans (cleared.clock (by decide))
  show (if c = .overload then (u.raiseClass c).markOnset else u.raiseClass c).coup = _
  split
  · show ({ (u.raiseClass c).coup with onset := some (u.raiseClass c).clock } : CouplingUnit) = _
    rw [unit, clock]
  · exact unit

theorem classCondition_inj {c d : StrainClass} {code : AlertCode} (h : classCondition c = some code)
    (k : classCondition d = some code) : c = d := by
  have same := h.trans k.symm
  clear k
  cases c <;> cases d <;> simp_all [classCondition]

theorem classCondition_real {c : StrainClass} {code : AlertCode} (h : classCondition c = some code) : code ≠ .txLoss := by
  rintro rfl
  cases c <;> exact nomatch h

theorem classMarked_has {s : State} {c : StrainClass} (n : c ≠ s.coup.cls) :
    (∀ d, classCondition c = some d → (s.classMarked c).has d = true) ∧
    (∀ d, classCondition s.coup.cls = some d → (s.classMarked c).has d = false) ∧
    (∀ d, classCondition c ≠ some d → classCondition s.coup.cls ≠ some d → d ≠ .txLoss →
      (s.classMarked c).has d = s.has d) := by
  let t := s.clearClass s.coup.cls
  let u : State := { t with coup := { t.coup with cls := c } }
  have told (d : AlertCode) : (s.classMarked c).has d = (u.raiseClass c).has d := by
    show (if c = .overload then (u.raiseClass c).markOnset else u.raiseClass c).has d = _
    split <;> rfl
  obtain ⟨gone, kept⟩ := clearClass_has s s.coup.cls
  obtain ⟨raised, others⟩ := raiseClass_has u c
  refine ⟨fun d h => (told d).trans (raised d h), fun d h => (told d).trans ?_, fun d h k nt => (told d).trans ?_⟩
  · exact (others d (fun e => n (classCondition_inj e h)) (classCondition_real h)).trans (gone d h (classCondition_real h))
  · exact (others d h nt).trans (kept d k nt)

theorem classMarked_loaded {s : State} (c : StrainClass) (free : s.load ≤ 7) : Loaded s (s.classMarked c) := by
  let t := s.clearClass s.coup.cls
  let u : State := { t with coup := { t.coup with cls := c } }
  have cleared : Loaded s t := clearClass_loaded _ free
  have raised : Loaded u (u.raiseClass c) := raiseClass_loaded c (cleared.load.trans free)
  have marked : Loaded (u.raiseClass c) (s.classMarked c) := by
    show Loaded _ (if c = .overload then (u.raiseClass c).markOnset else u.raiseClass c)
    split
    · exact markOnset_loaded _
    · exact .refl _
  exact (cleared.trans (.of_comms (t := u) rfl)).trans (raised.trans marked)

/-- What a change of the class to another one leaves. -/
structure Classes (c : StrainClass) (s t : State) : Prop where
  coup : t.coup = { s.coup with
    cls := c, onset := if c = .overload then some s.clock else s.coup.onset, winch := t.coup.winch,
    dwellTimer := t.coup.dwellTimer, runTimer := t.coup.runTimer, settleTimer := t.coup.settleTimer,
    interval := t.coup.interval }
  raised : ∀ d, classCondition c = some d → t.has d = true
  cleared : ∀ d, classCondition s.coup.cls = some d → t.has d = false
  others : ∀ d, classCondition c ≠ some d → classCondition s.coup.cls ≠ some d → d ≠ .txLoss → t.has d = s.has d
  waits : s.station.acting = true → s.load ≤ 7 → t.waits .strain = true

theorem changeClass_classes {s : State} {c : StrainClass} (n : c ≠ s.coup.cls) : Classes c s (s.changeClass c) := by
  obtain ⟨coup, has⟩ := reportClass_reports (s.classMarked c)
  obtain ⟨raised, cleared, others⟩ := classMarked_has n
  rw [changeClass_eq n]
  refine ⟨by rw [coup, classMarked_coup], fun d h => (has d (classCondition_real h)).trans (raised d h),
    fun d h => (has d (classCondition_real h)).trans (cleared d h), fun d h k nt => (has d nt).trans (others d h k nt),
    fun act free => ?_⟩
  exact reportClass_waits (by rw [(classMarked_touches s c).station (by decide)]; exact act)
    ((classMarked_loaded c free).load.trans free)

/-! ## The winch through a report in ACTIVE (R107, R108) -/

/-- Nothing ends a heave (R108). -/
def State.Hauls (s : State) : Prop := s.permit = true ∧ aboveTaut s.coup.cls = false ∧ s.has .tensionSignal = false

/-- The winch of a station stands as it stood, or has come to rest where something ends a heave. -/
def Rolls (s t : State) : Prop :=
  t.coup.winch = s.coup.winch ∧ t.coup.runTimer = s.coup.runTimer ∨
    ¬ t.Hauls ∧ s.coup.winch = .heaving ∧ t.coup.winch = .idle ∧ t.coup.runTimer = none

theorem heaveEnds_iff (s : State) : s.heaveEnds = true ↔ s.coup.winch = .heaving ∧ ¬ s.Hauls := by
  unfold State.heaveEnds State.Hauls
  cases s.permit <;> cases aboveTaut s.coup.cls <;> cases s.has .tensionSignal <;> simp

theorem winchStep_timer (s : State) :
    s.winchStep.coup.runTimer = if s.heaveEnds then none else s.coup.runTimer := by
  unfold State.winchStep State.heaveEnds
  dsimp only
  split <;> rfl

theorem judgeWinch_hauls {s : State} (coup : s.isCoup = true) : s.judgeWinch.Hauls ↔ s.Hauls := by
  have touches : OnlyTouches [.coup] s s.judgeWinch := judgeWinch_touches s
  have cls : s.judgeWinch.coup.cls = s.coup.cls := by rw [judgeWinch_only]
  have permit : s.judgeWinch.permit = s.permit :=
    permit_congr coup (touches.role (by decide)) (touches.address (by decide)) (touches.station (by decide))
      (by rw [touches.start (by decide)]) (by rw [touches.peers (by decide)]) (by rw [touches.demand (by decide)])
      (by rw [touches.demand (by decide)]) cls
  unfold State.Hauls
  rw [cls, permit, touches.has (by decide)]

theorem judgeWinch_rolls {s : State} (coup : s.isCoup = true) : Rolls s s.judgeWinch := by
  by_cases runs : (s.isCoup && s.station == .active && s.coup.supervised) = true
  · have stepped : s.judgeWinch = s.winchStep := whenever_pos runs
    by_cases ends : s.heaveEnds = true
    · obtain ⟨heave, off⟩ := (heaveEnds_iff s).mp ends
      refine .inr ⟨fun h => off ((judgeWinch_hauls coup).mp h), heave, ?_, ?_⟩
      · rw [stepped, (winchStep_coup s).1, if_pos ends]
      · rw [stepped, winchStep_timer, if_pos ends]
    · refine .inl ⟨?_, ?_⟩
      · rw [stepped, (winchStep_coup s).1, if_neg ends]
      · rw [stepped, winchStep_timer, if_neg ends]
  · have still : s.judgeWinch = s := whenever_neg (Bool.eq_false_iff.mpr runs)
    rw [still]
    exact .inl ⟨rfl, rfl⟩

/-- A report that leaves the station in ACTIVE. -/
theorem reportClass_stays {s : State} (act : s.station = .active) (stays : s.reportClass.station = .active) :
    s.reportClass = s.offerStrain.judgeWinch := by
  let b := s.offerStrain.judgeWinch
  have station : b.station = .active := ((judgeWinch_touches _).station (by decide)).trans act
  have kept : b.standbyByClass = b := by
    have active : b.standbyByClass = b.judgeCoupStandby := if_neg (by rw [station]; simp)
    rw [active]
    refine whenever_neg (Bool.eq_false_iff.mpr fun stands => ?_)
    have left : s.reportClass = b.coupStandby := active.trans (whenever_pos stands)
    rw [left] at stays
    exact nomatch stays
  exact kept

theorem Rolls.of_marked {s m t : State} (unit : m.coup.winch = s.coup.winch ∧ m.coup.runTimer = s.coup.runTimer)
    (h : Rolls m t) : Rolls s t := by
  unfold Rolls at *
  rw [← unit.1, ← unit.2]
  exact h

theorem reportClass_rolls {s : State} (coup : s.isCoup = true) (act : s.station = .active)
    (stays : s.reportClass.station = .active) : Rolls s s.reportClass := by
  rw [reportClass_stays act stays]
  exact judgeWinch_rolls (s := s.offerStrain) coup

theorem changeClass_rolls {s : State} (c : StrainClass) (coup : s.isCoup = true) (act : s.station = .active)
    (stays : (s.changeClass c).station = .active) : Rolls s (s.changeClass c) := by
  by_cases same : c = s.coup.cls
  · have still : s.changeClass c = s := if_pos same
    rw [still]
    exact .inl ⟨rfl, rfl⟩
  · have touches := classMarked_touches s c
    rw [changeClass_eq same] at stays ⊢
    refine .of_marked (m := s.classMarked c) (by rw [classMarked_coup]; exact ⟨rfl, rfl⟩) (reportClass_rolls ?_ ?_ stays)
    · rw [← coup]; exact isCoup_eq (touches.role (by decide))
    · exact (touches.station (by decide)).trans act

theorem partedOnset_rolls {s : State} (coup : s.isCoup = true) (act : s.station = .active)
    (stays : s.partedOnset.station = .active) : Rolls s s.partedOnset := by
  have touches := partedMarked_touches s
  rw [partedOnset_eq] at stays ⊢
  refine .of_marked (m := s.partedMarked) (by rw [partedMarked_coup]; exact ⟨rfl, rfl⟩) (reportClass_rolls ?_ ?_ stays)
  · rw [← coup]; exact isCoup_eq (touches.role (by decide))
  · exact (touches.station (by decide)).trans act

/-! ## The class of a window (R98) -/

theorem climb_eq (s : State) (c : StrainClass) (f : Nat) : s.climb 3 c f = s.classRisen f c := by
  have step (p q : StrainClass) (level : Nat) : (if level ≤ f then p else q) = if f < level then q else p := by
    by_cases h : f < level
    · rw [if_pos h, if_neg (Nat.not_le_of_gt h)]
    · rw [if_neg h, if_pos (Nat.le_of_not_gt h)]
  cases c <;> simp only [State.climb, State.boundaryAbove, State.classRisen, step]

theorem descend_eq (s : State) (c : StrainClass) (f : Nat) : s.descend 3 c f = s.classFallen f c := by
  cases c <;> simp only [State.descend, State.boundaryBeneath, State.classFallen]

/-- The class that a tension brings, with the latch clear (R98). -/
def State.classOf (s : State) (t : Nat) : StrainClass :=
  let f := filteredOf (pushTension s.coup.window t)
  if s.coup.classTaken then s.classFallen f (s.classRisen f s.coup.cls) else s.classRisen f .slack

/-! ## The delivery by its steps (R96 to R101) -/

/-- A conversion tension taken, the class yet to be judged. -/
def State.tensioned (s : State) (t : Nat) : State :=
  let u := s.whenever s.coup.supervised (fun s => s.clear .tensionSignal)
  { u with coup := u.coup.take t }

/-- A conversion tension taken and its class judged. -/
def State.classed (s : State) (t : Nat) : State :=
  if s.tensionParts t then (s.tensioned t).partedOnset
  else if s.coup.partedLatch then (s.tensioned t).noteWindow
  else (s.tensioned t).judgeClass

theorem tensioned_touches (s : State) (t : Nat) : OnlyTouches [.present, .alerts, .link, .coup] s (s.tensioned t) :=
  (whenever_touches s _ (clear_touches s .tensionSignal)).mono.trans (coup_touches _ _).mono

theorem tensioned_coup (s : State) (t : Nat) : (s.tensioned t).coup = s.coup.take t := by
  have cleared : (s.whenever s.coup.supervised fun s => s.clear .tensionSignal).coup = s.coup :=
    (whenever_touches s _ (clear_touches s .tensionSignal)).coup (by decide)
  show CouplingUnit.take _ t = _
  rw [cleared]

theorem tensioned_has (s : State) (t : Nat) : (s.coup.supervised = true → (s.tensioned t).has .tensionSignal = false) ∧
    ∀ c, c ≠ .tensionSignal → c ≠ .txLoss → (s.tensioned t).has c = s.has c := by
  have told (c : AlertCode) : (s.tensioned t).has c =
    (s.whenever s.coup.supervised fun s => s.clear .tensionSignal).has c := rfl
  refine ⟨fun up => ?_, fun c n nt => ?_⟩ <;> rw [told]
  · rw [whenever_pos (s := s) (f := fun s => s.clear .tensionSignal) up]
    exact clear_has_self s nofun
  · unfold State.whenever
    split
    · exact clear_has_ne s n nt
    · rfl

theorem tensioned_loaded {s : State} (t : Nat) (free : s.load ≤ 7) : Loaded s (s.tensioned t) := by
  have cleared : Loaded s (s.whenever s.coup.supervised fun s => s.clear .tensionSignal) := by
    unfold State.whenever
    split
    · exact clear_loaded _ free
    · exact .refl s
  exact cleared.trans (.of_comms rfl)

theorem tensionParts_iff (s : State) (t : Nat) : s.tensionParts t = true ↔ s.coup.supervised = true ∧
    s.coup.classTaken = true ∧ t < s.param Param.partedLevel ∧ s.param Param.highLevel ≤ s.coup.filtered := by
  unfold State.tensionParts
  simp [and_assoc]

theorem judgeClass_eq (s : State) : s.judgeClass =
    let c := if s.coup.classTaken then s.classFallen s.coup.filtered (s.classRisen s.coup.filtered s.coup.cls)
      else s.classRisen s.coup.filtered .slack
    if s.coup.supervised then s.noteWindow.changeClass c
    else { s.noteWindow with coup := { s.noteWindow.coup with cls := c } } := by
  unfold State.judgeClass State.classNext State.classAfresh
  simp only [climb_eq, descend_eq]

/-! ### The three outcomes of the judgement -/

theorem classed_parts {s : State} {t : Nat} (h : s.tensionParts t = true) : s.classed t = (s.tensioned t).partedOnset :=
  if_pos h

theorem classed_latched {s : State} {t : Nat} (h : ¬ s.tensionParts t = true) (latch : s.coup.partedLatch = true) :
    s.classed t = (s.tensioned t).noteWindow := (if_neg h).trans (if_pos latch)

theorem classed_judged {s : State} {t : Nat} (h : ¬ s.tensionParts t = true) (latch : s.coup.partedLatch = false) :
    s.classed t =
      if s.coup.supervised then (s.tensioned t).noteWindow.changeClass (s.classOf t)
      else { (s.tensioned t).noteWindow with coup := { (s.tensioned t).noteWindow.coup with cls := s.classOf t } } := by
  have judged : (s.tensioned t).judgeClass = _ := judgeClass_eq _
  have image : (s.tensioned t).start = s.start := (tensioned_touches s t).start (by decide)
  have risen : (s.tensioned t).classRisen = s.classRisen := by
    funext f c
    unfold State.classRisen State.param
    rw [image]
  have fallen : (s.tensioned t).classFallen = s.classFallen := by
    funext f c
    unfold State.classFallen State.param
    rw [image]
  refine ((if_neg h).trans (if_neg (by rw [latch]; nofun))).trans (judged.trans ?_)
  dsimp only
  rw [risen, fallen, tensioned_coup]
  rfl

theorem classed_touches (s : State) (t : Nat) : OnlyTouches coupComms s (s.classed t) :=
  (tensioned_touches s t).mono.trans
    (OnlyTouches.ite (partedOnset_touches _) (.ite (noteWindow_touches _).mono (judgeClass_touches _)))

/-- A class condition is not the tension's own. -/
theorem classCondition_signal (c : StrainClass) : classCondition c ≠ some .tensionSignal := by cases c <;> nofun

theorem changeClass_only (s : State) (c : StrainClass) : (s.changeClass c).coup = { s.coup with
    cls := c, onset := (s.changeClass c).coup.onset, winch := (s.changeClass c).coup.winch,
    dwellTimer := (s.changeClass c).coup.dwellTimer, runTimer := (s.changeClass c).coup.runTimer,
    settleTimer := (s.changeClass c).coup.settleTimer, interval := (s.changeClass c).coup.interval } := by
  by_cases same : c = s.coup.cls
  · have still : s.changeClass c = s := if_pos same
    rw [still, same]
  · rw [(changeClass_classes same).coup]

theorem noted_coup (s : State) (t : Nat) : (s.tensioned t).noteWindow.coup = { s.coup.take t with
    classTaken := s.coup.classTaken || (pushTension s.coup.window t).length == 4 } := by
  show ({ (s.tensioned t).coup with classTaken := _ } : CouplingUnit) = _
  rw [tensioned_coup]
  rfl

/-- What the judgement of the class leaves of the coupling unit. -/
theorem classed_coup (s : State) (t : Nat) : (s.classed t).coup = { s.coup.take t with
    cls := (s.classed t).coup.cls,
    classTaken := s.coup.classTaken || (pushTension s.coup.window t).length == 4,
    partedLatch := (s.classed t).coup.partedLatch, onset := (s.classed t).coup.onset,
    winch := (s.classed t).coup.winch, dwellTimer := (s.classed t).coup.dwellTimer,
    runTimer := (s.classed t).coup.runTimer, settleTimer := (s.classed t).coup.settleTimer,
    interval := (s.classed t).coup.interval } := by
  by_cases parts : s.tensionParts t = true
  · obtain ⟨-, taken, -⟩ := (tensionParts_iff s t).mp parts
    have took : (s.coup.take t).classTaken = (s.coup.classTaken || (pushTension s.coup.window t).length == 4) := by
      show s.coup.classTaken = _
      rw [taken]
      rfl
    rw [classed_parts parts, (partedOnset_parts (s.tensioned t)).coup, tensioned_coup, ← took]
  · have noted := noted_coup s t
    cases latch : s.coup.partedLatch with
    | true => rw [classed_latched parts latch, noted]
    | false =>
      rw [classed_judged parts latch]
      split
      · rw [changeClass_only, noted]
      · dsimp only
        rw [noted]

/-- In ACTIVE with no request standing a report brings no standby. -/
theorem reportClass_quiet {s : State} (act : s.station = .active) (request : s.start.request = false) :
    OnlyTouches [.present, .alerts, .link, .coup] s s.reportClass := by
  rw [reportClass_active act (.inl request)]
  exact (offerStrain_touches s).mono.trans (judgeWinch_touches _).mono

/-- Where no report brings a change of the station state, a delivery brings none. -/
theorem classed_still_of {s : State} {t : Nat} (report : ∀ m, OnlyTouches [.present, .alerts, .link, .coup] s m →
    OnlyTouches [.present, .alerts, .link, .coup] s m.reportClass) :
    OnlyTouches [.present, .alerts, .link, .coup] s (s.classed t) := by
  let v := s.tensioned t
  have touches : OnlyTouches [.present, .alerts, .link, .coup] s v := tensioned_touches s t
  have noted : OnlyTouches [.present, .alerts, .link, .coup] s v.noteWindow := touches.trans (noteWindow_touches v).mono
  by_cases parts : s.tensionParts t = true
  · rw [classed_parts parts, partedOnset_eq]
    exact report _ (touches.trans (partedMarked_touches v))
  · cases latch : s.coup.partedLatch with
    | true => rw [classed_latched parts latch]; exact noted
    | false =>
      rw [classed_judged parts latch]
      split
      · by_cases same : s.classOf t = v.noteWindow.coup.cls
        · have still : v.noteWindow.changeClass (s.classOf t) = v.noteWindow := if_pos same
          rw [still]
          exact noted
        · rw [changeClass_eq same]
          exact report _ (noted.trans (classMarked_touches v.noteWindow _))
      · exact noted.trans (coup_touches v.noteWindow _).mono

theorem classed_quiet {s : State} {t : Nat} (act : s.station = .active) (request : s.start.request = false) :
    OnlyTouches [.present, .alerts, .link, .coup] s (s.classed t) :=
  classed_still_of fun m marked => marked.trans
    (reportClass_quiet ((marked.station (by decide)).trans act) (by rw [marked.start (by decide)]; exact request))

theorem classed_elsewhere {s : State} {t : Nat} (n : s.station ≠ .active) (m : s.station ≠ .standby) :
    OnlyTouches [.present, .alerts, .link, .coup] s (s.classed t) :=
  classed_still_of fun r marked => by
    rw [reportClass_elsewhere (by rw [marked.station (by decide)]; exact n) (by rw [marked.station (by decide)]; exact m)]
    exact marked.trans (offerStrain_touches r).mono

theorem classed_rolls {s : State} {t : Nat} (coup : s.isCoup = true) (act : s.station = .active)
    (stays : (s.classed t).station = .active) : Rolls s (s.classed t) := by
  let v := s.tensioned t
  have touches : OnlyTouches [.present, .alerts, .link, .coup] s v := tensioned_touches s t
  have role : v.isCoup = true := by rw [← coup]; exact isCoup_eq (touches.role (by decide))
  have station : v.station = .active := (touches.station (by decide)).trans act
  have unit : v.coup.winch = s.coup.winch ∧ v.coup.runTimer = s.coup.runTimer := by
    show (s.tensioned t).coup.winch = _ ∧ (s.tensioned t).coup.runTimer = _
    rw [tensioned_coup]
    exact ⟨rfl, rfl⟩
  by_cases parts : s.tensionParts t = true
  · rw [classed_parts parts] at stays ⊢
    exact .of_marked unit (partedOnset_rolls role station stays)
  · cases latch : s.coup.partedLatch with
    | true => rw [classed_latched parts latch]; exact .of_marked (m := v.noteWindow) unit (.inl ⟨rfl, rfl⟩)
    | false =>
      rw [classed_judged parts latch] at stays ⊢
      by_cases up : s.coup.supervised = true
      · rw [if_pos up] at stays ⊢
        exact .of_marked (m := v.noteWindow) unit (changeClass_rolls (s := v.noteWindow) _ role station stays)
      · rw [if_neg up]
        exact .of_marked (m := v) unit (.inl ⟨rfl, rfl⟩)

/-- Outside ACTIVE and STANDBY, and unsupervised, the judgement of the class leaves the winch. -/
theorem classed_winch {s : State} {t : Nat} (h : s.coup.supervised = false ∨ s.station ≠ .active ∧ s.station ≠ .standby) :
    (s.classed t).coup.winch = s.coup.winch := by
  let v := s.tensioned t
  have touches : OnlyTouches [.present, .alerts, .link, .coup] s v := tensioned_touches s t
  have unit : v.coup.winch = s.coup.winch := by
    show (s.tensioned t).coup.winch = _
    rw [tensioned_coup]
    rfl
  have report (away : s.station ≠ .active ∧ s.station ≠ .standby) (m : State) (st : m.station = s.station) :
      m.reportClass.coup.winch = m.coup.winch := by
    rw [reportClass_elsewhere (by rw [st]; exact away.1) (by rw [st]; exact away.2)]
    rfl
  by_cases parts : s.tensionParts t = true
  · obtain ⟨up, -⟩ := (tensionParts_iff s t).mp parts
    have away := h.resolve_left (by rw [up]; nofun)
    rw [classed_parts parts, partedOnset_eq, report away _
      (((partedMarked_touches v).station (by decide)).trans (touches.station (by decide))), partedMarked_coup]
    exact unit
  · cases latch : s.coup.partedLatch with
    | true => rw [classed_latched parts latch]; exact unit
    | false =>
      rw [classed_judged parts latch]
      split
      next up =>
        have away := h.resolve_left (by rw [up]; nofun)
        by_cases same : s.classOf t = v.noteWindow.coup.cls
        · have still : v.noteWindow.changeClass (s.classOf t) = v.noteWindow := if_pos same
          rw [still]
          exact unit
        · rw [changeClass_eq same, report away _
            (((classMarked_touches v.noteWindow _).station (by decide)).trans (touches.station (by decide))), classMarked_coup]
          exact unit
      · exact unit

theorem classed_signal {s : State} (t : Nat) (up : s.coup.supervised = true) : (s.classed t).has .tensionSignal = false := by
  have gone := (tensioned_has s t).1 up
  by_cases parts : s.tensionParts t = true
  · rw [classed_parts parts, (partedOnset_parts _).signal]
    exact gone
  · cases latch : s.coup.partedLatch with
    | true => rw [classed_latched parts latch]; exact gone
    | false =>
      rw [classed_judged parts latch, if_pos up]
      by_cases same : s.classOf t = (s.tensioned t).noteWindow.coup.cls
      · have still : (s.tensioned t).noteWindow.changeClass (s.classOf t) = (s.tensioned t).noteWindow := if_pos same
        rw [still]
        exact gone
      · rw [(changeClass_classes same).others _ (classCondition_signal _) (classCondition_signal _) nofun]
        exact gone

/-! ## The end of the delivery -/

theorem hauledTaut_only (s : State) : s.hauledTaut.coup = { s.coup with
    winch := s.hauledTaut.coup.winch, dwellTimer := s.hauledTaut.coup.dwellTimer, runTimer := s.hauledTaut.coup.runTimer,
    settleTimer := s.hauledTaut.coup.settleTimer } := by
  unfold State.hauledTaut State.whenever
  split <;> rfl

theorem hauledTaut_idle {s : State} (h : s.coup.winch ≠ .heaving) : s.hauledTaut = s :=
  whenever_neg (by simp [h])

/-- The wire stands taut (R108). -/
def State.standsTaut (s : State) : Bool :=
  s.isCoup && s.station == .active && s.coup.winch == .heaving && !aboveTaut s.coup.cls
    && decide (s.param Param.tautLevel + s.param Param.hysteresis ≤ s.coup.filtered)

theorem hauledTaut_holds {s : State} (h : s.standsTaut = true) : s.hauledTaut =
    { s with coup := { s.coup.rest .holding with settleTimer := startTimer s.clock (sec 5) } } := whenever_pos h

theorem hauledTaut_goesOn {s : State} (h : s.standsTaut = false) : s.hauledTaut = s := whenever_neg h

/-- The winch judged at the end of a delivery. -/
def State.woundUp (s : State) : State := s.judgeWinch.hauledTaut

theorem woundUp_touches (s : State) : OnlyTouches [.coup] s s.woundUp :=
  (judgeWinch_touches s).trans (hauledTaut_touches _)

theorem woundUp_only (s : State) : s.woundUp.coup = { s.coup with
    winch := s.woundUp.coup.winch, dwellTimer := s.woundUp.coup.dwellTimer, runTimer := s.woundUp.coup.runTimer,
    settleTimer := s.woundUp.coup.settleTimer } := by
  unfold State.woundUp
  rw [hauledTaut_only, judgeWinch_only]

/-- A heave that nothing ends, after a delivery (R108). -/
theorem woundUp_hauls {s : State} (coup : s.isCoup = true) (act : s.station = .active) (heave : s.coup.winch = .heaving)
    (hauls : s.Hauls) :
    let taut := s.param Param.tautLevel + s.param Param.hysteresis ≤ s.coup.filtered
    (taut → s.woundUp.coup.winch = .holding ∧ s.woundUp.coup.settleTimer = startTimer s.clock (sec 5) ∧
      s.woundUp.coup.runTimer = none ∧ s.woundUp.coup.dwellTimer = none) ∧
    (¬ taut → s.woundUp.coup.winch = .heaving ∧ s.woundUp.coup.runTimer = s.coup.runTimer) := by
  intro taut
  let b := s.judgeWinch
  have touches : OnlyTouches [.coup] s b := judgeWinch_touches s
  have on := (judgeWinch_hauls coup).mpr hauls
  have rolled : b.coup.winch = s.coup.winch ∧ b.coup.runTimer = s.coup.runTimer :=
    (judgeWinch_rolls coup).resolve_right fun h => h.1 on
  have unit := judgeWinch_only s
  have test : b.standsTaut = decide taut := by
    have role : b.isCoup = true := by rw [← coup]; exact isCoup_eq (touches.role (by decide))
    have param : b.param = s.param := by unfold State.param; rw [touches.start (by decide)]
    have filtered : b.coup.filtered = s.coup.filtered := congrArg (·.filtered) unit
    unfold State.standsTaut
    rw [role, (touches.station (by decide)).trans act, rolled.1, heave, on.2.1, param, filtered]
    simp [taut]
  refine ⟨fun h => ?_, fun h => ?_⟩
  · have hauled : s.woundUp = _ := hauledTaut_holds (test.trans (decide_eq_true h))
    rw [hauled]
    exact ⟨rfl, by rw [← touches.clock (by decide)], rfl, rfl⟩
  · have still : s.woundUp = b := hauledTaut_goesOn (test.trans (decide_eq_false h))
    rw [still]
    exact ⟨rolled.1.trans heave, rolled.2⟩

/-- A heave that ends, or has ended, in IDLE (R108). -/
theorem woundUp_rests {s : State} (coup : s.isCoup = true) (act : s.station = .active) (up : s.coup.supervised = true)
    (ends : ¬ s.Hauls) (h : s.coup.winch = .heaving ∨ s.coup.winch = .idle ∧ s.coup.runTimer = none) :
    s.woundUp.coup.winch = .idle ∧ s.woundUp.coup.runTimer = none := by
  have stepped : s.judgeWinch = s.winchStep := whenever_pos (by simp [coup, act, up])
  have rests : s.judgeWinch.coup.winch = .idle ∧ s.judgeWinch.coup.runTimer = none := by
    rw [stepped, (winchStep_coup s).1, winchStep_timer]
    rcases h with heave | ⟨idle, timer⟩
    · rw [if_pos ((heaveEnds_iff s).mpr ⟨heave, ends⟩), if_pos ((heaveEnds_iff s).mpr ⟨heave, ends⟩)]
      exact ⟨rfl, rfl⟩
    · rw [idle, timer]
      exact ⟨ite_self _, ite_self _⟩
  have still : s.woundUp = s.judgeWinch := hauledTaut_idle (by rw [rests.1]; nofun)
  rw [still]
  exact rests

/-- An IDLE winch judged: the slack dwell runs just where its conditions hold (R107). -/
theorem judgeWinch_dwell_iff {s : State} (coup : s.isCoup = true) (act : s.station = .active)
    (up : s.coup.supervised = true) (idle : s.coup.winch = .idle) : s.judgeWinch.coup.winch = .idle ∧
    (s.judgeWinch.coup.dwellTimer ≠ none ↔ s.judgeWinch.coup.cls = .slack ∧ s.judgeWinch.permit = true ∧
      s.judgeWinch.has .tensionSignal = false) := by
  have stepped : s.judgeWinch = s.winchStep := whenever_pos (by simp [coup, act, up])
  obtain ⟨winch, cls, -, dwell, -⟩ := winchStep_coup s
  have rests : s.winchStep.coup.winch = .idle := by rw [winch, idle]; exact ite_self _
  rw [stepped]
  refine ⟨rests, ?_⟩
  have signal : s.winchStep.has .tensionSignal = s.has .tensionSignal := rfl
  rw [dwell, dwellHolds_iff, cls, winchStep_permit coup, signal]
  exact ⟨fun h => h.2, fun h => ⟨rests, h⟩⟩

/-! ## The delivery whole -/

theorem pushTension_eq (w : List Nat) (t : Nat) : (w ++ [t]).drop (w.length + 1 - 4) = pushTension w t := by
  unfold pushTension
  split
  next short =>
    have none_dropped : w.length + 1 - 4 = 0 := by omega
    rw [none_dropped, List.drop_zero]
  · have counted : w.length + 1 - 4 = w.length - 3 := by omega
    rw [counted, List.drop_append_of_le_length (Nat.sub_le _ _)]

theorem raisePeak_eq (p : Option Nat) (t : Nat) : raisePeak p t = if p = none then some t else p.map (max t) := by
  cases p with
  | none => rfl
  | some q => exact congrArg some (max_comm q t)

/-- What an in-range delivery leaves of the class and its reports. -/
structure Judges (s : State) (tension : Nat) (t : State) : Prop where
  window : t.coup.window = pushTension s.coup.window tension
  filtered : t.coup.filtered = filteredOf (pushTension s.coup.window tension)
  peak : t.coup.peak = raisePeak s.coup.peak tension
  since : t.coup.peakSince = raisePeak s.coup.peakSince tension
  signal : s.coup.supervised = true → t.has .tensionSignal = false
  taken : t.coup.classTaken = (s.coup.classTaken || (pushTension s.coup.window tension).length == 4)
  parted : s.tensionParts tension = true → t.coup.cls = .parted ∧ t.coup.partedLatch = true ∧ t.has .parted = true ∧
    t.coup.onset = some s.clock
  latched : ¬ s.tensionParts tension = true → s.coup.partedLatch = true → t.coup.cls = s.coup.cls ∧
    t.coup.partedLatch = true ∧ t.coup.onset = s.coup.onset
  judged : ¬ s.tensionParts tension = true → s.coup.partedLatch = false →
    t.coup.cls = s.classOf tension ∧ t.coup.partedLatch = false
  moved : ¬ s.tensionParts tension = true → s.coup.partedLatch = false → s.coup.supervised = true →
    s.classOf tension ≠ s.coup.cls →
    (∀ d, classCondition (s.classOf tension) = some d → t.has d = true) ∧
    (∀ d, classCondition s.coup.cls = some d → t.has d = false) ∧
    (s.classOf tension = .overload → t.coup.onset = some s.clock) ∧
    (s.station.acting = true → s.load ≤ 7 → t.waits .strain = true)
  kept : ¬ s.tensionParts tension = true → s.coup.partedLatch = false →
    s.coup.supervised = false ∨ s.classOf tension = s.coup.cls →
    t.has .strainHigh = s.has .strainHigh ∧ t.has .overload = s.has .overload ∧ t.coup.onset = s.coup.onset

theorem classed_moves {s : State} {t : Nat} (h : ¬ s.tensionParts t = true) (latch : s.coup.partedLatch = false)
    (up : s.coup.supervised = true) (n : s.classOf t ≠ s.coup.cls) :
    Classes (s.classOf t) (s.tensioned t).noteWindow (s.classed t) := by
  rw [classed_judged h latch, if_pos up]
  refine changeClass_classes ?_
  show s.classOf t ≠ (s.tensioned t).coup.cls
  rw [tensioned_coup]
  exact n

theorem classed_still {s : State} {t : Nat} (h : ¬ s.tensionParts t = true) (latch : s.coup.partedLatch = false)
    (still : s.coup.supervised = false ∨ s.classOf t = s.coup.cls) : s.classed t =
      { (s.tensioned t).noteWindow with coup := { (s.tensioned t).noteWindow.coup with cls := s.classOf t } } := by
  rw [classed_judged h latch]
  by_cases up : s.coup.supervised = true
  · have same : s.classOf t = (s.tensioned t).noteWindow.coup.cls := by
      show _ = (s.tensioned t).coup.cls
      rw [tensioned_coup]
      exact still.resolve_left (by rw [up]; nofun)
    rw [if_pos up, same]
    exact if_pos rfl
  · exact if_neg up

theorem classed_judges (s : State) (t : Nat) : Judges s t (s.classed t) := by
  have touches := tensioned_touches s t
  have unit := noted_coup s t
  refine ⟨by rw [classed_coup]; rfl, by rw [classed_coup]; rfl, by rw [classed_coup]; rfl, by rw [classed_coup]; rfl,
    classed_signal t, by rw [classed_coup], fun parts => ?_, fun parts latch => ?_, fun parts latch => ?_,
    fun parts latch up moves => ?_, fun parts latch still => ?_⟩
  · have told := partedOnset_parts (s.tensioned t)
    rw [classed_parts parts, told.coup]
    exact ⟨rfl, rfl, told.parted, congrArg some (touches.clock (by decide))⟩
  · rw [classed_latched parts latch, unit]
    exact ⟨rfl, latch, rfl⟩
  · by_cases still : s.coup.supervised = false ∨ s.classOf t = s.coup.cls
    · rw [classed_still parts latch still, unit]
      exact ⟨rfl, latch⟩
    · rw [not_or, Bool.not_eq_false] at still
      rw [(classed_moves parts latch still.1 still.2).coup, unit]
      exact ⟨rfl, latch⟩
  · have told := classed_moves parts latch up moves
    have cls : (s.tensioned t).noteWindow.coup.cls = s.coup.cls := by rw [unit]; rfl
    refine ⟨told.raised, fun d e => told.cleared d (by rw [cls]; exact e), fun over_ => ?_, fun act free => ?_⟩
    · rw [told.coup]
      exact (if_pos over_).trans (congrArg some (touches.clock (by decide)))
    · refine told.waits ?_ ((tensioned_loaded t free).load.trans free)
      show (s.tensioned t).station.acting = true
      rw [touches.station (by decide)]
      exact act
  · rw [classed_still parts latch still, unit]
    exact ⟨(tensioned_has s t).2 .strainHigh nofun nofun, (tensioned_has s t).2 .overload nofun nofun, rfl⟩

theorem woundUp_judges (s : State) (t : Nat) : Judges s t (s.classed t).woundUp := by
  let w := s.classed t
  have told : Judges s t w := classed_judges s t
  have touches : OnlyTouches [.coup] w w.woundUp := woundUp_touches w
  have has (c : AlertCode) : w.woundUp.has c = w.has c := touches.has (by decide) c
  have unit := woundUp_only w
  have cls : w.woundUp.coup.cls = w.coup.cls := by rw [unit]
  have latch : w.woundUp.coup.partedLatch = w.coup.partedLatch := by rw [unit]
  have onset : w.woundUp.coup.onset = w.coup.onset := by rw [unit]
  refine ⟨?_, ?_, ?_, ?_, ?_, ?_, ?_, ?_, ?_, ?_, ?_⟩
  · exact (congrArg (·.window) unit).trans told.window
  · exact (congrArg (·.filtered) unit).trans told.filtered
  · exact (congrArg (·.peak) unit).trans told.peak
  · exact (congrArg (·.peakSince) unit).trans told.since
  · rw [has]; exact told.signal
  · exact (congrArg (·.classTaken) unit).trans told.taken
  · rw [cls, latch, onset, has]; exact told.parted
  · rw [cls, latch, onset]; exact told.latched
  · rw [cls, latch]; exact told.judged
  · intro parts free up moves
    obtain ⟨raised, cleared, marked, waits⟩ := told.moved parts free up moves
    exact ⟨fun d h => (has d).trans (raised d h), fun d h => (has d).trans (cleared d h),
      fun h => onset.trans (marked h), fun act room => (touches.waits .strain).trans (waits act room)⟩
  · rw [has, has, onset]; exact told.kept

/-- A rise to HIGH or above returns a station standing by to ACTIVE (R196). -/
theorem classed_returns {s : State} {t : Nat} (coup : s.isCoup = true) (up : s.coup.supervised = true)
    (parts : ¬ s.tensionParts t = true) (latch : s.coup.partedLatch = false) (stands : s.station = .standby)
    (moves : s.classOf t ≠ s.coup.cls) (high : aboveTaut (s.classOf t) = true) :
    (s.classed t).woundUp.station = .active ∧ (s.classed t).woundUp.RepeatsAfresh := by
  let v := (s.tensioned t).noteWindow
  let m := v.classMarked (s.classOf t)
  have touches : OnlyTouches [.present, .alerts, .link, .coup] s m :=
    (tensioned_touches s t).trans ((noteWindow_touches _).mono.trans (classMarked_touches v _))
  have moved : s.classOf t ≠ v.coup.cls := by
    show s.classOf t ≠ (s.tensioned t).coup.cls
    rw [tensioned_coup]
    exact moves
  have told : s.classed t = m.offerStrain.coupReturn := by
    rw [classed_judged parts latch, if_pos up, changeClass_eq moved]
    refine reportClass_returns ?_ ((touches.station (by decide)).trans stands) (by rw [classMarked_coup]; exact high)
    rw [← coup]
    exact isCoup_eq (touches.role (by decide))
  obtain ⟨station, afresh⟩ := coupReturn_active m.offerStrain
  rw [told]
  have wound := woundUp_touches m.offerStrain.coupReturn
  refine ⟨(wound.station (by decide)).trans station, ?_⟩
  unfold State.RepeatsAfresh at afresh ⊢
  rw [wound.alerts (by decide), wound.clock (by decide)]
  exact afresh

end Sys2Proof.Machine
end

section
/-! SUPPORT. A delivery of the tension bridge: O52. -/

namespace Sys2Proof.Machine

-- As in Laws/Touches.lean: one theorem at a time.
set_option Elab.async false

/-! ## The slack dwell after a delivery (R107) -/

theorem woundUp_dwell {s : State} (coup : s.isCoup = true) (act : s.station = .active) (up : s.coup.supervised = true)
    (idle : s.coup.winch = .idle) : s.woundUp.coup.winch = .idle ∧
    (s.woundUp.coup.dwellTimer ≠ none ↔ s.woundUp.coup.cls = .slack ∧ s.woundUp.permit = true ∧
      s.woundUp.has .tensionSignal = false) := by
  have judged := judgeWinch_dwell_iff coup act up idle
  have still : s.woundUp = s.judgeWinch := hauledTaut_idle (by rw [judged.1]; nofun)
  rw [still]
  exact judged

theorem dwellJudged_of {s t : State} (dwells : Dwells s t) (image : t.start.image = s.start.image)
    (judged : s.station = .active → t.station = .active → s.coup.supervised = true → s.coup.winch = .idle →
      t.coup.winch = .idle ∧
      (t.coup.dwellTimer ≠ none ↔ t.coup.cls = .slack ∧ t.permit = true ∧ t.has .tensionSignal = false)) :
    DwellJudged s t := by
  unfold DwellJudged
  intro holds coup act act' up idle
  obtain ⟨rests, runs⟩ := judged act act' up idle
  refine ⟨rests, fun n => ?_, fun h => runs.mpr h, fun h off => ?_⟩
  · by_contra on
    exact n (runs.mp on)
  · have on := runs.mpr h
    rcases dwells with none_ | same | started
    · exact absurd none_ on
    · exact absurd (same.trans off) on
    · rw [started]
      unfold State.param
      rw [image]

theorem classed_supervised (s : State) (t : Nat) : (s.classed t).coup.supervised = s.coup.supervised := by
  rw [classed_coup]
  rfl

theorem tensionDelivery_dwell {s : State} (raw : Raw) (ok : Bool) (coup : s.isCoup = true) (taking : s.station.taking = true) :
    DwellJudged s (s.tensionDelivery raw ok) := by
  let t := s.tensionDelivery raw ok
  have touches : OnlyTouches coupComms s t := tensionDelivery_touches s raw ok
  have role : t.isCoup = true := by rw [← coup]; exact isCoup_eq (touches.role (by decide))
  refine dwellJudged_of ((tensionDelivery_runs (a := .whole) s raw ok).winds.2 role)
    (congrArg StartUnit.image (touches.start (by decide)))
    fun act act' up idle => ?_
  have taken : t = if ok then s.tensionInRange (conversionTension raw) else s.tensionFault :=
    whenever_pos (s := s) (f := fun s => if ok then s.tensionInRange (conversionTension raw) else s.tensionFault) taking
  rw [show s.tensionDelivery raw ok = t from rfl] at act' ⊢
  rw [taken] at act' ⊢
  cases ok with
  | true =>
    let w := s.classed (conversionTension raw)
    have station : w.station = .active := ((woundUp_touches w).station (by decide)).symm.trans act'
    have rests : w.coup.winch = .idle := by
      rcases classed_rolls coup act station with same | ended
      · exact same.1.trans idle
      · exact ended.2.2.1
    have role : w.isCoup = s.isCoup := isCoup_eq ((classed_touches s _).role (by decide))
    exact woundUp_dwell (role.trans coup) station
      ((classed_supervised s _).trans up) rests
  | false =>
    let m := s.raiseNew .tensionSignal
    have raised : OnlyTouches commsParts s m := raiseNew_touches s _
    have fault : s.tensionFault = m.judgeWinch :=
      whenever_pos (s := s) (f := fun s => (s.raiseNew .tensionSignal).judgeWinch) up
    have unit : m.coup = s.coup := raised.coup (by decide)
    show s.tensionFault.coup.winch = _ ∧ (s.tensionFault.coup.dwellTimer ≠ none ↔ _)
    rw [if_neg nofun, fault]
    exact judgeWinch_dwell_iff (by rw [← coup]; exact isCoup_eq (raised.role (by decide)))
      ((raised.station (by decide)).trans act) (by rw [unit]; exact up) (by rw [unit]; exact idle)

/-! ## A heave through a delivery (R108) -/

theorem permit_unloaded {s : State} (coup : s.isCoup = true) (up : s.station.joined = true) (permit : s.permit = true) :
    (s.coup.cls == .overload || s.coup.cls == .parted) = false := by
  have unloaded : s.table.cells.any entryLoaded = false := by
    unfold State.permit at permit
    simp only [Bool.and_eq_true, Bool.not_eq_true'] at permit
    exact permit.1.2
  have own : s.table.get s.address = s.ownEntry := Tab.get_set_self _ _ _
  have mine : entryLoaded s.ownEntry = false := by
    rw [← own]
    by_contra loaded
    rw [Bool.not_eq_false] at loaded
    rw [List.any_eq_true.mpr ⟨_, Tab.get_mem s.table s.address, loaded⟩] at unloaded
    exact nomatch unloaded
  unfold State.ownEntry at mine
  rw [up, (isCoup_iff s).mp coup] at mine
  exact mine

theorem classed_cls {s : State} {t : Nat} (latch : s.coup.partedLatch = false) :
    (s.classed t).coup.cls = if s.tensionParts t then .parted else s.classOf t := by
  split
  next parts => exact ((classed_judges s t).parted parts).1
  next parts => exact ((classed_judges s t).judged parts latch).1

theorem classed_hauls {s : State} {t : Nat} (coup : s.isCoup = true) (act : s.station = .active)
    (up : s.coup.supervised = true) (permit : s.permit = true) (latch : s.coup.partedLatch = false)
    (request : s.start.request = false) : (s.classed t).Hauls ↔
      ¬ s.tensionParts t = true ∧ (s.classOf t = .slack ∨ s.classOf t = .taut) := by
  have cls := classed_cls (s := s) (t := t) latch
  have signal := classed_signal t up
  have touches := classed_quiet (t := t) act request
  have low (c : StrainClass) : aboveTaut c = false ↔ c = .slack ∨ c = .taut := by cases c <;> simp [aboveTaut]
  have permits (h : aboveTaut (s.classed t).coup.cls = false) : (s.classed t).permit = true := by
    rw [← permit]
    refine permit_congr_loads coup (touches.role (by decide)) (touches.address (by decide))
      (touches.station (by decide)) (by rw [touches.start (by decide)]) (by rw [touches.peers (by decide)])
      (by rw [touches.demand (by decide)]) (by rw [touches.demand (by decide)]) ?_
    rw [permit_unloaded coup (by rw [act]; rfl) permit]
    rcases (low _).mp h with e | e <;> rw [e] <;> rfl
  constructor
  · rintro ⟨-, quiet, -⟩
    rw [cls] at quiet
    split at quiet
    · exact nomatch quiet
    next parts => exact ⟨parts, (low _).mp quiet⟩
  · rintro ⟨parts, quiet⟩
    have below : aboveTaut (s.classed t).coup.cls = false := by rw [cls, if_neg parts]; exact (low _).mpr quiet
    exact ⟨permits below, below, signal⟩

/-- What a delivery makes of a heave. -/
structure Heaves (s : State) (tension : Nat) (low : Prop) (t : State) : Prop where
  station : t.station = .active
  holds : low → s.param Param.tautLevel + s.param Param.hysteresis ≤ filteredOf (pushTension s.coup.window tension) →
    t.coup.winch = .holding ∧ t.coup.settleTimer = startTimer s.clock (sec 5) ∧ t.coup.runTimer = none ∧
    t.coup.dwellTimer = none
  goesOn : low → ¬ s.param Param.tautLevel + s.param Param.hysteresis ≤ filteredOf (pushTension s.coup.window tension) →
    t.coup.winch = .heaving ∧ t.coup.runTimer = s.coup.runTimer
  ends : ¬ low → t.coup.winch = .idle ∧ t.coup.runTimer = none
  drum : t.coup.drumSnap = s.coup.drumSnap ∧ t.coup.drumCount = s.coup.drumCount

theorem delivery_heaves {s : State} {t : Nat} (coup : s.isCoup = true) (act : s.station = .active)
    (up : s.coup.supervised = true) (heave : s.coup.winch = .heaving) (permit : s.permit = true)
    (latch : s.coup.partedLatch = false) (request : s.start.request = false) :
    Heaves s t (¬ s.tensionParts t = true ∧ (s.classOf t = .slack ∨ s.classOf t = .taut)) (s.classed t).woundUp := by
  let w := s.classed t
  have touches : OnlyTouches [.present, .alerts, .link, .coup] s w := classed_quiet act request
  have station : w.station = .active := (touches.station (by decide)).trans act
  have role : w.isCoup = true := (isCoup_eq (touches.role (by decide))).trans coup
  have hauls := classed_hauls (t := t) coup act up permit latch request
  have unit := classed_coup s t
  have filtered : w.coup.filtered = filteredOf (pushTension s.coup.window t) := (congrArg (·.filtered) unit).trans rfl
  have param : w.param = s.param := by unfold State.param; rw [touches.start (by decide)]
  have clock : w.clock = s.clock := touches.clock (by decide)
  have going (low : w.Hauls) : w.coup.winch = .heaving ∧ w.coup.runTimer = s.coup.runTimer := by
    rcases classed_rolls coup act station with same | ended
    · exact ⟨same.1.trans heave, same.2⟩
    · exact absurd low ended.1
  have drums := woundUp_only w
  refine ⟨((woundUp_touches w).station (by decide)).trans station, fun low taut => ?_, fun low slack => ?_, fun high => ?_, ?_⟩
  · have wound := (woundUp_hauls role station (going (hauls.mpr low)).1 (hauls.mpr low)).1
    rw [param, filtered, clock] at wound
    exact wound taut
  · have wound := (woundUp_hauls role station (going (hauls.mpr low)).1 (hauls.mpr low)).2
    rw [param, filtered, (going (hauls.mpr low)).2] at wound
    exact wound slack
  · refine woundUp_rests role station ((classed_supervised s t).trans up) (fun h => high (hauls.mp h)) ?_
    rcases classed_rolls coup act station with same | ended
    · exact .inl (same.1.trans heave)
    · exact .inr ended.2.2
  · exact ⟨(congrArg (·.drumSnap) drums).trans ((congrArg (·.drumSnap) unit).trans rfl),
      (congrArg (·.drumCount) drums).trans ((congrArg (·.drumCount) unit).trans rfl)⟩

/-! ## The completion -/

theorem deliver_coup {s : State} (a0 a1 reference : Raw) (coup : s.isCoup = true) :
    s.deliver a0 a1 reference = s.tensionDelivery a0 (rangeOf reference a0 == .inRange) := by
  unfold State.deliver
  rw [(isCoup_iff s).mp coup]

theorem tensionDelivery_taken {s : State} (raw : Raw) (taking : s.station.taking = true) :
    s.tensionDelivery raw true = (s.classed (conversionTension raw)).woundUp :=
  whenever_pos (s := s) (f := fun s => if true then s.tensionInRange (conversionTension raw) else s.tensionFault) taking

theorem tensionDelivery_faulted {s : State} (raw : Raw) (taking : s.station.taking = true) :
    s.tensionDelivery raw false = s.tensionFault :=
  whenever_pos (s := s) (f := fun s => if false then s.tensionInRange (conversionTension raw) else s.tensionFault) taking

theorem tensionFault_leaves (s : State) :
    s.tensionFault.coup = { s.coup with
      winch := s.tensionFault.coup.winch, dwellTimer := s.tensionFault.coup.dwellTimer,
      runTimer := s.tensionFault.coup.runTimer, settleTimer := s.tensionFault.coup.settleTimer } ∧
    s.tensionFault.station = s.station ∧
    (s.coup.supervised = true → s.tensionFault.has .tensionSignal = true) ∧
    (s.isCoup = true → s.coup.supervised = true → s.station = .active → s.tensionFault.coup.winch ≠ .heaving) ∧
    (s.station ≠ .active → s.tensionFault.coup.winch = s.coup.winch) := by
  let m := s.raiseNew .tensionSignal
  have raised : OnlyTouches commsParts s m := raiseNew_touches s _
  have unit : m.coup = s.coup := raised.coup (by decide)
  have touches : OnlyTouches [.coup] m m.judgeWinch := judgeWinch_touches m
  cases up : s.coup.supervised with
  | false =>
    have still : s.tensionFault = s := whenever_neg up
    rw [still]
    exact ⟨rfl, rfl, nofun, nofun, fun _ => rfl⟩
  | true =>
    have fault : s.tensionFault = m.judgeWinch :=
      whenever_pos (s := s) (f := fun s => (s.raiseNew .tensionSignal).judgeWinch) up
    have signal : m.has .tensionSignal = true := raiseNew_has_self s _
    rw [fault]
    refine ⟨by rw [judgeWinch_only, unit], (touches.station (by decide)).trans (raised.station (by decide)), fun _ => ?_,
      fun coup _ act => ?_, fun away => ?_⟩
    · rw [touches.has (by decide)]; exact signal
    · exact judgeWinch_slackens ((isCoup_eq (raised.role (by decide))).trans coup) ((raised.station (by decide)).trans act)
        (by rw [unit]; exact up) (.inr (.inr signal))
    · rw [judgeWinch_idle (by rw [raised.station (by decide)]; exact away), unit]

theorem delivered_winch {s : State} (raw : Raw) (ok : Bool) (taking : s.station.taking = true) :
    (s.coup.supervised = false → (s.tensionDelivery raw ok).coup.winch = s.coup.winch ∨
      (s.tensionDelivery raw ok).coup.winch = .holding) ∧
    (s.station ≠ .active → s.station ≠ .standby → (s.tensionDelivery raw ok).coup.winch = s.coup.winch) := by
  cases ok with
  | true =>
    rw [tensionDelivery_taken raw taking]
    let w := s.classed (conversionTension raw)
    have hauled (u : State) : u.hauledTaut.coup.winch = u.coup.winch ∨ u.hauledTaut.coup.winch = .holding := by
      unfold State.hauledTaut State.whenever
      split
      · exact .inr rfl
      · exact .inl rfl
    refine ⟨fun new => ?_, fun away stood => ?_⟩
    · have still : w.judgeWinch = w :=
        whenever_neg (by rw [(classed_supervised s _).trans new, Bool.and_false])
      have same : w.coup.winch = s.coup.winch := classed_winch (.inl new)
      have judged := hauled w.judgeWinch
      rw [show w.judgeWinch.coup.winch = s.coup.winch from (congrArg (·.coup.winch) still).trans same] at judged
      exact judged
    · have station : w.station ≠ .active := by
        rw [(classed_elsewhere away stood).station (by decide)]
        exact away
      have still : w.woundUp = w := by
        show w.judgeWinch.hauledTaut = w
        rw [judgeWinch_idle station]
        exact whenever_neg (by rw [beq_eq_false_iff_ne.mpr station]; simp)
      show w.woundUp.coup.winch = _
      rw [still]
      exact classed_winch (.inr ⟨away, stood⟩)
  | false =>
    rw [tensionDelivery_faulted raw taking]
    refine ⟨fun new => .inl ?_, fun away _ => (tensionFault_leaves s).2.2.2.2 away⟩
    have still : s.tensionFault = s := whenever_neg new
    rw [still]

theorem permit_completed {s : State} (dt : Micros) (a0 a1 reference : Raw) (coup : s.isCoup = true) :
    (s.completed dt a0 a1 reference).permit = s.permit := permit_congr coup rfl rfl rfl rfl rfl rfl rfl rfl

theorem quiet_outputs {s t : State} (coup : s.isCoup = true) (coup' : t.isCoup = true) (station : t.station = s.station)
    (winch : t.coup.winch = s.coup.winch) : outputChanges s t = [] := by
  obtain ⟨old0, old1⟩ := discrete_winch coup
  obtain ⟨new0, new1⟩ := discrete_winch coup'
  refine outputChanges_none fun i => ?_
  by_cases high : 1 < i.val
  · rw [ownerless high, ownerless high]
  · have cases_i : i = 0 ∨ i = 1 := by omega
    rcases cases_i with rfl | rfl
    · rw [old0, new0, station, winch]
    · rw [old1, new1, old0, new0, station, winch]

/-- Settles O52: the delivery taken into the window, the class judged, the winch judged. -/
theorem tensionMovesTheClass : Obligations.TensionMovesTheClass := by
  intro s dt raw a1 reference l0 l1 l2 since coup taking running old sound tension window filtered raised taken parts cls
  have joined := joined_of_taking taking
  let u := s.completed dt raw a1 reference
  let l : Levels := { a0 := l0, a1 := l1, reference := l2 }
  let d := u.tensionDelivery raw (rangeOf reference raw == .inRange)
  have done : exec (.sequenceCompletion dt l0 l1 l2) s = .next (d.setLevels l) :=
    (exec_completion l joined running (by rw [(isCoup_iff s).mp coup]; exact old)).trans
      (congrArg (fun x : State => Host.Outcome.next (x.setLevels l)) (deliver_coup (s := u) raw a1 reference coup))
  have touches : OnlyTouches coupComms u d := tensionDelivery_touches u raw _
  have role : d.isCoup = true := (isCoup_eq (touches.role (by decide))).trans coup
  have windows : window = pushTension s.coup.window tension := pushTension_eq _ _
  have good : sound ↔ (rangeOf reference raw == .inRange) = true := by
    rw [rangeOf_good]
    exact and_assoc.symm
  have delivered (h : sound) : d = (u.classed tension).woundUp := by
    show u.tensionDelivery raw _ = _
    rw [good.mp h]
    exact tensionDelivery_taken raw taking
  have faulted (h : ¬ sound) : d = u.tensionFault := by
    show u.tensionDelivery raw _ = _
    rw [Bool.eq_false_iff.mpr fun e => h (good.mpr e)]
    exact tensionDelivery_faulted raw taking
  have partsIff : u.tensionParts tension = true ↔ parts := tensionParts_iff u tension
  have clsEq : u.classOf tension = cls := by
    show _ = (if taken then s.classFallen (sumNat window / window.length) (s.classRisen (sumNat window / window.length) s.coup.cls)
      else s.classRisen (sumNat window / window.length) .slack)
    rw [windows]
    rfl
  have told := woundUp_judges u tension
  refine ⟨d.setLevels l, done, touches.clock (by decide), fun h => ?_, fun h => ?_, fun h up act heave permit latch request => ?_,
    ?_, (delivered_winch (s := u) raw _ taking).1, (delivered_winch (s := u) raw _ taking).2, ?_⟩
  · have judged : Judges u tension d := (delivered h).symm ▸ told
    have away (n : ¬ parts) : ¬ u.tensionParts tension = true := fun e => n (partsIff.mp e)
    have places : s.comms.link.queue.length ≤ 6 → u.load ≤ 7 := fun free => (load_le u).trans (Nat.succ_le_succ free)
    rw [windows]
    refine ⟨judged.window, judged.filtered.trans (congrArg filteredOf windows.symm), judged.peak.trans (raisePeak_eq _ _),
      judged.since.trans (raisePeak_eq _ _), judged.signal, fun p => judged.parted (partsIff.mpr p), judged.taken,
      fun n latch => judged.latched (away n) latch, fun n latch => ?_⟩
    obtain ⟨class_, unlatched⟩ := judged.judged (away n) latch
    refine ⟨class_.trans clsEq, unlatched, fun up moves => ?_, fun still => ?_, fun up stands moves high => ?_⟩
    · obtain ⟨raises, clears, marks, waits⟩ := judged.moved (away n) latch up (by rw [clsEq]; exact moves)
      rw [clsEq] at raises marks
      exact ⟨fun e => raises .strainHigh (by rw [e]; rfl), fun e => clears .strainHigh (by rw [show u.coup.cls = _ from e]; rfl),
        fun e => ⟨raises .overload (by rw [e]; rfl), marks e⟩, fun e => clears .overload (by rw [show u.coup.cls = _ from e]; rfl),
        fun act free => waits act (places free)⟩
    · exact judged.kept (away n) latch (by rw [clsEq]; exact still)
    · have above : aboveTaut (u.classOf tension) = true := by
        rw [clsEq]
        rcases high with e | e <;> rw [e] <;> rfl
      have returned := classed_returns (s := u) coup up (away n) latch stands (by rw [clsEq]; exact moves) above
      rw [← delivered h] at returned
      exact returned
  · have left := tensionFault_leaves u
    rw [← faulted h] at left
    obtain ⟨unit, station, signal, slackens, -⟩ := left
    refine ⟨congrArg (·.window) unit, congrArg (·.filtered) unit, congrArg (·.cls) unit, congrArg (·.peak) unit,
      congrArg (·.peakSince) unit, congrArg (·.partedLatch) unit, station, signal, fun up act => slackens coup up act, fun new => ?_⟩
    have still : d = u := (faulted h).trans (whenever_neg (s := u) (f := fun s => (s.raiseNew .tensionSignal).judgeWinch) new)
    show d.coup = _ ∧ d.comms = _
    rw [still]
    exact ⟨rfl, rfl⟩
  · intro low taut
    have heaves := delivery_heaves (s := u) (t := tension) coup act up heave ((permit_completed dt raw a1 reference coup).trans permit)
      latch request
    rw [← delivered h, clsEq] at heaves
    obtain ⟨station, holds, goesOn, ends, drum⟩ := heaves
    have lowIff : low ↔ ¬ u.tensionParts tension = true ∧ (cls = .slack ∨ cls = .taut) := and_congr_left' (not_congr partsIff.symm)
    have tautIff : taut ↔ u.param Param.tautLevel + u.param Param.hysteresis ≤ filteredOf (pushTension u.coup.window tension) := by
      show _ ≤ sumNat window / window.length ↔ _
      rw [windows]
      rfl
    have stops (n : d.coup.winch ≠ .heaving) : outputChanges s (d.setLevels l) = [((0 : Fin 8), false), ((1 : Fin 8), false)] :=
      outputChanges_stops (t := d.setLevels l) coup role (by rw [act]; rfl) heave n
    refine ⟨fun low taut => holds (lowIff.mp low) (tautIff.mp taut), fun low slack => ?_, fun high => ends fun k => high (lowIff.mpr k), fun k => ?_⟩
    · obtain ⟨on, timer⟩ := goesOn (lowIff.mp low) fun e => slack (tautIff.mpr e)
      exact ⟨on, timer, drum.1, drum.2, quiet_outputs (t := d.setLevels l) coup role (station.trans act.symm) (on.trans heave.symm)⟩
    · apply stops
      by_cases k' : low
      · rw [(holds (lowIff.mp k') (tautIff.mp (k.resolve_left fun n => n k'))).1]; nofun
      · rw [(ends fun e => k' (lowIff.mpr e)).1]; nofun
  · exact tensionDelivery_dwell (s := u) raw _ coup taking
  · exact (completed_touches s dt raw a1 reference).mono.trans (touches.mono.trans (setLevels_touches d l).mono)

end Sys2Proof.Machine
end

section
/-! SUPPORT. The start unit's load and reference check: O5 and O6. -/

namespace Sys2Proof.Machine

-- As in Laws/Touches.lean: one theorem at a time.
set_option Elab.async false

/-! ## The request of the read (R188) -/

theorem memoryDataOut_of_reading {s : State} {since : Clock} (h : s.start.reading = some since) : s.memoryDataOut =
    if elapsed s.clock since < 24 then some (readRequest.getMsbD (elapsed s.clock since)) else none := by
  have select : s.memorySelect = true := by unfold State.memorySelect; rw [h]; rfl
  unfold State.memoryDataOut
  rw [select, memoryPeriods_of_reading h, Bool.true_and]
  by_cases early : elapsed s.clock since < 24
  · have same : min 1048 (elapsed s.clock since) = elapsed s.clock since := Nat.min_eq_right (early.le.trans (by decide))
    rw [same, if_pos early, if_pos (decide_eq_true early)]
  · rw [if_neg early, if_neg fun h =>
      absurd (of_decide_eq_true h) (Nat.not_lt.mpr (Nat.le_min.mpr ⟨by decide, Nat.not_lt.mp early⟩))]

theorem readRequest_bit (i : Nat) : readRequest.getMsbD i =
    if i < 8 then (0x03#8).getMsbD i else (0#16).getMsbD (i - 8) := by
  unfold readRequest
  rw [BitVec.getMsbD_append]
  by_cases h : i < 8
  · rw [if_pos h, if_neg (by omega)]
  · rw [if_neg h, if_pos (by omega)]

/-! ## The image (R188, R189) -/

theorem wordsOf_length : ∀ (n : Nat) (l : List Byte), l.length = 2 * n → (wordsOf l).length = n
  | 0, l, h => by rw [List.length_eq_zero_iff.mp h]; rfl
  | n + 1, hi :: lo :: rest, h => by
    have shorter : rest.length = 2 * n := by simp only [List.length_cons] at h; omega
    exact congrArg (· + 1) (wordsOf_length n rest shorter)
  | n + 1, [_], h => by simp only [List.length_cons, List.length_nil] at h; omega
  | n + 1, [], h => by simp only [List.length_nil] at h; omega

theorem readBytes_whole {bytes : List Byte} (h : bytes.length = 128) : readBytes bytes = bytes :=
  List.take_left' h

theorem imagePasses_iff (r : Role) {bytes : List Byte} (h : bytes.length = 128) : imagePasses r bytes = true ↔
    bytes.all (fun b => b == 0xFF#8) = false ∧
      crcBits crcSeed (wordsBits ((wordsOf bytes).take 63)) = imageWord (wordsOf bytes) 63 ∧
      (imageWord (wordsOf bytes) 0).toNat / 256 = 0xD6 ∧ (imageWord (wordsOf bytes) 0).toNat % 256 = roleCode r := by
  unfold imagePasses imageChecks
  rw [readBytes_whole h]
  simp only [Bool.and_eq_true, Bool.not_eq_true', beq_iff_eq, and_assoc]

/-! ## The entry to FAILED (R180, R189) -/

/-- What an entry to FAILED leaves. -/
theorem enterFailed_leaves (s : State) : s.enterFailed.trip = true ∧ s.enterFailed.warn = false ∧
    s.enterFailed.comms.alerts.list = [] ∧ s.enterFailed.outputs.periods = s.outputs.periods ∧
    (∀ i, (s.enterFailed.outputs.outs.get i).Closed) :=
  ⟨(trip_iff _).mpr (.inl rfl), Bool.eq_false_iff.mpr fun w => ((warn_iff _).mp w).1 rfl, rfl, rfl,
    applySafe_closed _⟩

theorem exec_read {s : State} {dt : Micros} {since : Clock} (bytes : List Byte) (start : s.station = .start)
    (reading : s.start.reading = some since) (clocked : 1048 ≤ elapsed (s.later dt) since) :
    exec (.configReadComplete dt bytes) s = .next ((s.advance dt).readComplete bytes) :=
  exec_pos (f := fun s => s.readComplete bytes) rfl (Bool.and_eq_true_iff.mpr
    ⟨beq_iff_eq.mpr start, (readDue_iff (s := s.advance dt) reading).mpr clocked⟩)

/-- The station once its image is read. -/
def State.imaged (s : State) (bytes : List Byte) : State :=
  { s with start := { s.start with image := wordsOf bytes, reading := none } }

theorem readComplete_passes {s : State} {r : Role} {bytes : List Byte} (role : s.role = some r) (whole : bytes.length = 128)
    (pass : imagePasses r bytes = true) : s.readComplete bytes =
      State.whenever { s.imaged bytes with conv := { s.conv with state := .reference s.clock } }
        (imageNeedsClamp r (wordsOf bytes)) (fun t => t.raise .configClamped) := by
  unfold State.readComplete
  split
  next none_ => exact nomatch role.symm.trans none_
  next r' some_ =>
    obtain rfl : r = r' := Option.some.inj (role.symm.trans some_)
    rw [readBytes_whole whole]
    dsimp only
    rw [if_pos pass]
    cases imageNeedsClamp r (wordsOf bytes) <;> rfl

theorem readComplete_fails {s : State} {r : Role} {bytes : List Byte} (role : s.role = some r) (whole : bytes.length = 128)
    (fail : ¬ imagePasses r bytes = true) : s.readComplete bytes = (s.imaged bytes).enterFailed := by
  unfold State.readComplete
  split
  next none_ => exact nomatch role.symm.trans none_
  next r' some_ =>
    obtain rfl : r = r' := Option.some.inj (role.symm.trans some_)
    rw [readBytes_whole whole]
    exact if_neg fail

/-- Settles O5: the request by its bits, the image by its four judgements. -/
theorem configReadJudgesTheImage : Obligations.ConfigReadJudgesTheImage := by
  refine ⟨fun s since reading => ?_, fun s idle => ?_, fun s dt bytes since reading early => ?_,
    fun s dt bytes r since start reading clocked role whole => ?_⟩
  · intro period
    rw [memoryDataOut_of_reading reading]
    refine ⟨by unfold State.memorySelect; rw [reading]; rfl, memoryPeriods_of_reading reading, fun low => ?_,
      fun low high => ?_, fun high => if_neg (Nat.not_lt.mpr high)⟩
    · rw [if_pos (Nat.lt_of_lt_of_le low (by decide)), readRequest_bit, if_pos low]
    · rw [if_pos high, readRequest_bit, if_neg (Nat.not_lt.mpr low)]
  · have select : s.memorySelect = false := by unfold State.memorySelect; rw [idle]; rfl
    refine ⟨select, by unfold State.memoryPeriods; rw [idle], ?_⟩
    unfold State.memoryDataOut
    rw [select]
    rfl
  · refine exec_neg (f := fun s => s.readComplete bytes) rfl (Bool.eq_false_iff.mpr fun h => ?_)
    exact absurd ((readDue_iff (s := s.advance dt) reading).mp (Bool.and_eq_true_iff.mp h).2) (Nat.not_le.mpr early)
  · intro image u passed passes
    have judged : imagePasses r bytes = true ↔ passes := imagePasses_iff r whole
    have role' : (s.advance dt).role = some r := role
    refine ⟨_, exec_read bytes start reading clocked, wordsOf_length 64 bytes whole, fun pass fits => ?_,
      fun pass clamps => ?_, fun fails => ?_⟩
    · rw [readComplete_passes role' whole (judged.mpr pass)]
      exact whenever_neg fits
    · rw [readComplete_passes role' whole (judged.mpr pass), whenever_pos (f := fun t => t.raise .configClamped) clamps]
      exact raise_raises passed .configClamped
    · rw [readComplete_fails role' whole fun p => fails (judged.mp p)]
      obtain ⟨trip, warn, list, periods, closed⟩ := enterFailed_leaves u
      exact ⟨rfl, list, trip, warn, periods, closed⟩

/-! ## The entry to JOINING (R37, R191) -/

theorem setX_same (s : State) : s.setX s.thrust.x = s := by
  unfold State.setX State.setDrive
  rw [if_pos ⟨rfl, rfl⟩]
  dsimp only
  rw [beq_self_eq_true]
  rfl

theorem refreshAvailability_atRest {s : State} (prop : s.isProp = true) (taking : s.station.taking = true)
    (rest : s.thrust.x = 0) : s.refreshAvailability = { s with thrust := { s.thrust with
      factor := s.factorNow, ahead := s.param Param.ratedThrust * s.factorNow / 1000,
      astern := s.param Param.ratedThrust * s.factorNow / 1000 * s.param Param.asternRatio / 1000 } } := by
  rw [refreshAvailability_eq prop taking, withinAvailability_of (by omega) (by omega)]
  exact setX_same _

theorem refreshStrain_waiting {s : State} (prop : s.isProp = true) (taking : s.station.taking = true)
    (away : s.station ≠ .active) :
    s.refreshStrain = { s with thrust := { s.thrust with strain := s.strainFactorNow } } := by
  unfold State.refreshStrain
  rw [if_pos (Bool.and_eq_true_iff.mpr ⟨prop, taking⟩), beq_eq_false_iff_ne.mpr away]
  rfl

/-- A PROPULSION station's own entry has no strain factor. -/
theorem strainFactorNow_prop {s t : State} (prop : s.isProp = true) (role : t.role = s.role) (address : t.address = s.address)
    (entries : t.peers.entries = s.peers.entries) : t.strainFactorNow = s.strainFactorNow := by
  have own (u : State) (h : u.role = some .propulsion) : entryFactor u.ownEntry = none := by
    unfold State.ownEntry
    rw [h]
    cases u.station.joined <;> rfl
  have same : entryFactor t.ownEntry = entryFactor s.ownEntry := by
    rw [own t (role.trans ((isProp_iff s).mp prop)), own s ((isProp_iff s).mp prop)]
  unfold State.strainFactorNow State.table
  simp only [Tab.set, List.map_set]
  rw [same, entries, address]

theorem refreshed_atRest {s : State} (prop : s.isProp = true) (taking : s.station.taking = true)
    (away : s.station ≠ .active) (rest : s.thrust.x = 0) : s.refreshAvailability.refreshStrain =
      { s with thrust := { s.thrust with
        factor := s.factorNow, ahead := s.param Param.ratedThrust * s.factorNow / 1000,
        astern := s.param Param.ratedThrust * s.factorNow / 1000 * s.param Param.asternRatio / 1000,
        strain := s.strainFactorNow } } := by
  have found := refreshAvailability_atRest prop taking rest
  have touches : OnlyTouches driveParts s s.refreshAvailability := refreshAvailability_touches s
  have role := touches.role (by decide)
  have station := touches.station (by decide)
  have strained := refreshStrain_waiting (s := s.refreshAvailability) (by unfold State.isProp at *; rw [role]; exact prop)
    (by rw [station]; exact taking) (by rw [station]; exact away)
  rw [strainFactorNow_prop prop role (touches.address (by decide)) (by rw [touches.peers (by decide)])] at strained
  rw [strained, found]

/-- The helm's live demand with its switches read (R25). -/
def State.switched (s : State) : HelmUnit :=
  if s.isHelm then { s.helm with live := { s.helm.live with
      mode := modeOfLines (twoLine (s.line 4) (s.line 5)),
      cap := s.capOfLines (twoLine (s.line 6) (s.line 7)), stopAll := s.line 3 } }
  else s.helm

/-- The thrust unit with its availability found (R37, R50, R53). -/
def State.ready (s : State) : ThrustUnit :=
  if s.isProp then { s.thrust with
      factor := s.factorNow, ahead := s.param Param.ratedThrust * s.factorNow / 1000,
      astern := s.param Param.ratedThrust * s.factorNow / 1000 * s.param Param.asternRatio / 1000,
      strain := s.strainFactorNow, expected := s.expectedAt s.thrust.duty }
  else s.thrust

theorem enterJoining_eq {s : State} (rest : s.isProp = true → s.thrust.x = 0) :
    s.enterJoining = State.applySafe { s.startJoining with helm := s.switched, thrust := s.ready } := by
  have begun : s.enterJoining =
      ((s.startJoining.whenever s.isHelm State.readSwitches).refreshAvailability.refreshStrain).applySafe := rfl
  rw [begun]
  congr 1
  unfold State.switched State.ready
  cases prop : s.isProp with
  | false =>
    have other : (s.startJoining.whenever s.isHelm State.readSwitches).isProp = false := by
      unfold State.whenever
      split <;> exact prop
    rw [refreshAvailability_other other, refreshStrain_other other]
    unfold State.whenever State.startJoining
    rw [prop]
    cases s.isHelm <;> rfl
  | true =>
    have helm : s.isHelm = false := isHelm_of_prop prop
    have still : s.startJoining.whenever s.isHelm State.readSwitches = s.startJoining := whenever_neg helm
    have thrust : s.startJoining.thrust = { s.thrust with expected := s.expectedAt s.thrust.duty } :=
      congrArg (fun e => { s.thrust with expected := e }) (if_pos prop)
    rw [still, refreshed_atRest (s := s.startJoining) prop rfl nofun (rest prop),
      strainFactorNow_prop (s := s) (t := s.startJoining) prop rfl rfl rfl, helm, thrust]
    rfl

theorem referenceDue_iff {s : State} {since : Clock} (h : s.conv.state = .reference since) :
    s.referenceDue = true ↔ 40 ≤ elapsed s.clock since := by
  unfold State.referenceDue
  rw [h]
  exact decide_eq_true_iff

/-- The station once its reference is converted. -/
def State.referenced (s : State) (result : Raw) : State :=
  { s with conv := { s.conv with state := .idle, latestRef := some result } }

theorem exec_reference {s : State} {dt : Micros} {since : Clock} (result : Raw) (start : s.station = .start)
    (converts : s.conv.state = .reference since) (old : 40 ≤ elapsed (s.later dt) since) :
    exec (.referenceCheckComplete dt result) s =
      .next (if referencePasses result then ((s.advance dt).referenced result).enterJoining
        else ((s.advance dt).referenced result).enterFailed) :=
  exec_pos (f := fun s => if referencePasses result then (s.referenced result).enterJoining
    else (s.referenced result).enterFailed) rfl
    (Bool.and_eq_true_iff.mpr ⟨beq_iff_eq.mpr start, (referenceDue_iff (s := s.advance dt) converts).mpr old⟩)

theorem roleInterval_eq (s : State) : roleInterval s.role = if s.isCoup then 50000 else 20000 := by
  unfold State.isCoup
  cases s.role with
  | none => rfl
  | some r => cases r <;> rfl

/-- Settles O6: the two ends of START. -/
theorem referenceCheckEndsStart : Obligations.ReferenceCheckEndsStart := by
  intro s dt result since start thrust converts old
  let u := (s.advance dt).referenced result
  have passes : referencePasses result = true ↔ 2008 ≤ result.toNat ∧ result.toNat ≤ 2088 := by
    unfold referencePasses
    simp
  refine ⟨_, exec_reference result start converts old, ?_⟩
  by_cases pass : referencePasses result = true
  · have rest (prop : u.isProp = true) : u.thrust.x = 0 :=
      (thrust prop).1.resolve_right fun e => by rw [start] at e; exact absurd e.2 nofun
    rw [if_pos pass, enterJoining_eq (s := u) rest]
    refine ⟨rfl, applySafe_closed _, rfl, fun _ => ⟨rfl, rfl, rfl, rfl, rfl, ?_, rfl, rfl, ?_, ?_⟩,
      fun n => absurd (passes.mp pass) n⟩
    · show u.conv.restart u.clock (roleInterval s.role) = _
      rw [roleInterval_eq]
      unfold Converter.restart
      cases s.isCoup <;> rfl
    · show u.ready = _
      unfold State.ready
      cases prop : s.isProp with
      | false => exact if_neg (by rw [show u.isProp = false from prop]; nofun)
      | true =>
        rw [strainFactorNow_prop (s := s) (t := u) prop rfl rfl rfl]
        exact if_pos prop
    · exact (advance_touches s dt).mono.trans ((conv_touches _ _).mono.trans (.of fun p => by
        cases p <;> first | exact .inl (by decide) | exact .inr rfl))
  · obtain ⟨trip, warn, list, periods, closed⟩ := enterFailed_leaves u
    rw [if_neg pass]
    exact ⟨rfl, closed, periods, fun h => absurd (passes.mpr h) pass, fun _ => ⟨rfl, trip, warn, list, rfl, rfl,
      (advance_touches s dt).mono.trans ((conv_touches _ _).mono.trans (enterFailed_touches _).mono)⟩⟩

end Sys2Proof.Machine
end

section
/-! SUPPORT. What an entry to LISTEN_ONLY or HALTED leaves, and the config watch: O8. -/

namespace Sys2Proof.Machine

-- As in Laws/Touches.lean: one theorem at a time.
set_option Elab.async false

/-! ## Entries that stay unacknowledged -/

/-- A code has an entry in ACTIVE_UNACK. -/
def ListsUnack (c : AlertCode) (l : List AlertEntry) : Prop := ∃ e ∈ l, e.code = c ∧ e.state = .activeUnack

theorem ListsUnack.active {c : AlertCode} {l : List AlertEntry} (h : ListsUnack c l) : ListsActive c l := by
  obtain ⟨e, mem, code, state⟩ := h
  exact ⟨e, mem, code, by rw [state]; rfl⟩

theorem raiseList_lists_unack {l : List AlertEntry} (h : WellListed l) (c : AlertCode) : ListsUnack c (raiseList c l) := by
  unfold raiseList
  split
  next present =>
    obtain ⟨e, mem, code⟩ := List.any_eq_true.mp present
    have code : e.code = c := eq_of_beq code
    exact ⟨_, List.mem_map.mpr ⟨e, mem, rfl⟩, by simp [code], by simp [code]⟩
  · obtain ⟨k, -, -, -, appended⟩ := appendEntry_eq h c
    rw [appended]
    exact ⟨_, List.mem_append_right _ List.mem_cons_self, rfl, rfl⟩

theorem raiseList_keeps_unack {l : List AlertEntry} (h : WellListed l) (c : AlertCode) {d : AlertCode}
    (trip : tripClass d = true) (k : ListsUnack d l) : ListsUnack d (raiseList c l) := by
  obtain ⟨e, mem, rfl, state⟩ := k
  unfold raiseList
  split
  · refine ⟨_, List.mem_map.mpr ⟨e, mem, rfl⟩, by split <;> rfl, ?_⟩
    split
    · rfl
    · exact state
  · obtain ⟨k, -, -, keep, appended⟩ := appendEntry_eq h c
    rw [appended]
    exact ⟨e, List.mem_append_left _ (keep e mem trip), rfl, state⟩

theorem clearList_keeps_unack (c : AlertCode) {l : List AlertEntry} {d : AlertCode} (ne : d ≠ c) (k : ListsUnack d l) :
    ListsUnack d (clearList c l) := by
  obtain ⟨e, mem, rfl, state⟩ := k
  exact ⟨e, List.mem_map.mpr ⟨e, List.mem_filter.mpr ⟨mem, by simp [ne]⟩, by simp [ne]⟩, rfl, state⟩

/-- A trip-class raise stands unacknowledged, whatever the queue lost. -/
theorem raise_lists_unack {s : State} {c : AlertCode} (h : AlertInv s) (trip : tripClass c = true) :
    ListsUnack c (s.raise c).comms.alerts.list := by
  have raised := raiseList_lists_unack h c
  rcases (raise_raises s c).2.2.2 with list | ⟨-, list⟩ <;> rw [list]
  · exact raised
  · exact raiseList_keeps_unack (raiseList_wellListed h c) _ trip raised

theorem trip_of_lists {s : State} {c : AlertCode} (trip : tripClass c = true) (h : ListsUnack c s.comms.alerts.list) :
    s.trip = true := by
  obtain ⟨e, mem, rfl, state⟩ := h
  exact (trip_iff s).mpr (.inr ⟨e, mem, trip, .inl state⟩)

/-! ## A clear where no frame may be queued (R162) -/

theorem setList_silent {m : Comms} {st : StationState} {now : Clock} {l : List AlertEntry} (silent : st.acting = false)
    (empty : m.link.queue = []) : (m.setList st now l).link = m.link ∧ m.setListLoses st now l = false ∧
      (m.alerts.repeatTimer = none → (m.setList st now l).alerts.repeatTimer = none) := by
  refine ⟨?_, by unfold Comms.setListLoses; rw [silent, Bool.and_false, Bool.false_and], ?_⟩
  · unfold Comms.setList
    split
    · rfl
    · rw [silent]
      have same : promoteAlert l m.link.queue = m.link.queue := by
        rw [empty]
        unfold promoteAlert
        split <;> rfl
      show { m.link with queue := promoteAlert l m.link.queue } = m.link
      rw [same]
  · intro stopped
    unfold Comms.setList
    split
    · exact stopped
    · show repeatAfter st now l m.alerts.repeatTimer = none
      unfold repeatAfter
      rw [silent]
      rfl

theorem clear_silent {s : State} (c : AlertCode) (silent : s.station.acting = false) (empty : s.comms.link.queue = []) :
    (s.clear c).comms.link = s.comms.link ∧
    (s.comms.alerts.repeatTimer = none → (s.clear c).comms.alerts.repeatTimer = none) ∧
    (s.clear c).comms.alerts.list = (if s.has c then clearList c s.comms.alerts.list else s.comms.alerts.list) := by
  unfold State.clear
  dsimp only
  split
  · obtain ⟨link, loses, timer⟩ := setList_silent (m := { s.comms with present := s.comms.present.set (alertIndex c) false })
      (now := s.clock) (l := clearList c s.comms.alerts.list) silent empty
    unfold Comms.clear Comms.relist
    rw [loses, afterLoss_false]
    exact ⟨link, timer, setList_list _ _ _ _⟩
  · exact ⟨rfl, id, rfl⟩

/-! ## The entry to LISTEN_ONLY or HALTED (R33, R168, R192) -/

/-- What an entry to LISTEN_ONLY or HALTED leaves. -/
structure Leaves (halted : Bool) (s t : State) : Prop where
  station : t.station = if halted then .halted else .listenOnly
  start : t.start = { s.start with joinTimer := none, watch := none }
  link : t.comms.link = s.comms.link.silence s.clock
  repeats : t.comms.alerts.repeatTimer = none
  has : ∀ c, c ≠ .stationLag → c ≠ .txLoss → t.has c = s.has c
  unack : ∀ c, c ≠ .stationLag → ListsUnack c s.comms.alerts.list → ListsUnack c t.comms.alerts.list
  con : t.helm.con = .standingBy ∧ t.helm.interval = none ∧ t.helm.requestTimer = none
  view : t.demand.view = s.demand.view
  timers : halted = true → t.demand.timeout = none ∧ t.demand.hold = none ∧ t.demand.tick = none
  sweep : t.peers = { s.peers with sweep := if halted then none else s.peers.sweep }
  thrust : t.thrust = s.thrustLeave
  gear : t.gear = s.gear.leave
  steer : t.steer = s.steer.leave
  coup : t.coup = s.coup.leave
  meter : t.meter = s.meter.leave halted
  outputs : ∀ i, (t.outputs.outs.get i).Closed

/-- What the helm's part of the entry leaves of the reports, where the queue is empty. -/
theorem leaveCon_leaves {s : State} (silent : s.station.acting = false) (empty : s.comms.link.queue = [])
    (stopped : s.comms.alerts.repeatTimer = none) : s.leaveCon.comms.link = s.comms.link ∧
    s.leaveCon.comms.alerts.repeatTimer = none ∧ (∀ c, c ≠ .stationLag → c ≠ .txLoss → s.leaveCon.has c = s.has c) ∧
    (∀ c, c ≠ .stationLag → ListsUnack c s.comms.alerts.list → ListsUnack c s.leaveCon.comms.alerts.list) ∧
    s.leaveCon.demand.view = s.demand.view ∧ s.leaveCon.demand.tick = s.demand.tick ∧
    (s.station.timing = false → s.demand.timeout = none → s.demand.hold = none →
      s.leaveCon.demand.timeout = none ∧ s.leaveCon.demand.hold = none) := by
  by_cases holds : s.helm.con = .holding
  · have left : s.leaveCon = { s.leaveHolding with helm := { s.leaveHolding.helm.endRequest with interval := none } } := by
      unfold State.leaveCon
      rw [if_pos holds]
    let u : State := { s with
      helm := s.helm.released
      demand := s.freshRecord s.demand.record.demand s.demand.record.number true
      view := s.view.unrequest }
    obtain ⟨link, timer, list⟩ := clear_silent (s := u) .stationLag silent empty
    have demand : s.leaveCon.demand = u.demand := by
      rw [left]
      exact (clear_touches u .stationLag).demand (by decide)
    have lists (c : AlertCode) (n : c ≠ .stationLag) (h : ListsUnack c s.comms.alerts.list) :
        ListsUnack c (u.clear .stationLag).comms.alerts.list := by
      rw [list]
      split
      · exact clearList_keeps_unack _ n h
      · exact h
    refine ⟨by rw [left]; exact link, by rw [left]; exact timer stopped, fun c n nt => by rw [left]; exact clear_has_ne u n nt,
      fun c n h => by rw [left]; exact lists c n h, by rw [demand]; rfl, by rw [demand]; rfl, fun untimed _ _ => ?_⟩
    rw [demand]
    exact ⟨if_neg (by rw [untimed]; nofun), rfl⟩
  · have left : s.leaveCon = { s with helm := { s.helm.endRequest with interval := none } } := by
      unfold State.leaveCon
      rw [if_neg holds]
    rw [left]
    exact ⟨rfl, stopped, fun _ _ _ => rfl, fun _ _ h => h, rfl, rfl, fun _ timeout hold => ⟨timeout, hold⟩⟩

theorem leaveService_leaves (s : State) (halted : Bool) : Leaves halted s (s.leaveService halted) := by
  let u := s.unitsLeft halted
  have silent : u.station.acting = false := by cases halted <;> rfl
  obtain ⟨link, repeats, has, unack, view, tick, timers⟩ := leaveCon_leaves (s := u) silent rfl rfl
  have touches : OnlyTouches conParts u u.leaveCon := leaveCon_touches u
  have viewed : u.demand.view = s.demand.view := by
    show (s.demandLeave halted).view = _
    unfold State.demandLeave
    split
    · rfl
    · split <;> rfl
  rw [leaveService_eq]
  refine ⟨(touches.station (by decide)).trans (by cases halted <;> rfl), touches.start (by decide), link, repeats, has, unack,
    ⟨rfl, rfl, rfl⟩, view.trans viewed, ?_, touches.peers (by decide), touches.thrust (by decide), touches.gear (by decide),
    touches.steer (by decide), touches.coup (by decide), touches.meter (by decide), applySafe_closed _⟩
  rintro rfl
  obtain ⟨timeout, hold⟩ := timers rfl rfl rfl
  exact ⟨timeout, hold, tick⟩

/-! ## What is being sent is cut (R149) -/

theorem cutResidue_sending {l : LinkUnit} {hand : InHand} (now : Clock) (h : l.tx = .sending hand) :
    l.cutResidue now = residueAt hand.frame (bitTimeOf now hand.since) := by unfold LinkUnit.cutResidue; rw [h]

theorem cutResidue_other {l : LinkUnit} (now : Clock) (h : isSending l.tx = false) : l.cutResidue now = l.txResidue := by
  unfold LinkUnit.cutResidue
  cases tx : l.tx with
  | sending hand => rw [tx] at h; exact nomatch h
  | _ => rfl

/-- A report leaves what is being sent. -/
theorem ReportOnly.cut {s t : State} (h : ReportOnly s t) :
    (∀ hand, s.comms.link.tx = .sending hand → t.comms.link.tx = .sending hand) ∧
    (isSending s.comms.link.tx = false → isSending t.comms.link.tx = false) ∧
    t.comms.link.txResidue = s.comms.link.txResidue := by
  obtain ⟨-, link, tx, -⟩ := h
  refine ⟨fun hand sends => ?_, fun quiet => ?_, by rw [link]⟩
  · rcases tx with same | woken
    · exact same.trans sends
    · exact nomatch woken.1.symm.trans sends
  · rcases tx with same | woken
    · rw [same]; exact quiet
    · rw [woken.2]; rfl

/-! ## The config watch (R193) -/

theorem alertFrame_unack {c : AlertCode} (now : Clock) {l : List AlertEntry} (trip : tripClass c = true)
    (h : ListsUnack c l) : alertFrame now l = { kind := .alert, cls := 2, entered := now, content := none } := by
  obtain ⟨e, mem, rfl, state⟩ := h
  have unack : tripUnack l = true := List.any_eq_true.mpr ⟨e, mem, by rw [trip, state]; rfl⟩
  unfold alertFrame alertClass
  rw [if_pos unack]

/-- The station with its image as the world has left it, a run of the watch begun. -/
def State.watched (s : State) (damage : List (Nat × Word)) : State :=
  { s with start := { s.start with image := damageImage s.start.image damage, watch := nextInterval s.start.watch } }

theorem exec_watch {s : State} {dt : Micros} (damage : List (Nat × Word)) (act : s.station.acting = true)
    (timer : due s.start.watch (s.later dt) = true) : exec (.configWatch dt damage) s =
      .next (if imageChecks (damageImage s.start.image damage) then (s.advance dt).watched damage
        else ((s.advance dt).watched damage).configCorrupt) := by
  have test : (s.station.acting && due s.start.watch (s.later dt)) = true := Bool.and_eq_true_iff.mpr ⟨act, timer⟩
  refine exec_eq (f := fun t : State =>
    let u : State := { t with start := { t.start with watch := nextInterval t.start.watch } }
    u.whenever (!imageChecks u.start.image) State.configCorrupt) rfl test ?_
  show State.whenever _ (!imageChecks (damageImage s.start.image damage)) State.configCorrupt = _
  cases imageChecks (damageImage s.start.image damage) <;> rfl

/-- Settles O8: the run that finds the image whole, and the run that finds it corrupt. -/
theorem configWatchHaltsOnCorruption : Obligations.ConfigWatchHaltsOnCorruption := by
  intro s dt damage act timer listed image
  let u := (s.advance dt).watched damage
  let m := u.raise .configCorrupt
  let l := m.leaveService true
  have checks : imageChecks image = true ↔ crcBits crcSeed (wordsBits (image.take 63)) = imageWord image 63 := beq_iff_eq
  refine ⟨_, exec_watch damage act timer, fun agrees => by rw [if_pos (checks.mpr agrees)]; rfl, fun differs => ?_⟩
  rw [if_neg fun e => differs (checks.mp e)]
  have raised := raise_raises u .configCorrupt
  have report : OnlyTouches commsParts u m := raise_touches u _
  have left : Leaves true m l := leaveService_leaves m true
  have unack : ListsUnack .configCorrupt l.comms.alerts.list :=
    left.unack .configCorrupt nofun (raise_lists_unack (s := u) listed rfl)
  have clock : l.clock = s.later dt :=
    ((leaveService_touches m true).clock (by decide)).trans (report.clock (by decide))
  have frame : alertFrame l.clock l.comms.alerts.list = { kind := .alert, cls := 2, entered := s.later dt, content := none } :=
    (alertFrame_unack l.clock rfl unack).trans (by rw [clock])
  have put : u.configCorrupt.comms.link = l.comms.link.put l.clock (alertFrame l.clock l.comms.alerts.list) := rfl
  rw [left.link, frame] at put
  obtain ⟨sends, quiet, residue⟩ := raised.1.cut
  have now : m.clock = s.later dt := report.clock (by decide)
  obtain ⟨con, interval, requestTimer⟩ := left.con
  obtain ⟨timeout, hold, tick⟩ := left.timers rfl
  refine ⟨clock, left.station, (left.has .configCorrupt nofun nofun).trans (raise_has_self u _), trip_of_lists rfl unack, ?_,
    by rw [put]; rfl, by rw [put]; rfl, left.repeats, fun hand sending => ?_, fun idle => ?_, timeout, hold, tick, ?_,
    con, interval, requestTimer, ?_⟩
  · show l.start = _
    rw [left.start, report.start (by decide)]
    rfl
  · rw [put]
    show m.comms.link.cutResidue m.clock = _
    rw [cutResidue_sending _ (sends hand sending), now]
    rfl
  · rw [put]
    show m.comms.link.cutResidue m.clock = _
    rw [cutResidue_other _ (quiet idle), residue]
    rfl
  · show l.peers.sweep = _
    rw [left.sweep]
    rfl
  · have thrust : u.configCorrupt.thrust = _ := left.thrust
    have gear : u.configCorrupt.gear = _ := left.gear
    have steer : u.configCorrupt.steer = _ := left.steer
    have coup : u.configCorrupt.coup = _ := left.coup
    have meter : u.configCorrupt.meter = _ := left.meter
    rw [thrust, gear, steer, coup, meter]
    refine ⟨rfl, rfl, rfl, rfl, rfl, rfl, rfl, rfl, left.outputs, ?_⟩
    exact (advance_touches s dt).mono.trans ((start_touches _ _).mono.trans (configCorrupt_touches u).mono)

end Sys2Proof.Machine
end

section
/-! SUPPORT. Which conditions an operation can change, TX_LOSS apart: the codes that it raises or clears. -/

namespace Sys2Proof.Machine

-- As in Laws/Touches.lean: one theorem at a time.
set_option Elab.async false

/-- Only conditions of the codes listed, and TX_LOSS, can have changed. -/
def Tells (cs : List AlertCode) (s t : State) : Prop := ∀ c, c ∉ cs → c ≠ .txLoss → t.has c = s.has c

variable {cs ds : List AlertCode}

theorem Tells.refl (s : State) : Tells cs s s := fun _ _ _ => rfl

theorem Tells.trans {s t u : State} (h : Tells cs s t) (k : Tells cs t u) : Tells cs s u :=
  fun c n nt => (k c n nt).trans (h c n nt)

theorem Tells.mono {s t : State} (h : Tells cs s t) (sub : ∀ c ∈ cs, c ∈ ds := by decide) : Tells ds s t :=
  fun c n nt => h c (fun m => n (sub c m)) nt

theorem Tells.ite {s t u : State} {c : Prop} [Decidable c] (h : Tells cs s t) (k : Tells cs s u) :
    Tells cs s (if c then t else u) := by
  split <;> assumption

theorem Tells.under {f : State → State} (s : State) (p : Bool) (h : p = true → Tells cs s (f s)) :
    Tells cs s (s.whenever p f) := by
  unfold State.whenever
  split
  next on => exact h on
  · exact .refl s

theorem Tells.whenever {f : State → State} (s : State) (p : Bool) (h : Tells cs s (f s)) :
    Tells cs s (s.whenever p f) := .under s p fun _ => h

/-- A change that leaves the conditions. -/
theorem Tells.still {s t : State} (h : t.comms.present = s.comms.present := by rfl) : Tells cs s t := fun c _ _ => by
  unfold State.has Comms.has
  rw [h]

theorem OnlyTouches.tells {ps : List Part} {s t : State} (h : OnlyTouches ps s t) (n : Part.present ∉ ps := by decide) :
    Tells cs s t := fun c _ _ => h.has n c

/-! ## Reports (R132, R134, R165) -/

theorem raise_tells (s : State) (c : AlertCode) : Tells [c] s (s.raise c) :=
  fun _ n nt => raise_has_ne s (fun e => n (e ▸ List.mem_singleton_self c)) nt

theorem raiseNew_tells (s : State) (c : AlertCode) : Tells [c] s (s.raiseNew c) :=
  fun _ n nt => raiseNew_has_ne s (fun e => n (e ▸ List.mem_singleton_self c)) nt

theorem clear_tells (s : State) (c : AlertCode) : Tells [c] s (s.clear c) :=
  fun _ n nt => clear_has_ne s (fun e => n (e ▸ List.mem_singleton_self c)) nt

theorem follow_tells (s : State) (c : AlertCode) (b : Bool) : Tells [c] s (s.follow c b) :=
  fun _ n nt => follow_has_ne s b (fun e => n (e ▸ List.mem_singleton_self c)) nt

theorem followChange_tells (s : State) (c : AlertCode) (was b : Bool) : Tells [c] s (s.followChange c was b) :=
  .ite (.refl s) (follow_tells s c b)

theorem without_tells (s : State) (c : AlertCode) : Tells [c] s (s.without c) :=
  fun _ n _ => has_set_ne s.comms false fun e => n (e ▸ List.mem_singleton_self c)

theorem relist_tells (s : State) (l : List AlertEntry) : Tells cs s (s.relist l) :=
  fun _ _ nt => (relist_relisted s l).2.1 _ (.inl nt)

theorem offered_tells (s : State) (w : Waiting) :
    Tells cs s { s with comms := s.comms.offer s.station s.clock w } := fun _ _ nt => offered_has s w nt

theorem offer_tells (s : State) (k : FrameKind) (c : Fin 4) : Tells cs s (s.offer k c) := offered_tells s _

theorem offerWith_tells (s : State) (c : Fin 4) (p : Payload) : Tells cs s (s.offerWith c p) := offered_tells s _

theorem offerAlert_tells (s : State) : Tells cs s s.offerAlert := offer_tells s _ _

theorem offerStrain_tells (s : State) : Tells cs s s.offerStrain := offer_tells s _ _

/-! ## The peer table and the units that follow it (R5, R15, R34, R53) -/

theorem judgeConflict_tells (s : State) (was : Bool) : Tells [.addressConflict] s (s.judgeConflict was) := by
  unfold State.judgeConflict
  split
  · exact followChange_tells s _ _ _
  · exact .refl s

theorem judgeSilent_tells (s : State) (was : Bool) : Tells [.peerSilent] s (s.judgeSilent was) := by
  unfold State.judgeSilent
  split
  · exact followChange_tells s _ _ _
  · exact .refl s

theorem judgeLagEnd_tells (s : State) : Tells [.stationLag] s s.judgeLagEnd := .whenever s _ (clear_tells s _)

theorem pruneLag_tells (s : State) : Tells [.stationLag] s s.pruneLag :=
  .whenever s _ (.trans .still (judgeLagEnd_tells _))

theorem lagOne_tells (s : State) (a : Addr) : Tells [.stationLag] s (s.lagOne a) :=
  .whenever s _ (.trans .still (judgeLagEnd_tells _))

theorem lagAll_tells (s : State) : Tells [.stationLag] s s.lagAll := .trans .still (judgeLagEnd_tells _)

theorem noteReception_tells (s : State) (b : Bool) : Tells [.rxError] s (s.noteReception b) :=
  .ite .still (.whenever s _ (follow_tells s _ _))

/-! ## Standing by (R194 to R196) -/

theorem judgeEngine_tells (s : State) : Tells [.engineNotReady] s s.judgeEngine := by
  unfold State.judgeEngine
  split
  · exact raiseNew_tells s _
  · exact .refl s

theorem propReturn_tells (s : State) : Tells [.engineNotReady] s s.propReturn :=
  Tells.trans (t := State.startPropSeries (State.restartRepeat { s with station := .active, demand := s.resumeDemand })) .still
    ((offer_tells _ _ _).trans (judgeEngine_tells _))

theorem Reports.tells {s t : State} (h : Reports s t) : Tells cs s t := fun c _ nt => h.has c nt

theorem judgeCoupStandby_tells (s : State) : Tells cs s s.judgeCoupStandby :=
  .whenever s _ (coupStandby_reports s).tells

theorem clearRequest_tells (s : State) : Tells [.engineNotReady] s s.clearRequest := by
  let t : State := { s with start := { s.start with request := false } }
  have begun : Tells [.engineNotReady] s t := .still
  show Tells _ s (if _ then (if _ then t.propReturn else if _ then t.coupReturn else t) else t)
  exact .ite (.ite (begun.trans (propReturn_tells t)) (.ite (begun.trans (coupReturn_reports t).tells) begun)) begun

theorem setRequest_tells (s : State) : Tells cs s s.setRequest :=
  .ite (.refl s) (.trans .still (judgeCoupStandby_tells _))

/-! ## The con and the demand (R20, R26 to R35) -/

theorem judgeTankLow_tells (s : State) : Tells [.tankLow] s s.judgeTankLow := .whenever s _ (follow_tells s _ _)

theorem setHolderLow_tells (s : State) (h : Option (Tab 4 Bool)) : Tells [.tankLow] s (s.setHolderLow h) :=
  .trans .still (judgeTankLow_tells _)

theorem foundDemand_tells (s : State) : Tells [.demandLost] s s.foundDemand := .whenever s _ (clear_tells s _)

theorem acceptDemand_tells (s : State) (p : DemandFields) : Tells [.demandLost, .engineNotReady] s (s.acceptDemand p) :=
  Tells.trans (t := State.foundDemand _) (.trans .still (foundDemand_tells _).mono)
    (.whenever _ _ (clearRequest_tells _).mono)

theorem queueStandby_tells (s : State) : Tells cs s s.queueStandby := .trans .still (offerWith_tells _ _ _)

theorem switchOn_tells (s : State) : Tells cs s s.switchOn := .ite (queueStandby_tells s) .still

theorem leaveHolding_tells (s : State) : Tells [.stationLag] s s.leaveHolding :=
  Tells.trans (t := { s with helm := s.helm.released, demand := s.freshRecord _ _ _, view := s.view.unrequest }) .still
    (clear_tells _ _)

theorem conAfterView_tells (s : State) (h : Addr) : Tells [.stationLag, .conLost] s (s.conAfterView h) := by
  unfold State.conAfterView
  split
  · exact .ite (.refl s) ((leaveHolding_tells s).mono.trans (.whenever _ _ (raiseNew_tells _ _).mono))
  · exact .ite (.refl s) .still
  · exact .refl s

theorem offerView_tells (s : State) (h : Addr) (e : Byte) : Tells [.tankLow, .stationLag, .conLost] s (s.offerView h e) :=
  .ite (.trans .still (.whenever _ _ ((setHolderLow_tells _ _).mono.trans (conAfterView_tells _ _).mono))) (.refl s)

/-- The codes of an entry to HOLDING. -/
abbrev holdingCodes : List AlertCode := [.demandLost, .conLost, .tankLow, .stationLag]

theorem enterHolding_tells (s : State) : Tells holdingCodes s s.enterHolding :=
  Tells.trans (.still (t := { s.takeLive (s.demand.record.number + 1) with helm := _ }))
    ((foundDemand_tells _).mono.trans ((clear_tells _ _).mono.trans ((setHolderLow_tells _ _).mono.trans
      ((offer_tells _ _ _).trans ((lagAll_tells _).mono.trans (.whenever _ _ (switchOn_tells _)))))))

theorem takeCon_tells (s : State) : Tells holdingCodes s s.takeCon :=
  (offerWith_tells s _ _).trans ((offerView_tells _ _ _).mono.trans (enterHolding_tells _))

theorem routeRequest_tells (s : State) (a : Addr) (p : ConFields) : Tells holdingCodes s (s.routeRequest a p) :=
  .whenever s _ (.ite ((offerWith_tells s _ _).trans ((leaveHolding_tells _).mono.trans (offerView_tells _ _ _).mono))
    (offerWith_tells s _ _))

theorem routeGrant_tells (s : State) (p : ConFields) : Tells holdingCodes s (s.routeGrant p) :=
  (offerView_tells s _ _).mono.trans (.whenever _ _ (enterHolding_tells _))

theorem routeDemand_tells (s : State) (a : Addr) (p : DemandFields) :
    Tells [.tankLow, .stationLag, .conLost, .demandLost, .engineNotReady] s (s.routeDemand a p) :=
  (offerView_tells s _ _).mono.trans (.whenever _ _ (acceptDemand_tells _ _).mono)

/-! ## The account and the alert view (R125, R130, R143) -/

theorem discontinuity_tells (s : State) : Tells [.fuelDiscontinuity] s s.discontinuity :=
  Tells.trans (t := { s with account := { s.account with lastDisc := some s.clock } }) .still
    (.whenever _ _ (raiseNew_tells _ _))

theorem takeFuel_tells (s : State) (a : Addr) (p : FuelFields) : Tells [.fuelDiscontinuity, .tankLow] s (s.takeFuel a p) :=
  .whenever s _ ((Tells.ite (.trans .still (discontinuity_tells _).mono) .still).trans (judgeTankLow_tells _).mono)

theorem takeAccount_tells (s : State) (a : Addr) (p : AccountFields) : Tells [.tankLow] s (s.takeAccount a p) :=
  .whenever s _ (setHolderLow_tells s _)

theorem judgeViewRoom_tells (s : State) : Tells [.viewFull] s s.judgeViewRoom := .whenever s _ (clear_tells s _)

theorem takeAlert_tells (s : State) (a : Addr) (p : AlertFields) : Tells [.viewFull] s (s.takeAlert a p) :=
  .whenever s _ (.trans .still ((Tells.whenever _ _ (raiseNew_tells _ _)).trans ((judgeViewRoom_tells _).trans
    (.whenever _ _ (offer_tells _ _ _)))))

theorem forgetItems_tells (s : State) (l : List Nat) : Tells [.viewFull] s (s.forgetItems l) :=
  .whenever s _ (.trans .still (judgeViewRoom_tells _))

/-! ## Owners' answers and acknowledgements (R70, R88, R102, R135) -/

/-- The codes that an acknowledgement can end or its owner raise. -/
abbrev ackCodes : List AlertCode :=
  [.gearInterlock, .gearTimeout, .overspeed, .rudderInterlock, .parted, .strainHigh, .overload, .winchRun, .configClamped]

theorem gearAnswer_tells (s : State) : Tells [.gearInterlock, .gearTimeout] s s.gearAnswer := by
  unfold State.gearAnswer
  split
  · split
    · exact (enterGear_touches s _).tells
    · exact (raise_tells s _).mono
    · exact (raise_tells s _).mono
    · exact (raise_tells s _).mono
  · exact .refl s

theorem overspeedAnswer_tells (s : State) : Tells [.overspeed] s s.overspeedAnswer :=
  .ite ((raise_tells s _).trans (refreshAvailability_touches _).tells) (refreshAvailability_touches s).tells

theorem interlockAnswer_tells (s : State) : Tells [.rudderInterlock] s s.interlockAnswer :=
  .ite (raise_tells s _) .still

theorem classMarked_tells (s : State) (c : StrainClass) : Tells [.strainHigh, .overload] s (s.classMarked c) := by
  have coded (x : StrainClass) (u : State) : Tells [.strainHigh, .overload] u (u.clearClass x) := by
    unfold State.clearClass
    cases x <;> first | exact .refl u | exact (clear_tells u _).mono
  have raised (x : StrainClass) (u : State) : Tells [.strainHigh, .overload] u (u.raiseClass x) := by
    unfold State.raiseClass
    cases x <;> first | exact .refl u | exact (raiseNew_tells u _).mono
  exact (coded _ s).trans (.trans .still ((raised c _).trans (.ite .still (.refl _))))

theorem changeClass_tells (s : State) (c : StrainClass) : Tells [.strainHigh, .overload] s (s.changeClass c) := by
  by_cases same : c = s.coup.cls
  · have still : s.changeClass c = s := if_pos same
    rw [still]
    exact .refl s
  · rw [changeClass_eq same]
    exact (classMarked_tells s c).trans (reportClass_reports _).tells

theorem partedAnswer_tells (s : State) : Tells [.parted, .strainHigh, .overload] s s.partedAnswer :=
  .ite ((raise_tells s .parted).mono.trans (.trans .still (offerStrain_tells _))) (.trans .still (changeClass_tells _ _).mono)

theorem answer_tells (s : State) (c : AlertCode) : Tells ackCodes s (s.answer c) := by
  unfold State.answer
  split
  · exact (gearAnswer_tells s).mono
  · exact (gearAnswer_tells s).mono
  · exact (overspeedAnswer_tells s).mono
  · exact (interlockAnswer_tells s).mono
  · exact (partedAnswer_tells s).mono
  · exact (unlockWinch_touches s).tells
  · exact .refl s

theorem endsByAck_mem {c : AlertCode} (h : endsByAck c = true) : c ∈ ackCodes := by
  revert h
  cases c <;> decide

theorem endCondition_tells (s : State) {c : AlertCode} (h : endsByAck c = true) : Tells ackCodes s (s.endCondition c) :=
  Tells.trans ((without_tells s c).mono fun d m => by rw [List.mem_singleton.mp m]; exact endsByAck_mem h) (answer_tells _ c)

theorem ackEntry_tells (s : State) (e : AlertEntry) : Tells ackCodes s (s.ackEntry e) := by
  unfold State.ackEntry
  split
  · split
    next ends =>
      simp only [Bool.and_eq_true] at ends
      have ended := endCondition_tells s ends.1.1
      exact .ite ended (ended.trans (relist_tells _ _))
    · exact relist_tells s _
  · exact .refl s
  · exact relist_tells s _

theorem ackItem_tells (s : State) (c : AlertCode) (o : Byte) : Tells ackCodes s (s.ackItem c o) := by
  unfold State.ackItem
  split
  · exact .refl s
  · exact .ite (ackEntry_tells s _) (offerAlert_tells s)

theorem ackAll_tells (l : List AckItem) : ∀ s : State, Tells ackCodes s (s.ackAll l) := by
  induction l with
  | nil => exact fun s => .refl s
  | cons i is ih => exact fun s => (Tells.ite (ackItem_tells s _ _) (.refl s)).trans (ih _)

/-- A routed frame of any kind but ROSTER leaves the conditions of the table. -/
theorem route_tells (s : State) (f : Frame) (other : payloadKind f.payload ≠ .roster) :
    Tells (ackCodes ++ [.tankLow, .stationLag, .conLost, .demandLost, .engineNotReady, .fuelDiscontinuity, .viewFull])
      s (s.route f) := by
  unfold State.route
  split
  · exact (routeDemand_tells s _ _).mono
  · exact (routeRequest_tells s _ _).mono
  · exact (routeGrant_tells s _).mono
  · exact (routeDecline_touches s _ _).tells
  · exact (offerView_tells s _ _).mono
  · exact (lagOne_tells s _).mono
  · exact .refl s
  · exact (takeFuel_tells s _ _).mono
  · exact (takeAccount_tells s _ _).mono
  · exact (takeAlert_tells s _ _).mono
  · exact .whenever s _ (ackAll_tells _ s).mono
  next roster => exact absurd (by rw [roster]; rfl) other
  · exact .whenever s _ (setRequest_tells s)
  · exact .whenever s _ (clearRequest_tells s).mono

end Sys2Proof.Machine
end

section
/-! SUPPORT. A good frame up to the units that take it, and what follows from a change of the peer table (R3 to R16,
R34, R53, R54, R107). -/

namespace Sys2Proof.Machine

-- As in Laws/Touches.lean: one theorem at a time.
set_option Elab.async false

/-! ## The end of a reception (R147 to R149, R167) -/

/-- The station as the end of a good frame leaves it. -/
def State.heard (s : State) (dt : Micros) : State := ((s.advance dt).endReception 0).noteReception false

theorem heard_heard (s : State) (dt : Micros) : Heard dt s (s.heard dt) := by
  show Heard dt s (if s.station = .joining then _ else State.whenever _ s.station.reporting _)
  unfold Heard
  dsimp only
  split
  · rfl
  · unfold State.whenever
    split
    · exact clear_ended _ _
    · rfl

theorem heard_touches (s : State) (dt : Micros) : OnlyTouches [.clock, .present, .alerts, .link] s (s.heard dt) :=
  (advance_touches s dt).mono.trans ((endReception_touches _ _).mono.trans (noteReception_touches _ _).mono)

theorem heard_tells (s : State) (dt : Micros) : Tells [.rxError] s (s.heard dt) :=
  Tells.trans (t := (s.advance dt).endReception 0) .still (noteReception_tells _ _)

theorem heard_clock (s : State) (dt : Micros) : (s.heard dt).clock = s.later dt :=
  (noteReception_touches ((s.advance dt).endReception 0) false).clock (by decide)

/-! ## A frame's command -/

theorem exec_frame {c : Instr} {dt : Micros} {f : Frame} (s : State) (h : frameOf c = some (dt, f)) :
    exec c s = .next ((s.advance dt).takeFrame f) := by
  cases c <;> cases h <;> rfl

theorem exec_taken {c : Instr} {dt : Micros} {f : Frame} {s : State} (h : frameOf c = some (dt, f))
    (ok : payloadOk f.payload = true) (receives : s.receives = true) (taking : s.station.taking = true) :
    exec c s = .next ((s.heard dt).tableTakes f) := by
  have station : (s.heard dt).station = s.station := (heard_touches s dt).station (by decide)
  have good : (s.advance dt).takeGood f = (s.heard dt).tableTakes f := if_pos (station ▸ taking)
  have taken : (s.advance dt).takeFrame f = if payloadOk f.payload then (s.advance dt).takeGood f else (s.advance dt).takeError 0 :=
    whenever_pos (s := s.advance dt)
      (f := fun s => if payloadOk f.payload then s.takeGood f else s.takeError 0) receives
  rw [exec_frame s h, taken, if_pos ok, good]

/-- The table after a frame that it applies, with the roster of a START, before what follows. -/
def State.written (s : State) (f : Frame) : State := (s.updateEntry f).noteStart f

/-- An applied frame up to its routing. -/
def State.tabled (s : State) (f : Frame) : State := (s.written f).tableChanged s.anySilentWorker

theorem exec_admitted {c : Instr} {dt : Micros} {f : Frame} {s : State} (h : frameOf c = some (dt, f))
    (ok : payloadOk f.payload = true) (admits : s.Admits f.source f.role) :
    exec c s = .next ((((s.heard dt).tabled f).route f).judgeWinch) := by
  obtain ⟨receives, taking, other, agrees⟩ := admits
  have touches := heard_touches s dt
  rw [exec_taken h ok receives taking]
  unfold State.tableTakes
  rw [touches.address (by decide), if_neg other, if_neg]
  · rfl
  · unfold State.conflicts
    rw [touches.peers (by decide)]
    split
    · exact nofun
    next e stored => rw [agrees e stored, bne_self_eq_false]; exact nofun

theorem written_touches (s : State) (f : Frame) : OnlyTouches [.peers, .account, .view] s (s.written f) :=
  (updateEntry_touches s f).mono.trans (noteStart_touches _ f).mono

theorem written_peers (s : State) (f : Frame) : (s.written f).peers = { s.peers with
    entries := s.peers.entries.set f.source (entryAfter s.clock f (s.peers.entries.get f.source)) } :=
  (noteStart_touches (s.updateEntry f) f).peers (by decide)

theorem written_quiet {s : State} {f : Frame} (still : f.start = false) : s.written f = s.updateEntry f := by
  unfold State.written State.noteStart
  exact whenever_neg still

/-! ## PEER_SILENT and ADDRESS_CONFLICT after a change of the table (R15, R16) -/

theorem isProp_eq {s t : State} (h : t.role = s.role) : t.isProp = s.isProp := by unfold State.isProp; rw [h]

theorem isHelm_eq {s t : State} (h : t.role = s.role) : t.isHelm = s.isHelm := by unfold State.isHelm; rw [h]

theorem anySilentWorker_eq {s t : State} (h : t.peers = s.peers) : t.anySilentWorker = s.anySilentWorker := by
  unfold State.anySilentWorker; rw [h]

theorem anyConflict_eq {s t : State} (h : t.peers = s.peers) : t.anyConflict = s.anyConflict := by
  unfold State.anyConflict; rw [h]

theorem silenceJudged_of {s v t : State} (station : v.station = s.station) (role : v.role = s.role)
    (before : v.has .peerSilent = s.has .peerSilent) (peers : t.peers = v.peers)
    (after : t.has .peerSilent = (v.judgeSilent s.anySilentWorker).has .peerSilent) : SilenceJudged s t := by
  unfold SilenceJudged
  rw [after, judgeSilent_has, station, isHelm_eq role, isProp_eq role, before, anySilentWorker_eq peers]

theorem conflictJudged_of {s v t : State} (station : v.station = s.station)
    (before : v.has .addressConflict = s.has .addressConflict) (peers : t.peers = v.peers)
    (after : t.has .addressConflict = (v.judgeConflict s.anyConflict).has .addressConflict) : ConflictJudged s t := by
  unfold ConflictJudged
  rw [after, judgeConflict_has, station, before, anyConflict_eq peers]

/-- What a change of the table brings apart from PEER_SILENT. -/
theorem tableChanged_tells (s : State) (was : Bool) : Tells [.stationLag] (s.judgeSilent was) (s.tableChanged was) :=
  (pruneLag_tells _).trans (.trans (refreshStrain_touches _).tells (judgeWinch_touches _).tells)

/-! ## The strain cut (R53, R54) -/

/-- A target reads of a PROPULSION station's own record the availability and the rated thrust alone. -/
theorem targetWith_congr {s t : State} (f : Nat) (prop : s.isProp = true) (role : t.role = s.role) (address : t.address = s.address)
    (station : t.station = s.station) (start : t.start = s.start) (entries : t.peers.entries = s.peers.entries)
    (demand : t.demand = s.demand) (ahead : t.thrust.ahead = s.thrust.ahead) (astern : t.thrust.astern = s.thrust.astern)
    (trim : t.thrust.trim = s.thrust.trim) : t.targetWith f = s.targetWith f := by
  have param : ∀ p, t.param p = s.param p := fun p => by unfold State.param; rw [start]
  have unread : entryRated t.ownEntry = entryRated s.ownEntry ∧
      (livePropRecord t.ownEntry).map PropRecord.ahead = (livePropRecord s.ownEntry).map PropRecord.ahead ∧
      (livePropRecord t.ownEntry).map PropRecord.astern = (livePropRecord s.ownEntry).map PropRecord.astern := by
    unfold State.ownEntry
    rw [role, station, (isProp_iff s).mp prop]
    cases s.station.joined with
    | false => exact ⟨rfl, rfl, rfl⟩
    | true => exact ⟨param _, congrArg some ahead, congrArg some astern⟩
  have read : ∀ (g : PropRecord → Nat) (u : State),
      u.liveProps.map g = (u.table.cells.map (fun e => (livePropRecord e).map g)).filterMap id := fun g u => by
    unfold State.liveProps
    rw [List.map_filterMap, List.filterMap_map]; rfl
  have rating : t.rating = s.rating := by
    unfold State.rating State.table
    simp only [Tab.set, List.map_set]
    rw [unread.1, entries, address]
  have aheads : t.sumAhead = s.sumAhead := by
    unfold State.sumAhead
    rw [read, read]
    unfold State.table
    simp only [Tab.set, List.map_set]
    rw [unread.2.1, entries, address]
  have asterns : t.sumAstern = s.sumAstern := by
    unfold State.sumAstern
    rw [read, read]
    unfold State.table
    simp only [Tab.set, List.map_set]
    rw [unread.2.2, entries, address]
  unfold State.targetWith State.demandD State.side
  simp only [rating, aheads, asterns, demand, ahead, astern, trim, param]

theorem withinTarget_eq (x target : Int) :
    withinTarget x target = if 0 ≤ x then max 0 (min x target) else min 0 (max x target) := by
  unfold withinTarget
  split
  · split <;> split <;> omega
  · split
    · split <;> split <;> omega
    · split <;> omega

theorem setX_duty (s : State) (x : Int) : (s.setX x).thrust.duty =
    if x = s.thrust.x then s.thrust.duty else dutyOf s.gear.state x (s.param Param.ratedThrust) :=
  if_congr (and_iff_left rfl) rfl rfl

/-- F found again, with the cut that its fall makes in ACTIVE. -/
theorem refreshStrain_cut {s : State} (prop : s.isProp = true) (taking : s.station.taking = true)
    (cut : s.station = .active ∧ s.strainFactorNow < s.thrust.strain) :
    s.refreshStrain = State.setX { s with thrust := { s.thrust with
        strain := s.strainFactorNow, lastTarget := s.targetWith s.strainFactorNow } }
      (withinTarget s.thrust.x (s.targetWith s.strainFactorNow)) := by
  unfold State.refreshStrain
  rw [if_pos (Bool.and_eq_true_iff.mpr ⟨prop, taking⟩)]
  exact if_pos (Bool.and_eq_true_iff.mpr ⟨beq_iff_eq.mpr cut.1, decide_eq_true cut.2⟩)

theorem refreshStrain_uncut {s : State} (prop : s.isProp = true) (taking : s.station.taking = true)
    (cut : ¬ (s.station = .active ∧ s.strainFactorNow < s.thrust.strain)) :
    s.refreshStrain = { s with thrust := { s.thrust with strain := s.strainFactorNow } } := by
  unfold State.refreshStrain
  rw [if_pos (Bool.and_eq_true_iff.mpr ⟨prop, taking⟩)]
  exact if_neg fun h => cut ⟨beq_iff_eq.mp (Bool.and_eq_true_iff.mp h).1, of_decide_eq_true (Bool.and_eq_true_iff.mp h).2⟩

/-- The parts of a station that the strain cut reads or writes, and that a change of the table leaves. -/
structure Drives (s v : State) : Prop where
  station : v.station = s.station
  role : v.role = s.role
  start : v.start = s.start
  thrust : v.thrust = s.thrust
  gear : v.gear = s.gear
  gov : v.gov = s.gov
  outputs : v.outputs = s.outputs

theorem strainCut_of {s v t : State} (h : Drives s v) (refreshed : s.isProp = true → t = v.refreshStrain) : StrainCut s t := by
  unfold StrainCut
  intro cut prop taking
  have prop' : v.isProp = true := (isProp_eq h.role).trans prop
  have taking' : v.station.taking = true := by rw [h.station]; exact taking
  have touches := refreshStrain_touches v
  have strain : v.refreshStrain.strainFactorNow = v.strainFactorNow :=
    strain_congr prop' (touches.role (by decide)) (by rw [touches.peers (by decide)]) (touches.address (by decide))
  have cutIff : cut ↔ v.station = .active ∧ v.strainFactorNow < v.thrust.strain := by
    show s.station = _ ∧ t.thrust.strain < s.thrust.strain ↔ _
    rw [h.station, h.thrust, refreshed prop]
    have := refreshStrain_strainInv v (by rw [isProp_eq (touches.role (by decide))]; exact prop')
      (by rw [touches.station (by decide)]; exact taking')
    rw [this, strain]
  rw [refreshed prop]
  refine ⟨?_, fun c => ?_, fun c => ?_⟩
  · exact refreshStrain_strainInv v (by rw [isProp_eq (touches.role (by decide))]; exact prop')
      (by rw [touches.station (by decide)]; exact taking')
  · have eq := refreshStrain_cut prop' taking' (cutIff.mp c)
    have target : v.refreshStrain.target = v.targetWith v.strainFactorNow := by
      unfold State.target
      rw [eq]
      exact targetWith_congr _ prop' rfl rfl rfl rfl rfl rfl rfl rfl rfl
    have x : v.refreshStrain.thrust.x = withinTarget s.thrust.x (v.targetWith v.strainFactorNow) := by
      rw [eq, ← h.thrust]
      rfl
    rw [target]
    refine ⟨by rw [eq]; rfl, ?_, ?_, ?_, ?_, ?_⟩
    · rw [x, withinTarget_eq]
    · rw [eq, ← h.thrust, ← h.gear, show s.param = v.param from by unfold State.param; rw [h.start]]
      exact setX_duty _ _
    all_goals rw [eq, ← h.thrust]; rfl
  · have eq := refreshStrain_uncut prop' taking' (fun k => c (cutIff.mpr k))
    rw [eq, ← h.thrust, ← h.gov, ← h.outputs]
    exact ⟨rfl, rfl, rfl⟩

/-- What follows from the table at a PROPULSION station, PEER_SILENT apart, is F alone. -/
theorem pruneLag_other {s : State} (h : s.isHelm = false ∨ s.helm.con ≠ .holding) : s.pruneLag = s := by
  refine whenever_neg ?_
  rcases h with h | h
  · rw [h]; rfl
  · rw [beq_eq_false_iff_ne.mpr h, Bool.and_false]

theorem lagOne_other {s : State} (a : Addr) (h : s.isHelm = false ∨ s.helm.con ≠ .holding) : s.lagOne a = s := by
  refine whenever_neg ?_
  rcases h with h | h
  · rw [h]; rfl
  · rw [beq_eq_false_iff_ne.mpr h, Bool.and_false]

theorem tableChanged_prop {s : State} (was : Bool) (prop : s.isProp = true) :
    s.tableChanged was = (s.judgeSilent was).refreshStrain := by
  have role : (s.judgeSilent was).role = s.role := (judgeSilent_touches s was).role (by decide)
  unfold State.tableChanged
  rw [pruneLag_other (.inl (isHelm_of_prop ((isProp_eq role).trans prop))), judgeWinch_other]
  rw [isCoup_eq (((refreshStrain_touches _).role (by decide)).trans role)]
  exact isCoup_of_prop prop

/-! ## The lag starts (R34) -/

theorem tableChanged_helm (s : State) (was : Bool) : (s.tableChanged was).helm = (s.judgeSilent was).pruneLag.helm :=
  ((judgeWinch_touches _).helm (by decide)).trans ((refreshStrain_touches _).helm (by decide))

theorem pruneLag_holding {s : State} (helm : s.isHelm = true) (con : s.helm.con = .holding) :
    s.pruneLag = State.judgeLagEnd { s with helm := { s.helm with lag := zipTab lagKept s.peers.entries s.helm.lag } } :=
  whenever_pos (by rw [helm, con]; rfl)

/-- The parts of a station that the lag starts read, and that a command leaves. -/
structure Lags (s v : State) : Prop where
  station : v.station = s.station
  helm : v.helm = s.helm
  role : v.role = s.role
  told : v.has .stationLag = s.has .stationLag

theorem lagsKept_of {s v t : State} (h : Lags s v) (isHelm : s.isHelm = true) (con : s.helm.con = .holding)
    (peers : t.peers = v.peers) (clock : t.clock = v.clock) (helm : t.helm = v.pruneLag.helm)
    (told : t.has .stationLag = v.pruneLag.has .stationLag) : LagsKept (fun _ => True) s t := by
  let w : State := { v with helm := { v.helm with lag := zipTab lagKept v.peers.entries v.helm.lag } }
  have pruned : v.pruneLag = w.judgeLagEnd := pruneLag_holding ((isHelm_eq h.role).trans isHelm) (by rw [h.helm]; exact con)
  have unit : t.helm = w.helm := by rw [helm, pruned]; exact (judgeLagEnd_touches w).helm (by decide)
  have has := judgeLagEnd_has (s := w) ((isHelm_eq h.role).trans isHelm)
  have still : w.has .stationLag = s.has .stationLag := h.told
  rw [still, show w.station = s.station from h.station, ← unit, ← pruned, ← told,
    show w.clock = t.clock from clock.symm] at has
  refine ⟨by rw [unit, ← h.helm], fun a _ => ?_, has⟩
  rw [livePropAt_followed, peers, unit, ← h.helm]
  have cell : w.helm.lag.get a = lagKept (v.peers.entries.get a) (v.helm.lag.get a) := zipTab_get _ _ _ a
  rw [cell]
  unfold lagKept
  exact ⟨fun live => if_pos live, fun n => if_neg n⟩

end Sys2Proof.Machine
end

section
/-! SUPPORT. The frames that the peer table applies: what they leave of the table, PEER_SILENT, F, the lag starts and
the slack dwell (O9, O10). -/

namespace Sys2Proof.Machine

-- As in Laws/Touches.lean: one theorem at a time.
set_option Elab.async false

/-! ## The slack dwell (R107) -/

theorem exec_dwells {c : Instr} {s t : State} (r : isReset c = false) (e : exec c s = .next t) (coup : s.isCoup = true)
    (role : t.role = s.role) : Dwells s t := by
  obtain ⟨dt, image, u, e', run, -⟩ := exec_runs (a := .whole) c s r nofun fun _ => rfl
  cases e.symm.trans e'
  exact run.winds.2 ((isCoup_eq role).trans coup)

/-- A command that ends in a judgement of the winch. -/
theorem exec_dwell {c : Instr} {s x : State} (r : isReset c = false) (e : exec c s = .next x.judgeWinch) (role : x.role = s.role)
    (image : x.start.image = s.start.image)
    (coup : s.isCoup = true → s.station = .active → x.station = .active → s.coup.supervised = true → s.coup.winch = .idle →
      x.coup.supervised = true ∧ x.coup.winch = .idle) : DwellJudged s x.judgeWinch := by
  have touches := judgeWinch_touches x
  by_cases isCoup : s.isCoup = true
  · have role' : x.judgeWinch.role = s.role := (touches.role (by decide)).trans role
    refine dwellJudged_of (exec_dwells r e isCoup role') ((congrArg StartUnit.image (touches.start (by decide))).trans image) fun act act' up idle => ?_
    have act' : x.station = .active := (touches.station (by decide)).symm.trans act'
    obtain ⟨up, idle⟩ := coup isCoup act act' up idle
    exact judgeWinch_dwell_iff ((isCoup_eq role).trans isCoup) act' up idle
  · exact fun h => absurd h isCoup

/-! ## The table after a frame (R6 to R9) -/

theorem liveness_unflagged (l : Liveness) : livenessAfter l none = if l = .silent then .live else l := by
  cases l <;> rfl

theorem liveness_flagged (l : Liveness) (b : Bool) : livenessAfter l (some b) = if b then .standby else .live := by
  cases b <;> rfl

/-- A frame of a kind that carries no state. -/
theorem entryAfter_heard {f : Frame} {e : Option Entry} (now : Clock) (prop : payloadKind f.payload ≠ .propState)
    (strain : payloadKind f.payload ≠ .strain) : entryAfter now f e = entryHeard now f.role f.start e := by
  have unflagged : standbyFlag f.payload = none := by
    unfold standbyFlag
    split
    next h => exact absurd (by rw [h]; rfl) prop
    next h => exact absurd (by rw [h]; rfl) strain
    · rfl
  have filled : fillBody f.role f.payload = if f.role = .helm then some .helm else none := by
    unfold fillBody
    split
    next h => rw [h]; rfl
    next h => exact absurd (by rw [h]; rfl) prop
    next h => exact absurd (by rw [h]; rfl) strain
    next h _ => rw [h]; rfl
    next h _ => rw [h]; rfl
  have updated : ∀ b, updateBody f.start f.payload b = bodyHeard f.start b := by
    intro b
    unfold updateBody bodyHeard
    split
    · rfl
    · split
      next h => exact absurd (by rw [h]; rfl) prop
      · rfl
    · split
      next h => exact absurd (by rw [h]; rfl) strain
      · rfl
  cases e with
  | none =>
    show (fillBody f.role f.payload).map _ = if f.role = .helm then _ else _
    rw [filled, unflagged]
    split <;> rfl
  | some e =>
    show some (Entry.mk (updateBody f.start f.payload e.body) _ _) = some (Entry.mk _ _ _)
    rw [updated, unflagged, liveness_unflagged]

theorem entryAfter_propState {f : Frame} {p : PropStateFields} {e : Option Entry} (now : Clock) (role : f.role = .propulsion)
    (payload : f.payload = .propState p) (agrees : ∀ x, e = some x → bodyRole x.body = .propulsion) :
    entryAfter now f e = some
      { body := .propulsion (rosterAfter f.start (propRosterOf p) e) false (propRecordOf p),
        liveness := if p.standby then .standby else .live, heard := now } := by
  unfold entryAfter
  rw [role, payload]
  show _ = _
  cases e with
  | none => exact congrArg (fun l => some (Entry.mk _ l _)) (liveness_flagged _ p.standby)
  | some x =>
    obtain ⟨body, before, since⟩ := x
    cases body with
    | helm => exact nomatch agrees _ rfl
    | coupling joint refresh record => exact nomatch agrees _ rfl
    | propulsion roster refresh record => exact congrArg (fun l => some (Entry.mk _ l _)) (liveness_flagged _ p.standby)

theorem entryAfter_strain {f : Frame} {p : StrainFields} {e : Option Entry} (now : Clock) (role : f.role = .coupling)
    (payload : f.payload = .strain p) (agrees : ∀ x, e = some x → bodyRole x.body = .coupling) :
    entryAfter now f e = some
      { body := .coupling (jointAfter f.start p.joint.toNat e) false (strainRecordOf p),
        liveness := if p.standby then .standby else .live, heard := now } := by
  unfold entryAfter
  rw [role, payload]
  show _ = _
  cases e with
  | none => exact congrArg (fun l => some (Entry.mk _ l _)) (liveness_flagged _ p.standby)
  | some x =>
    obtain ⟨body, before, since⟩ := x
    cases body with
    | helm => exact nomatch agrees _ rfl
    | propulsion roster refresh record => exact nomatch agrees _ rfl
    | coupling joint refresh record => exact congrArg (fun l => some (Entry.mk _ l _)) (liveness_flagged _ p.standby)

/-! ## A frame up to its routing -/

/-- The station as a frame that the table applies leaves it before anything follows. -/
def State.noted (s : State) (dt : Micros) (f : Frame) : State := (s.heard dt).written f

/-- What the table's writing of a frame leaves alone. -/
theorem noted_touches (s : State) (dt : Micros) (f : Frame) :
    OnlyTouches [.clock, .present, .alerts, .link, .peers, .account, .view] s (s.noted dt f) :=
  (heard_touches s dt).mono.trans (written_touches _ f).mono

theorem noted_clock (s : State) (dt : Micros) (f : Frame) : (s.noted dt f).clock = s.later dt :=
  ((written_touches _ f).clock (by decide)).trans (heard_clock s dt)

theorem noted_has (s : State) (dt : Micros) (f : Frame) {c : AlertCode} (n : c ≠ .rxError) (nt : c ≠ .txLoss) :
    (s.noted dt f).has c = s.has c :=
  ((written_touches _ f).has (by decide) c).trans (heard_tells s dt c (fun m => n (List.mem_singleton.mp m)) nt)

theorem noted_peers (s : State) (dt : Micros) (f : Frame) : (s.noted dt f).peers = { s.peers with
    entries := s.peers.entries.set f.source (entryAfter (s.later dt) f (s.peers.entries.get f.source)) } := by
  unfold State.noted
  rw [written_peers, heard_clock, (heard_touches s dt).peers (by decide)]

theorem tabled_eq (s : State) (dt : Micros) (f : Frame) :
    (s.heard dt).tabled f = (s.noted dt f).tableChanged s.anySilentWorker := by
  unfold State.tabled
  rw [anySilentWorker_eq ((heard_touches s dt).peers (by decide))]
  rfl

/-- A change of the table leaves the gear of every station. -/
theorem setX_thrustParts (s : State) (x : Int) : OnlyTouches [.thrust, .gov, .outputs] s (s.setX x) :=
  .of fun p => by cases p <;> first | exact .inl (by decide) | exact .inr rfl

theorem refreshStrain_thrustParts (s : State) : OnlyTouches [.thrust, .gov, .outputs] s s.refreshStrain :=
  .ite (.ite ((thrust_touches s _).mono.trans (setX_thrustParts _ _)) (thrust_touches s _).mono) (.refl _ _)

/-- What a change of the table touches in the units that read it, the gear apart. -/
abbrev followParts : List Part := [.present, .alerts, .link, .helm, .thrust, .gov, .outputs, .coup]

theorem tableChanged_follows (s : State) (was : Bool) : OnlyTouches followParts s (s.tableChanged was) :=
  (judgeSilent_touches s was).mono.trans ((pruneLag_touches _).mono.trans
    ((refreshStrain_thrustParts _).mono.trans (judgeWinch_touches _).mono))

theorem tabled_peers (s : State) (dt : Micros) (f : Frame) : ((s.heard dt).tabled f).peers = { s.peers with
    entries := s.peers.entries.set f.source (entryAfter (s.later dt) f (s.peers.entries.get f.source)) } := by
  rw [tabled_eq, (tableChanged_follows _ _).peers (by decide), noted_peers]

/-- The winch after a change of the table: judged where it runs, so an IDLE one stays IDLE. -/
theorem tableChanged_idle {s : State} (was : Bool) : (s.tableChanged was).coup.supervised = s.coup.supervised ∧
    (s.coup.winch = .idle → (s.tableChanged was).coup.winch = .idle) := by
  let w := (s.judgeSilent was).pruneLag.refreshStrain
  have unit : w.coup = s.coup := ((refreshStrain_touches _).coup (by decide)).trans
    (((pruneLag_touches _).coup (by decide)).trans ((judgeSilent_touches s was).coup (by decide)))
  show w.judgeWinch.coup.supervised = _ ∧ (_ → w.judgeWinch.coup.winch = _)
  refine ⟨by rw [judgeWinch_only, unit], fun idle => ?_⟩
  rcases judgeWinch_winch w with h | h
  · exact h
  · rw [h, unit, idle]

/-! ## A routed frame -/

/-- What a routed frame of any kind but ROSTER leaves of the table and PEER_SILENT. -/
theorem route_peers (s : State) (f : Frame) (other : payloadKind f.payload ≠ .roster) : (s.route f).peers = s.peers := by
  unfold State.route
  split
  · exact (routeDemand_touches s _ _).peers (by decide)
  · exact (routeRequest_touches s _ _).peers (by decide)
  · exact (routeGrant_touches s _).peers (by decide)
  · exact (routeDecline_touches s _ _).peers (by decide)
  · exact (offerView_touches s _ _).peers (by decide)
  · exact (lagOne_touches s _).peers (by decide)
  · rfl
  · exact (takeFuel_touches s _ _).peers (by decide)
  · exact (takeAccount_touches s _ _).peers (by decide)
  · exact (takeAlert_touches s _ _).peers (by decide)
  · exact (takeAck_touches s _ _).peers (by decide)
  next roster => exact absurd (by rw [roster]; rfl) other
  · exact (whenever_touches s _ (setRequest_touches s)).peers (by decide)
  · exact (whenever_touches s _ (clearRequest_touches s)).peers (by decide)

/-- What every applied frame but a ROSTER leaves of the table. -/
structure Tabled (dt : Micros) (f : Frame) (s t : State) : Prop where
  clock : t.clock = s.later dt
  source : t.peers.entries.get f.source = entryAfter (s.later dt) f (s.peers.entries.get f.source)
  others : ∀ a, a ≠ f.source → t.peers.entries.get a = s.peers.entries.get a
  conflicts : t.peers.conflicts = s.peers.conflicts
  sweep : t.peers.sweep = s.peers.sweep
  silence : SilenceJudged s t

/-- The station as an applied frame leaves it. -/
def State.applied (s : State) (dt : Micros) (f : Frame) : State := (((s.heard dt).tabled f).route f).judgeWinch

theorem applied_peers (s : State) (dt : Micros) (f : Frame) (other : payloadKind f.payload ≠ .roster) :
    (s.applied dt f).peers = (s.noted dt f).peers := by
  unfold State.applied
  rw [(judgeWinch_touches _).peers (by decide), route_peers _ f other, tabled_peers, noted_peers]

theorem applied_clock (s : State) (dt : Micros) (f : Frame) : (s.applied dt f).clock = s.later dt := by
  unfold State.applied
  rw [(judgeWinch_touches _).clock (by decide), (route_touches _ f).clock (by decide), tabled_eq,
    (tableChanged_follows _ _).clock (by decide), noted_clock]

theorem applied_tabled (s : State) (dt : Micros) (f : Frame) (other : payloadKind f.payload ≠ .roster) :
    Tabled dt f s (s.applied dt f) := by
  have peers := applied_peers s dt f other
  have stored := peers.trans (noted_peers s dt f)
  refine ⟨applied_clock s dt f, by rw [stored]; exact Tab.get_set_self _ _ _,
    fun a n => by rw [stored]; exact Tab.get_set_ne _ _ n, by rw [stored], by rw [stored], ?_⟩
  refine silenceJudged_of (v := s.noted dt f) ((noted_touches s dt f).station (by decide))
    ((noted_touches s dt f).role (by decide)) (noted_has s dt f nofun nofun) peers ?_
  unfold State.applied
  rw [(judgeWinch_touches _).has (by decide), route_tells _ f other .peerSilent (by decide) nofun, tabled_eq]
  exact tableChanged_tells _ _ .peerSilent (by decide) nofun

theorem exec_applied {c : Instr} {dt : Micros} {f : Frame} {s : State} (h : frameOf c = some (dt, f))
    (ok : payloadOk f.payload = true) (admits : s.Admits f.source f.role) : exec c s = .next (s.applied dt f) :=
  exec_admitted h ok admits

theorem frame_notReset {c : Instr} {dt : Micros} {f : Frame} (h : frameOf c = some (dt, f)) : isReset c = false := by
  cases c <;> first | rfl | exact absurd h nofun

/-- Settles O10: the routed units leave the table. -/
theorem otherFramesAreHeard : Obligations.OtherFramesAreHeard := by
  intro c dt f s h ok admits prop strain roster
  obtain ⟨clock, source, others, conflicts, sweep, silence⟩ := applied_tabled s dt f roster
  exact ⟨_, exec_applied h ok admits, clock, source.trans (entryAfter_heard _ prop strain), others, conflicts, sweep, silence⟩

end Sys2Proof.Machine
end

section
/-! SUPPORT. PROP_STATE and STRAIN applied (O9). -/

namespace Sys2Proof.Machine

-- As in Laws/Touches.lean: one theorem at a time.
set_option Elab.async false

/-- What writing the table touches. -/
abbrev tableWritten : List Part := [.clock, .present, .alerts, .link, .peers, .account, .view]

theorem judged_drives {s v : State} (h : OnlyTouches tableWritten s v) (was : Bool) : Drives s (v.judgeSilent was) := by
  have judged := judgeSilent_touches v was
  exact ⟨(judged.station (by decide)).trans (h.station (by decide)), (judged.role (by decide)).trans (h.role (by decide)),
    (judged.start (by decide)).trans (h.start (by decide)), (judged.thrust (by decide)).trans (h.thrust (by decide)),
    (judged.gear (by decide)).trans (h.gear (by decide)), (judged.gov (by decide)).trans (h.gov (by decide)),
    (judged.outputs (by decide)).trans (h.outputs (by decide))⟩

theorem tableChanged_cut {s v t : State} (h : OnlyTouches tableWritten s v) (was : Bool)
    (still : s.isProp = true → t = v.tableChanged was) : StrainCut s t :=
  strainCut_of (judged_drives h was) fun prop => by
    rw [still prop, tableChanged_prop _ ((isProp_eq (h.role (by decide))).trans prop)]

/-- A frame whose unit does nothing at a PROPULSION station makes the strain cut alone. -/
theorem applied_cut (s : State) (dt : Micros) (f : Frame)
    (still : s.isProp = true → ((s.heard dt).tabled f).route f = (s.heard dt).tabled f) : StrainCut s (s.applied dt f) := by
  refine tableChanged_cut (noted_touches s dt f) s.anySilentWorker fun prop => ?_
  have role : ((s.heard dt).tabled f).role = s.role := by
    rw [tabled_eq, (tableChanged_follows _ _).role (by decide), (noted_touches s dt f).role (by decide)]
  unfold State.applied
  rw [still prop, judgeWinch_other ((isCoup_eq role).trans (isCoup_of_prop prop)), tabled_eq]

theorem tabled_unit (s : State) (dt : Micros) (f : Frame) : ((s.heard dt).tabled f).coup.supervised = s.coup.supervised ∧
    (s.coup.winch = .idle → ((s.heard dt).tabled f).coup.winch = .idle) := by
  rw [tabled_eq]
  obtain ⟨up, idle⟩ := tableChanged_idle (s := s.noted dt f) s.anySilentWorker
  have unit : (s.noted dt f).coup = s.coup := (noted_touches s dt f).coup (by decide)
  rw [unit] at up idle
  exact ⟨up, idle⟩

theorem tabled_touches (s : State) (dt : Micros) (f : Frame) : OnlyTouches
    [.clock, .present, .alerts, .link, .peers, .account, .view, .helm, .thrust, .gov, .outputs, .coup] s
    ((s.heard dt).tabled f) := by
  rw [tabled_eq]
  exact (noted_touches s dt f).mono.trans (tableChanged_follows _ _).mono

/-- A frame whose unit leaves the winch and the image. -/
theorem applied_dwell {c : Instr} {s : State} {dt : Micros} {f : Frame} (h : frameOf c = some (dt, f))
    (ok : payloadOk f.payload = true) (admits : s.Admits f.source f.role)
    (image : (((s.heard dt).tabled f).route f).start.image = ((s.heard dt).tabled f).start.image)
    (coup : s.station = .active → (((s.heard dt).tabled f).route f).station = .active →
      (((s.heard dt).tabled f).route f).coup = ((s.heard dt).tabled f).coup) : DwellJudged s (s.applied dt f) := by
  have touches := tabled_touches s dt f
  obtain ⟨up, idle⟩ := tabled_unit s dt f
  refine exec_dwell (frame_notReset h) (exec_applied h ok admits)
    (((route_touches _ f).role (by decide)).trans (touches.role (by decide))) (image.trans (congrArg StartUnit.image (touches.start (by decide))))
    fun _ was act supervised rests => ?_
  rw [coup was act]
  exact ⟨up.trans supervised, idle rests⟩

theorem tabled_account (s : State) (dt : Micros) {f : Frame} (still : f.start = false) :
    ((s.heard dt).tabled f).account = s.account ∧ ((s.heard dt).tabled f).view = s.view := by
  have quiet : OnlyTouches [.clock, .present, .alerts, .link, .peers] s (s.noted dt f) := by
    unfold State.noted
    rw [written_quiet still]
    exact (heard_touches s dt).mono.trans (updateEntry_touches _ f).mono
  rw [tabled_eq]
  have touches := tableChanged_follows (s.noted dt f) s.anySilentWorker
  exact ⟨(touches.account (by decide)).trans (quiet.account (by decide)),
    (touches.view (by decide)).trans (quiet.view (by decide))⟩

/-! ## The lag starts (R34) -/

theorem tableChanged_lags {s v : State} (h : OnlyTouches tableWritten s v) (was : Bool)
    (told : v.has .stationLag = s.has .stationLag) (helm : s.isHelm = true) (con : s.helm.con = .holding) :
    LagsKept (fun _ => True) s (v.tableChanged was) := by
  have silent := judgeSilent_touches v was
  have touches := tableChanged_follows v was
  refine lagsKept_of (v := v.judgeSilent was) ⟨(silent.station (by decide)).trans (h.station (by decide)),
    (silent.helm (by decide)).trans (h.helm (by decide)), (silent.role (by decide)).trans (h.role (by decide)), ?_⟩
    helm con ?_ ?_ (tableChanged_helm _ _) ?_
  · exact (judgeSilent_tells _ _ .stationLag (by decide) nofun).trans told
  · exact (touches.peers (by decide)).trans (silent.peers (by decide)).symm
  · exact (touches.clock (by decide)).trans (silent.clock (by decide)).symm
  · exact ((judgeWinch_touches _).has (by decide) _).trans ((refreshStrain_touches _).has (by decide) _)

theorem tableChanged_helm_other {s v : State} (touches : OnlyTouches tableWritten s v) (was : Bool)
    (h : s.isHelm = false ∨ s.helm.con ≠ .holding) : (v.tableChanged was).helm = s.helm := by
  have silent := judgeSilent_touches v was
  have unit : (v.judgeSilent was).helm = s.helm := (silent.helm (by decide)).trans (touches.helm (by decide))
  have role : (v.judgeSilent was).isHelm = s.isHelm :=
    isHelm_eq ((silent.role (by decide)).trans (touches.role (by decide)))
  rw [tableChanged_helm, pruneLag_other (by rw [role, unit]; exact h), unit]

theorem tabled_lags {s : State} (dt : Micros) (f : Frame) (helm : s.isHelm = true) (con : s.helm.con = .holding) :
    LagsKept (fun _ => True) s ((s.heard dt).tabled f) := by
  rw [tabled_eq]
  exact tableChanged_lags (noted_touches s dt f) _ (noted_has s dt f nofun nofun) helm con

theorem tabled_helm {s : State} (dt : Micros) (f : Frame) (h : s.isHelm = false ∨ s.helm.con ≠ .holding) :
    ((s.heard dt).tabled f).helm = s.helm := by
  rw [tabled_eq]
  exact tableChanged_helm_other (noted_touches s dt f) _ h

theorem LagsKept.judged {here : Addr → Prop} {s t : State} (h : LagsKept here s t) : LagsKept here s t.judgeWinch := by
  have touches := judgeWinch_touches t
  unfold LagsKept State.livePropAt at h ⊢
  rw [touches.helm (by decide), touches.peers (by decide), touches.clock (by decide), touches.has (by decide)]
  exact h

theorem lagOf_old {now : Clock} {number : Byte} {e : Option Entry} {start : Option Clock} {since : Clock}
    (h : lagOf now number e start = some since) (old : 2000000 ≤ elapsed now since) : start = some since := by
  unfold lagOf at h
  split at h
  · exact nomatch h
  · unfold runStart at h
    split at h
    · cases start with
      | some c => exact h
      | none =>
        cases h
        rw [show elapsed now now = 0 from by unfold elapsed; simp] at old
        exact absurd old (by decide)
    · exact nomatch h

/-- The sender's lag start judged after the table's. -/
theorem lagOne_lags {s x : State} (a : Addr) (kept : LagsKept (fun _ => True) s x) (helm : x.isHelm = true)
    (con : x.helm.con = .holding) (station : x.station = s.station) : LagsKept (fun b => b ≠ a) s (x.lagOne a) ∧
      (x.lagOne a).helm.lag.get a = lagOf x.clock x.helm.number (x.peers.entries.get a) (x.helm.lag.get a) := by
  let w : State := { x with helm := { x.helm with
    lag := x.helm.lag.set a (lagOf x.clock x.helm.number (x.peers.entries.get a) (x.helm.lag.get a)) } }
  have eq : x.lagOne a = w.judgeLagEnd := whenever_pos (by rw [helm, con]; rfl)
  have touches := judgeLagEnd_touches w
  have unit : (x.lagOne a).helm = w.helm := by rw [eq]; exact touches.helm (by decide)
  have clock : (x.lagOne a).clock = x.clock := by rw [eq]; exact touches.clock (by decide)
  have peers : (x.lagOne a).peers = x.peers := by rw [eq]; exact touches.peers (by decide)
  obtain ⟨same, cells, told, untold⟩ := kept
  have has := judgeLagEnd_has (s := w) helm
  rw [← eq, ← unit, show w.station = s.station from station, show w.clock = (x.lagOne a).clock from clock.symm] at has
  have older : (∃ b since, (x.lagOne a).helm.lag.get b = some since ∧ 2000000 ≤ elapsed (x.lagOne a).clock since) →
      ∃ b since, x.helm.lag.get b = some since ∧ 2000000 ≤ elapsed x.clock since := by
    rintro ⟨b, since, start, old⟩
    rw [clock] at old
    rw [unit] at start
    by_cases here : b = a
    · subst here
      exact ⟨b, since, lagOf_old ((Tab.get_set_self _ _ _).symm.trans start) old, old⟩
    · exact ⟨b, since, (Tab.get_set_ne _ _ here).symm.trans start, old⟩
  refine ⟨⟨?_, fun b other => ?_, fun reports => ?_, fun idle => ?_⟩,
    by rw [unit]; exact Tab.get_set_self _ _ _⟩
  · rw [unit]
    exact congrArg (fun u : HelmUnit => { u with lag := w.helm.lag }) same
  · have cell : (x.lagOne a).helm.lag.get b = x.helm.lag.get b := by rw [unit]; exact Tab.get_set_ne _ _ other
    rw [livePropAt_followed, peers, cell, ← livePropAt_followed]
    exact cells b trivial
  · rw [has.1 reports, show w.has .stationLag = x.has .stationLag from rfl, told reports]
    exact ⟨fun h => ⟨h.1.1, h.2⟩, fun h => ⟨⟨h.1, older h.2⟩, h.2⟩⟩
  · exact (has.2 idle).trans (untold idle)

/-- The lag start of a sender judged by the record it sent. -/
theorem lagOf_sent (now : Clock) (number : Byte) (roster : PropRoster) (refresh : Bool) (record : PropRecord)
    (standby : Bool) (heard : Clock) (start : Option Clock) :
    lagOf now number (some ⟨.propulsion roster refresh record, if standby then .standby else .live, heard⟩) start =
      if standby = true ∨ record.followed = number then none else some (start.getD now) := by
  cases standby with
  | true => exact (if_pos (Or.inl rfl)).symm
  | false =>
    show runStart _ _ (record.followed != number) = _
    by_cases follows : record.followed = number
    · rw [if_pos (Or.inr follows), follows, bne_self_eq_false]
      rfl
    · rw [if_neg (not_or.mpr ⟨Bool.false_ne_true, follows⟩), bne_iff_ne.mpr follows]
      cases start <;> rfl

theorem propState_replaces (s : State) (dt : Micros) (h : RxHeader) (p : PropStateFields)
    (admits : s.Admits h.source .propulsion) :
    let f : Frame := ⟨h.start, h.source, .propulsion, 2, .propState p⟩
    let t := s.applied dt f
    exec (.propState dt h p) s = .next t ∧
      t.peers.entries.get h.source = some
        { body := .propulsion (rosterAfter h.start (propRosterOf p) (s.peers.entries.get h.source)) false (propRecordOf p),
          liveness := if p.standby then .standby else .live, heard := s.later dt } ∧
      (h.start = false → t.account = s.account ∧ t.view = s.view) ∧ StrainCut s t ∧ DwellJudged s t ∧
      (s.isHelm = false ∨ s.helm.con ≠ .holding → t.helm = s.helm) ∧
      OnlyTouches [.clock, .present, .alerts, .link, .peers, .account, .view, .helm, .thrust, .gov, .outputs, .coup] s t := by
  intro f t
  let x := (s.heard dt).tabled f
  have frame : frameOf (.propState dt h p) = some (dt, f) := rfl
  have routed : OnlyTouches (.helm :: commsParts) x (x.route f) := lagOne_touches x h.source
  have judged := judgeWinch_touches (x.route f)
  have touches := tabled_touches s dt f
  have role : x.isHelm = s.isHelm := isHelm_eq (touches.role (by decide))
  refine ⟨exec_applied frame rfl admits, (applied_tabled s dt f nofun).source.trans (entryAfter_propState (f := f) (p := p)
    (s.later dt) rfl rfl fun e k => admits.2.2.2 e k), fun still => ?_, ?_, ?_, fun other => ?_,
    touches.trans (routed.mono.trans judged.mono)⟩
  · obtain ⟨account, view⟩ := tabled_account s dt (f := f) still
    exact ⟨(judged.account (by decide)).trans ((routed.account (by decide)).trans account),
      (judged.view (by decide)).trans ((routed.view (by decide)).trans view)⟩
  · exact applied_cut s dt f fun prop => lagOne_other _ (.inl (role.trans (isHelm_of_prop prop)))
  · exact applied_dwell frame rfl admits (congrArg StartUnit.image (routed.start (by decide))) fun _ _ => routed.coup (by decide)
  · have same : x.helm = s.helm := tabled_helm dt f other
    have still : x.route f = x := lagOne_other h.source (by rw [role, same]; exact other)
    exact (judged.helm (by decide)).trans (by rw [still, same])

theorem propState_lags {s : State} (dt : Micros) (h : RxHeader) (p : PropStateFields) (admits : s.Admits h.source .propulsion)
    (helm : s.isHelm = true) (con : s.helm.con = .holding) :
    let t := s.applied dt ⟨h.start, h.source, .propulsion, 2, .propState p⟩
    t.helm.lag.get h.source = (if p.standby = true ∨ p.followed = s.helm.number then none
      else some ((s.helm.lag.get h.source).getD (s.later dt))) ∧ LagsKept (fun a => a ≠ h.source) s t := by
  intro t
  let f : Frame := ⟨h.start, h.source, .propulsion, 2, .propState p⟩
  let x := (s.heard dt).tabled f
  have touches : OnlyTouches _ s x := tabled_touches s dt f
  have kept : LagsKept (fun _ => True) s x := tabled_lags dt f helm con
  obtain ⟨same, cells, -, -⟩ := id kept
  obtain ⟨lags, own⟩ := lagOne_lags (x := x) h.source kept ((isHelm_eq (touches.role (by decide))).trans helm)
    (by rw [same]; exact con) (touches.station (by decide))
  obtain ⟨-, stored, -⟩ := propState_replaces s dt h p admits
  have entry : x.peers.entries.get h.source = t.peers.entries.get h.source := by
    rw [applied_peers s dt f nofun, noted_peers, tabled_peers]
  have now : x.clock = s.later dt := by
    show ((s.heard dt).tabled f).clock = _
    rw [tabled_eq, (tableChanged_follows _ _).clock (by decide), noted_clock]
  have number : x.helm.number = s.helm.number := by rw [same]
  have cell : t.helm.lag.get h.source = (x.lagOne h.source).helm.lag.get h.source :=
    congrArg (fun u : HelmUnit => u.lag.get h.source) ((judgeWinch_touches (x.lagOne h.source)).helm (by decide))
  refine ⟨?_, lags.judged⟩
  rw [cell, own, entry, stored, number, now, lagOf_sent]
  by_cases out : p.standby = true ∨ p.followed = s.helm.number
  · rw [if_pos out, if_pos (show _ ∨ (propRecordOf p).followed = _ from out)]
  · have live : x.livePropAt h.source := by
      rw [livePropAt_followed, entry, stored, Bool.eq_false_iff.mpr fun k => out (.inl k)]
      rfl
    rw [if_neg out, if_neg (show ¬ (_ ∨ (propRecordOf p).followed = _) from out), (cells h.source trivial).1 live]

theorem strain_replaces (s : State) (dt : Micros) (h : RxHeader) (p : StrainFields) (admits : s.Admits h.source .coupling) :
    let f : Frame := ⟨h.start, h.source, .coupling, 2, .strain p⟩
    let t := s.applied dt f
    exec (.strain dt h p) s = .next t ∧
      t.peers.entries.get h.source = some
        { body := .coupling (jointAfter h.start p.joint.toNat (s.peers.entries.get h.source)) false (strainRecordOf p),
          liveness := if p.standby then .standby else .live, heard := s.later dt } ∧
      (h.start = false → t.account = s.account ∧ t.view = s.view) ∧ StrainCut s t ∧ DwellJudged s t ∧
      (s.isHelm = true → s.helm.con = .holding → LagsKept (fun _ => True) s t) ∧
      (s.isHelm = false ∨ s.helm.con ≠ .holding → t.helm = s.helm) ∧
      OnlyTouches [.clock, .present, .alerts, .link, .peers, .account, .view, .helm, .thrust, .gov, .outputs, .coup] s t := by
  intro f t
  let x := (s.heard dt).tabled f
  have frame : frameOf (.strain dt h p) = some (dt, f) := rfl
  have judged := judgeWinch_touches x
  have touches := tabled_touches s dt f
  refine ⟨exec_applied frame rfl admits, (applied_tabled s dt f nofun).source.trans (entryAfter_strain (f := f) (p := p)
    (s.later dt) rfl rfl fun e k => admits.2.2.2 e k), fun still => ?_, applied_cut s dt f fun _ => rfl,
    applied_dwell frame rfl admits rfl fun _ _ => rfl, fun helm con => (tabled_lags dt f helm con).judged,
    fun other => (judged.helm (by decide)).trans (tabled_helm dt f other), touches.trans judged.mono⟩
  obtain ⟨account, view⟩ := tabled_account s dt (f := f) still
  exact ⟨(judged.account (by decide)).trans account, (judged.view (by decide)).trans view⟩

/-- Settles O9: a state frame's unit is the lag start of its sender, at a HOLDING helm. -/
theorem stateFramesReplaceTheRecord : Obligations.StateFramesReplaceTheRecord := by
  unfold Obligations.StateFramesReplaceTheRecord
  constructor
  · intro s dt h p admits lag
    obtain ⟨clock, -, others, conflicts, sweep, silence⟩ :=
      applied_tabled s dt ⟨h.start, h.source, .propulsion, 2, .propState p⟩ nofun
    obtain ⟨run, stored, units, cut, dwell, other, touches⟩ := propState_replaces s dt h p admits
    exact ⟨_, run, clock, stored, others, conflicts, sweep, units, silence, cut, dwell, propState_lags dt h p admits, other,
      touches⟩
  · intro s dt h p admits
    obtain ⟨clock, -, others, conflicts, sweep, silence⟩ :=
      applied_tabled s dt ⟨h.start, h.source, .coupling, 2, .strain p⟩ nofun
    obtain ⟨run, stored, units, cut, dwell, lags, other, touches⟩ := strain_replaces s dt h p admits
    exact ⟨_, run, clock, stored, others, conflicts, sweep, units, silence, cut, dwell, lags, other, touches⟩

end Sys2Proof.Machine
end

section
/-! SUPPORT. The sweep and the forget of the peer table (O12, O13). -/

namespace Sys2Proof.Machine

-- As in Laws/Touches.lean: one theorem at a time.
set_option Elab.async false

/-! ## The sweep (R5, R11) -/

theorem sweepEntry_some (now : Clock) (limit : Micros) (e : Entry) : sweepEntry now limit (some e) = some { e with
    liveness := if e.liveness = .live ∧ limit ≤ elapsed now e.heard then .silent else e.liveness } := by
  obtain ⟨body, liveness, heard⟩ := e
  cases liveness with
  | live =>
    show some (Entry.mk body (if _ then _ else _) heard) = some (Entry.mk body (if _ ∧ _ then _ else _) heard)
    simp only [true_and]
  | silent | standby => rfl

/-- The station as a due sweep leaves its table. -/
def State.swept (s : State) (dt : Micros) : State :=
  let t := s.advance dt
  ({ t with peers := { t.peers with sweep := nextInterval t.peers.sweep } } : State).sweepTable

theorem swept_touches (s : State) (dt : Micros) : OnlyTouches [.clock, .peers] s (s.swept dt) :=
  (advance_touches s dt).mono.trans (.trans (peers_touches _ _).mono (sweepTable_touches _).mono)

theorem exec_sweep {s : State} {dt : Micros} (taking : s.station.taking = true) (h : due s.peers.sweep (s.later dt) = true) :
    exec (.sweep dt) s = .next (((s.swept dt).judgeConflict s.anyConflict).tableChanged s.anySilentWorker) :=
  exec_pos (f := fun s =>
      let t := { s with peers := { s.peers with sweep := nextInterval s.peers.sweep } }
      (t.sweepTable.judgeConflict s.anyConflict).tableChanged s.anySilentWorker) rfl
    (Bool.and_eq_true_iff.mpr ⟨taking, h⟩)

/-- Settles O12: PEER_SILENT, F, the lag starts and the dwell are those of any change of the table. -/
theorem sweepSilencesEntries : Obligations.SweepSilencesEntries := by
  intro s dt taking h
  let v := (s.swept dt).judgeConflict s.anyConflict
  let t := v.tableChanged s.anySilentWorker
  have run := exec_sweep taking h
  have swept := swept_touches s dt
  have judged : OnlyTouches commsParts (s.swept dt) v := judgeConflict_touches _ _
  have follows : OnlyTouches followParts v t := tableChanged_follows v _
  have kept : OnlyTouches [.clock, .present, .alerts, .link, .peers] s v := swept.mono.trans judged.mono
  have written : OnlyTouches tableWritten s v := kept.mono
  have peers : t.peers = (s.swept dt).peers := (follows.peers (by decide)).trans (judged.peers (by decide))
  have clock : t.clock = s.later dt := (follows.clock (by decide)).trans (judged.clock (by decide))
  have cell : ∀ a, t.peers.entries.get a = sweepEntry (s.later dt) (ms (s.param Param.silenceLimit)) (s.peers.entries.get a) :=
    fun a => by rw [peers]; exact Tab.get_map _ _ a
  have told : ∀ c, c ≠ .addressConflict → c ≠ .txLoss → v.has c = s.has c := fun c n nt =>
    (judgeConflict_tells _ _ c (fun m => n (List.mem_singleton.mp m)) nt).trans (swept.has (by decide) c)
  refine ⟨t, run, clock, by rw [peers]; rfl, fun a empty => by rw [cell, empty]; rfl,
    fun a e stored => by rw [cell, stored, sweepEntry_some], fun a => by rw [peers]; exact Tab.get_map _ _ a, ?_, ?_,
    tableChanged_cut written _ fun _ => rfl, ?_, tableChanged_lags written _ (told _ nofun nofun),
    tableChanged_helm_other written _, kept.mono.trans follows.mono⟩
  · refine conflictJudged_of (swept.station (by decide)) (swept.has (by decide) _) peers ?_
    exact (tableChanged_tells v _ .addressConflict (by decide) nofun).trans
      (judgeSilent_tells v _ .addressConflict (by decide) nofun)
  · exact silenceJudged_of (v := v) (written.station (by decide)) (written.role (by decide)) (told _ nofun nofun)
      (follows.peers (by decide)) (tableChanged_tells v _ .peerSilent (by decide) nofun)
  · let x := (v.judgeSilent s.anySilentWorker).pruneLag.refreshStrain
    have unit : OnlyTouches [.clock, .present, .alerts, .link, .peers, .account, .view, .helm, .thrust, .gov, .outputs] s x :=
      written.mono.trans ((judgeSilent_touches v _).mono.trans ((pruneLag_touches _).mono.trans
        (refreshStrain_thrustParts _).mono))
    refine exec_dwell (x := x) rfl run (unit.role (by decide))
      (congrArg StartUnit.image (unit.start (by decide))) fun _ _ _ up idle => ?_
    rw [unit.coup (by decide)]
    exact ⟨up, idle⟩

/-! ## The forget (R13) -/

theorem mem_addressesFrom (p : Option Entry → Bool) : ∀ (l : List (Option Entry)) (k i : Nat),
    i ∈ addressesFrom p k l ↔ ∃ j, ∃ h : j < l.length, i = k + j ∧ p l[j] = true
  | [], k, i => by simp [addressesFrom]
  | e :: es, k, i => by
    have rest := mem_addressesFrom p es (k + 1) i
    have head : (∃ j, ∃ h : j < (e :: es).length, i = k + j ∧ p (e :: es)[j] = true) ↔
        (i = k ∧ p e = true) ∨ i ∈ addressesFrom p (k + 1) es := by
      rw [rest]
      constructor
      · rintro ⟨j, h, at_j, holds⟩
        cases j with
        | zero => exact .inl ⟨at_j, holds⟩
        | succ j => exact .inr ⟨j, Nat.lt_of_succ_lt_succ h, by omega, holds⟩
      · rintro (⟨at_k, holds⟩ | ⟨j, h, at_j, holds⟩)
        · exact ⟨0, Nat.succ_pos _, at_k, holds⟩
        · exact ⟨j + 1, Nat.succ_lt_succ h, by omega, holds⟩
    rw [head, show addressesFrom p k (e :: es) = if p e then k :: addressesFrom p (k + 1) es
      else addressesFrom p (k + 1) es from rfl]
    split
    next holds => rw [List.mem_cons, and_iff_left holds]
    next fails => exact ⟨.inr, fun h => h.resolve_left fun k => fails k.2⟩

theorem silentAddresses_contains (s : State) (a : Addr) :
    s.silentAddresses.contains a.val = entrySilent (s.peers.entries.get a) := by
  rw [Bool.eq_iff_iff, List.contains_iff_mem]
  unfold State.silentAddresses
  rw [mem_addressesFrom]
  constructor
  · rintro ⟨j, h, at_j, holds⟩
    have : j = a.val := by omega
    subst this
    exact holds
  · exact fun holds => ⟨a.val, by rw [s.peers.entries.size]; exact a.isLt, (Nat.zero_add _).symm, holds⟩

theorem forget_entry (s : State) (a : Addr) : s.forgetEntries.peers.entries.get a =
    if entrySilent (s.peers.entries.get a) then none else s.peers.entries.get a := Tab.get_map _ _ a

theorem forget_conflict (s : State) (a : Addr) : s.forgetEntries.peers.conflicts.get a =
    if entrySilent (s.peers.entries.get a) then none else s.peers.conflicts.get a := by
  rw [← silentAddresses_contains]
  exact Tab.get_mapIdx _ _ a

/-- The items of forgotten stations leave the view, and their report marks (R144). -/
theorem forgetItems_drops {s : State} {l : List Nat} {a : Addr} (helm : s.isHelm = true) (gone : l.contains a.val = true) :
    (∀ i ∈ (s.forgetItems l).view.items, i.station ≠ a) ∧ (s.forgetItems l).view.part0.get a = none := by
  have eq : s.forgetItems l = State.judgeViewRoom { s with view := {
      items := s.view.items.filter (fun i => !l.contains i.station.val),
      part0 := s.view.part0.mapIdx (fun k m => if l.contains k then none else m) } } := whenever_pos helm
  rw [eq, (judgeViewRoom_touches _).view (by decide)]
  refine ⟨fun i m e => ?_, (Tab.get_mapIdx _ _ a).trans (if_pos gone)⟩
  have kept := (List.mem_filter.mp m).2
  rw [e, gone] at kept
  exact nomatch kept

/-- What a forget touches, the gear apart. -/
abbrev forgotParts : List Part := [.present, .alerts, .link, .peers, .view, .helm, .thrust, .gov, .outputs, .coup]

/-- A forget up to the units that follow it. -/
def State.forgotten (s : State) : State :=
  ((s.forgetEntries.judgeConflict s.anyConflict).judgeSilent s.anySilentWorker).forgetItems s.silentAddresses

theorem forgotten_touches (s : State) : OnlyTouches [.present, .alerts, .link, .peers, .view] s s.forgotten :=
  (forgetEntries_touches s).mono.trans ((judgeConflict_touches _ _).mono.trans ((judgeSilent_touches _ _).mono.trans
    (forgetItems_touches _ _).mono))

theorem forget_follows (s : State) : OnlyTouches [.present, .alerts, .link, .helm, .thrust, .gov, .outputs, .coup] s.forgotten
    s.forget :=
  (pruneLag_touches _).mono.trans ((refreshStrain_thrustParts _).mono.trans (judgeWinch_touches _).mono)

theorem forget_peers (s : State) : s.forget.peers = s.forgetEntries.peers := by
  rw [(forget_follows s).peers (by decide)]
  exact ((forgetItems_touches _ _).peers (by decide)).trans
    (((judgeSilent_touches _ _).peers (by decide)).trans ((judgeConflict_touches _ _).peers (by decide)))

theorem forget_follow_tells (s : State) : Tells [.viewFull, .stationLag]
    ((s.forgetEntries.judgeConflict s.anyConflict).judgeSilent s.anySilentWorker) s.forget :=
  (forgetItems_tells _ _).mono.trans ((pruneLag_tells _).mono.trans
    ((refreshStrain_touches _).tells.trans (judgeWinch_touches _).tells))

theorem forget_conflictJudged (s : State) : ConflictJudged s s.forget :=
  conflictJudged_of (v := s.forgetEntries) ((forgetEntries_touches s).station (by decide)) rfl (forget_peers s)
    ((forget_follow_tells s .addressConflict (by decide) nofun).trans (judgeSilent_tells _ _ .addressConflict (by decide) nofun))

theorem forget_silenceJudged (s : State) : SilenceJudged s s.forget := by
  have judged := judgeConflict_touches s.forgetEntries s.anyConflict
  exact silenceJudged_of (v := s.forgetEntries.judgeConflict s.anyConflict) (judged.station (by decide))
    (judged.role (by decide)) (judgeConflict_tells _ _ .peerSilent (by decide) nofun)
    ((forget_peers s).trans (judged.peers (by decide)).symm) (forget_follow_tells s .peerSilent (by decide) nofun)

theorem silentWorker_silent {e : Option Entry} (h : entrySilentWorker e = true) : entrySilent e = true := by
  unfold entrySilentWorker at h
  split at h
  · rfl
  · rfl
  · exact nomatch h

/-- After a forget no SILENT entry is left. -/
theorem forget_noSilent (s : State) : s.forget.anySilentWorker = false := by
  rw [Bool.eq_false_iff]
  intro any
  obtain ⟨a, silent⟩ := (Tab.any_iff _ _).mp any
  have silent := silentWorker_silent silent
  rw [forget_peers, forget_entry] at silent
  split at silent
  · exact nomatch silent
  next loud => exact loud silent

/-- PEER_SILENT over two changes of the table that only end silence. -/
theorem SilenceJudged.trans {s t u : State} (h : SilenceJudged s t) (k : SilenceJudged t u) (station : t.station = s.station)
    (role : t.role = s.role) (ends : t.anySilentWorker = true → s.anySilentWorker = true)
    (ends' : u.anySilentWorker = true → t.anySilentWorker = true) : SilenceJudged s u := by
  unfold SilenceJudged at *
  rw [k, h, station, isHelm_eq role, isProp_eq role]
  clear h k
  by_cases told : s.station.reporting = true ∧ (s.isHelm = true ∨ s.isProp = true)
  · simp only [told, true_and]
    revert ends ends'
    cases s.anySilentWorker <;> cases t.anySilentWorker <;> cases u.anySilentWorker <;> simp
  · have untold : ∀ p : Prop, ¬ (s.station.reporting = true ∧ (s.isHelm = true ∨ s.isProp = true) ∧ p) :=
      fun p h => told ⟨h.1, h.2.1⟩
    rw [if_neg (untold _), if_neg (untold _), if_neg (untold _)]

theorem ConflictJudged.before {s t u : State} (h : ConflictJudged t u) (peers : t.anyConflict = s.anyConflict)
    (has : t.has .addressConflict = s.has .addressConflict) (station : t.station = s.station) : ConflictJudged s u := by
  unfold ConflictJudged at *
  rw [h, peers, has, station]

end Sys2Proof.Machine
end

section
/-! SUPPORT. ROSTER (O13). -/

namespace Sys2Proof.Machine

-- As in Laws/Touches.lean: one theorem at a time.
set_option Elab.async false

theorem tabled_tabled (s : State) (dt : Micros) (f : Frame) : Tabled dt f s ((s.heard dt).tabled f) := by
  have peers := tabled_peers s dt f
  refine ⟨by rw [tabled_eq, (tableChanged_follows _ _).clock (by decide), noted_clock],
    by rw [peers]; exact Tab.get_set_self _ _ _, fun a n => by rw [peers]; exact Tab.get_set_ne _ _ n,
    by rw [peers], by rw [peers], ?_⟩
  refine silenceJudged_of (v := s.noted dt f) ((noted_touches s dt f).station (by decide))
    ((noted_touches s dt f).role (by decide)) (noted_has s dt f nofun nofun) (peers.trans (noted_peers s dt f).symm) ?_
  rw [tabled_eq]
  exact tableChanged_tells _ _ .peerSilent (by decide) nofun

theorem tabled_conflict_has (s : State) (dt : Micros) (f : Frame) :
    ((s.heard dt).tabled f).has .addressConflict = s.has .addressConflict := by
  rw [tabled_eq]
  exact (tableChanged_tells _ _ .addressConflict (by decide) nofun).trans
    ((judgeSilent_tells _ _ .addressConflict (by decide) nofun).trans (noted_has s dt f nofun nofun))

theorem entryHeard_loud (now : Clock) (role : Role) (start : Bool) (e : Option Entry) :
    entrySilent (entryHeard now role start e) = false := by
  cases e with
  | none =>
    show entrySilent (if _ then _ else _) = _
    split <;> rfl
  | some e =>
    show ((if e.liveness = .silent then Liveness.live else e.liveness) == .silent) = false
    split
    · rfl
    next loud => exact beq_eq_false_iff_ne.mpr loud

/-- A frame that carries no state ends silence and begins none. -/
theorem tabled_ends_silence {s : State} {dt : Micros} {f : Frame} (prop : payloadKind f.payload ≠ .propState)
    (strain : payloadKind f.payload ≠ .strain) (any : ((s.heard dt).tabled f).anySilentWorker = true) :
    s.anySilentWorker = true := by
  obtain ⟨a, silent⟩ := (Tab.any_iff _ _).mp any
  have table := tabled_tabled s dt f
  by_cases here : a = f.source
  · subst here
    rw [table.source, entryAfter_heard _ prop strain] at silent
    have loud := entryHeard_loud (s.later dt) f.role f.start (s.peers.entries.get f.source)
    rw [silentWorker_silent silent] at loud
    exact nomatch loud
  · exact (Tab.any_iff _ _).mpr ⟨a, by rw [← table.others a here]; exact silent⟩

theorem fromHolder_iff (s : State) (a : Addr) (e : Byte) : s.fromHolder a e = true ↔ s.demand.view = ⟨some a, e⟩ := by
  unfold State.fromHolder
  rw [Bool.and_eq_true_iff, beq_iff_eq, beq_iff_eq]
  exact ⟨fun h => congr (congrArg ConView.mk h.1) h.2, fun h => by rw [h]; exact ⟨rfl, rfl⟩⟩

theorem tabled_view (s : State) (dt : Micros) (f : Frame) (a : Addr) (e : Byte) :
    ((s.heard dt).tabled f).fromHolder a e = s.fromHolder a e := by
  unfold State.fromHolder
  rw [(tabled_touches s dt f).demand (by decide)]

theorem forget_idle {s : State} : s.forget.coup.supervised = s.coup.supervised ∧
    (s.coup.winch = .idle → s.forget.coup.winch = .idle) := by
  let w := s.forgotten.pruneLag.refreshStrain
  have unit : w.coup = s.coup := ((refreshStrain_touches _).coup (by decide)).trans
    (((pruneLag_touches _).coup (by decide)).trans ((forgotten_touches s).coup (by decide)))
  show w.judgeWinch.coup.supervised = _ ∧ (_ → w.judgeWinch.coup.winch = _)
  refine ⟨by rw [judgeWinch_only, unit], fun idle => ?_⟩
  rcases judgeWinch_winch w with h | h
  · exact h
  · rw [h, unit, idle]

/-- A ROSTER routed: from the viewed holder it makes the station forget. -/
theorem applied_roster (s : State) (dt : Micros) (h : RxHeader) (e : Byte) (r : Role) (c : Fin 4) :
    let f : Frame := ⟨h.start, h.source, r, c, .roster e⟩
    s.applied dt f = (if s.fromHolder h.source e then ((s.heard dt).tabled f).forget else (s.heard dt).tabled f).judgeWinch := by
  intro f
  rw [← tabled_view s dt f]
  rfl

/-- What a forget does to the entries, the conflicts and the items of the addresses. -/
theorem forget_drops {s : State} {a : Addr} (silent : entrySilent (s.peers.entries.get a) = true) :
    s.forget.peers.entries.get a = none ∧ s.forget.peers.conflicts.get a = none ∧
      (s.isHelm = true → (∀ i ∈ s.forget.view.items, i.station ≠ a) ∧ s.forget.view.part0.get a = none) := by
  rw [forget_peers, forget_entry, forget_conflict, silent]
  refine ⟨rfl, rfl, fun helm => ?_⟩
  rw [(forget_follows s).view (by decide)]
  refine forgetItems_drops ?_ ((silentAddresses_contains s a).trans silent)
  rw [← helm]
  exact isHelm_eq (((judgeSilent_touches _ _).role (by decide)).trans ((judgeConflict_touches _ _).role (by decide)))

theorem forget_keeps {s : State} {a : Addr} (loud : entrySilent (s.peers.entries.get a) = false) :
    s.forget.peers.entries.get a = s.peers.entries.get a ∧ s.forget.peers.conflicts.get a = s.peers.conflicts.get a := by
  rw [forget_peers, forget_entry, forget_conflict, loud]
  exact ⟨rfl, rfl⟩

/-- What a ROSTER applied leaves, whether or not the station then forgets. -/
structure Rostered (s x u : State) : Prop where
  touches : OnlyTouches forgotParts x u
  conflict : ConflictJudged s u
  silence : SilenceJudged s u
  supervised : u.coup.supervised = x.coup.supervised
  idle : x.coup.winch = .idle → u.coup.winch = .idle

theorem forget_rostered {s : State} {dt : Micros} {f : Frame} (prop : payloadKind f.payload ≠ .propState)
    (strain : payloadKind f.payload ≠ .strain) : Rostered s ((s.heard dt).tabled f) ((s.heard dt).tabled f).forget where
  touches := (forgotten_touches _).mono.trans (forget_follows _).mono
  conflict := ConflictJudged.before (forget_conflictJudged _) (by
      unfold State.anyConflict; rw [(tabled_tabled s dt f).conflicts]) (tabled_conflict_has s dt f)
    ((tabled_touches s dt f).station (by decide))
  silence := (tabled_tabled s dt f).silence.trans (forget_silenceJudged _) ((tabled_touches s dt f).station (by decide))
    ((tabled_touches s dt f).role (by decide)) (tabled_ends_silence prop strain) (by rw [forget_noSilent]; exact nofun)
  supervised := forget_idle.1
  idle := forget_idle.2

theorem tabled_rostered (s : State) (dt : Micros) (f : Frame) :
    Rostered s ((s.heard dt).tabled f) ((s.heard dt).tabled f) where
  touches := .refl _ _
  conflict := by
    unfold ConflictJudged
    rw [tabled_conflict_has, show ((s.heard dt).tabled f).anyConflict = s.anyConflict from by
      unfold State.anyConflict; rw [(tabled_tabled s dt f).conflicts], if_neg fun h => h.2 rfl]
  silence := (tabled_tabled s dt f).silence
  supervised := rfl
  idle := id

/-- Settles O13: only a ROSTER of the viewed holder makes the station forget, and its source is then not SILENT. -/
theorem rosterForgetsSilentEntries : Obligations.RosterForgetsSilentEntries := by
  intro s dt h epoch admits
  let f : Frame := ⟨h.start, h.source, .helm, 2, .roster epoch⟩
  let x := (s.heard dt).tabled f
  let u := if s.fromHolder h.source epoch then x.forget else x
  have frame : frameOf (.roster dt h epoch) = some (dt, f) := rfl
  have run : exec (.roster dt h epoch) s = .next u.judgeWinch := by
    rw [exec_applied frame rfl admits, applied_roster]
  have table : Tabled dt f s x := tabled_tabled s dt f
  have begun : OnlyTouches _ s x := tabled_touches s dt f
  have judged := judgeWinch_touches u
  have r : Rostered s x u := by
    show Rostered s x (if _ then _ else _)
    split
    · exact forget_rostered nofun nofun
    · exact tabled_rostered s dt f
  have touches : OnlyTouches [.clock, .present, .alerts, .link, .peers, .account, .view, .helm, .thrust, .gov, .outputs, .coup]
      s u.judgeWinch := begun.mono.trans (r.touches.mono.trans judged.mono)
  have peers : u.judgeWinch.peers = u.peers := judged.peers (by decide)
  have source : x.peers.entries.get h.source = entryHeard (s.later dt) .helm h.start (s.peers.entries.get h.source) :=
    table.source.trans (entryAfter_heard _ nofun nofun)
  have kept : ∀ a, entrySilent (x.peers.entries.get a) = false ∨ s.fromHolder h.source epoch = false →
      u.peers.entries.get a = x.peers.entries.get a ∧ u.peers.conflicts.get a = x.peers.conflicts.get a := by
    intro a keeps
    show (if _ then _ else _ : State).peers.entries.get a = _ ∧ (if _ then _ else _ : State).peers.conflicts.get a = _
    split
    next holder => exact forget_keeps (keeps.resolve_right (by rw [holder]; exact nofun))
    · exact ⟨rfl, rfl⟩
  refine ⟨u.judgeWinch, run, ?_, ?_, fun a e other stored silent holder => ?_,
    fun a other keeps => ?_, ?_, ?_, ?_, ?_, touches.demand (by decide), touches.start (by decide),
    touches.station (by decide), touches⟩
  · exact (judged.clock (by decide)).trans ((r.touches.clock (by decide)).trans table.clock)
  · rw [peers, (kept h.source (.inl (by rw [source]; exact entryHeard_loud _ _ _ _))).1, source]
  · have gone : u = x.forget := if_pos ((fromHolder_iff _ _ _).mpr holder)
    have silent : entrySilent (x.peers.entries.get a) = true := by
      rw [table.others a other, stored]
      exact beq_iff_eq.mpr silent
    obtain ⟨entry, conflict, view⟩ := forget_drops silent
    rw [peers, gone]
    refine ⟨entry, conflict, fun helm => ?_⟩
    rw [(judgeWinch_touches _).view (by decide)]
    exact view ((isHelm_eq (begun.role (by decide))).trans helm)
  · have := kept a (keeps.imp (fun loud => ?_) fun away => by
      rw [Bool.eq_false_iff]; exact fun k => away ((fromHolder_iff _ _ _).mp k))
    · rw [peers, this.1, this.2, table.others a other, table.conflicts]
      exact ⟨rfl, rfl⟩
    · rw [table.others a other]
      cases stored : s.peers.entries.get a with
      | none => rfl
      | some e => exact beq_eq_false_iff_ne.mpr (loud e stored)
  · have silence := r.conflict
    unfold ConflictJudged at silence ⊢
    rw [judged.has (by decide), anyConflict_eq peers]
    exact silence
  · have silence := r.silence
    unfold SilenceJudged at silence ⊢
    rw [judged.has (by decide), anySilentWorker_eq peers]
    exact silence
  · obtain ⟨_, image, _, e, chain, -⟩ := exec_runs (a := .whole) (.roster dt h epoch) s rfl nofun fun _ => rfl
    cases run.symm.trans e
    exact fun inv => chain.strainInv rfl (inv.same (t := s.loaded _ image))
  · obtain ⟨up, idle⟩ := tabled_unit s dt f
    refine exec_dwell (x := u) rfl run ((r.touches.role (by decide)).trans (begun.role (by decide)))
      (congrArg StartUnit.image ((r.touches.start (by decide)).trans (begun.start (by decide)))) fun _ _ _ supervised rests =>
      ⟨r.supervised.trans (up.trans supervised), r.idle (idle rests)⟩

end Sys2Proof.Machine
end

section
/-! SUPPORT. Frames that conflict with the table and frames of the own address (O11). -/

namespace Sys2Proof.Machine

-- As in Laws/Touches.lean: one theorem at a time.
set_option Elab.async false

/-! ## The end of a reception, as the transmitter and the list see it -/

/-- A change of the reports and the link that keeps what is being sent and the alert list well formed. -/
structure Sends (s t : State) : Prop where
  sending : ∀ hand, s.comms.link.tx = .sending hand → t.comms.link.tx = .sending hand
  quiet : isSending s.comms.link.tx = false → isSending t.comms.link.tx = false
  residue : t.comms.link.txResidue = s.comms.link.txResidue
  listed : AlertInv s → AlertInv t

theorem Sends.refl (s : State) : Sends s s := ⟨fun _ h => h, id, rfl, id⟩

theorem Ended.sends {c : AlertCode} {s t : State} (h : Ended c s t) : Sends s t := by
  unfold Ended at h
  split at h
  · obtain ⟨report, -, -, list⟩ := h
    obtain ⟨sending, quiet, residue⟩ := report.cut
    refine ⟨sending, quiet, residue, fun well => ?_⟩
    rw [alertInv_iff]
    rcases list with list | ⟨-, list⟩ <;> rw [list]
    · exact clearList_wellListed well c
    · exact raiseList_wellListed (clearList_wellListed well c) _
  · rw [h]; exact .refl s

theorem Raises.sends {c : AlertCode} {s t : State} (h : Raises c s t) : Sends s t := by
  obtain ⟨report, -, -, list⟩ := h
  obtain ⟨sending, quiet, residue⟩ := report.cut
  refine ⟨sending, quiet, residue, fun well => ?_⟩
  rw [alertInv_iff]
  rcases list with list | ⟨-, list⟩ <;> rw [list]
  · exact raiseList_wellListed well c
  · exact raiseList_wellListed (raiseList_wellListed well c) _

theorem heard_sends (s : State) (dt : Micros) : Sends s (s.heard dt) := by
  have h := heard_heard s dt
  unfold Heard at h
  dsimp only at h
  split at h
  · rw [h]; exact ⟨fun _ h => h, id, rfl, id⟩
  · split at h
    · obtain ⟨sending, quiet, residue, listed⟩ := h.sends
      exact ⟨sending, quiet, residue, listed⟩
    · rw [h]; exact ⟨fun _ h => h, id, rfl, id⟩

/-! ## A conflicting frame (R5) -/

theorem judgeConflict_eq (s : State) (was : Bool) :
    s.judgeConflict was = if s.station.reporting then s.followChange .addressConflict was s.anyConflict else s := by
  unfold State.judgeConflict State.followChange State.follow State.raiseNew State.clear
  split
  · split
    · rfl
    · split <;> rfl
  · rfl

/-- A recorded conflict: the condition comes with the first item. -/
theorem recordConflict_raises {s : State} (a : Addr) (reports : s.station.reporting = true) (first : s.anyConflict = false) :
    s.recordConflict a = State.raiseNew
      { s with peers := { s.peers with conflicts := s.peers.conflicts.set a (some s.clock) } } .addressConflict := by
  let u : State := { s with peers := { s.peers with conflicts := s.peers.conflicts.set a (some s.clock) } }
  have any : u.anyConflict = true := (Tab.any_iff _ _).mpr ⟨a, by rw [Tab.get_set_self]; rfl⟩
  show u.judgeConflict s.anyConflict = _
  rw [judgeConflict_eq, if_pos reports, any, first]
  rfl

theorem recordConflict_still {s : State} (a : Addr) (h : s.station.reporting = false ∨ s.anyConflict = true) :
    s.recordConflict a =
      { s with peers := { s.peers with conflicts := s.peers.conflicts.set a (some s.clock) } } := by
  let u : State := { s with peers := { s.peers with conflicts := s.peers.conflicts.set a (some s.clock) } }
  have any : u.anyConflict = true := (Tab.any_iff _ _).mpr ⟨a, by rw [Tab.get_set_self]; rfl⟩
  show u.judgeConflict s.anyConflict = u
  rw [judgeConflict_eq]
  split
  next reports =>
    have held : s.anyConflict = true := h.resolve_left (by rw [show s.station.reporting = true from reports]; nofun)
    rw [any, held]
    rfl
  · rfl

/-! ## Frames of the own address (R4, R161, R192) -/

theorem tableTakes_own {s : State} {f : Frame} (own : f.source = s.address) : s.tableTakes f = s.ownFrame := if_pos own

theorem ownFrame_echo {s : State} {hand : InHand} (sends : s.comms.link.tx = .sending hand) : s.ownFrame =
    { s with comms := { s.comms with link := { s.comms.link with tx := .sending { hand with echo := true } } } } := by
  unfold State.ownFrame
  rw [sends]
  rfl

theorem ownFrame_other {s : State} (quiet : isSending s.comms.link.tx = false) : s.ownFrame =
    s.whenever (s.station == .joining || s.station.acting) State.duplicateAddress := by
  unfold State.ownFrame
  rw [quiet]
  rfl

/-- An entry to LISTEN_ONLY leaves the table. -/
theorem duplicateAddress_narrow (s : State) : OnlyTouches
    [.clock, .station, .start, .present, .alerts, .link, .demand, .helm, .thrust, .gear, .gov, .steer, .coup, .meter,
      .account, .view, .outputs] s s.duplicateAddress := fun p n => by
  have touches := duplicateAddress_touches s
  by_cases peers : p = .peers
  · subst peers
    show s.duplicateAddress.peers = s.peers
    have left : s.duplicateAddress.peers = _ := (leaveService_leaves (s.raise .duplicateAddress) false).sweep
    rw [left]
    exact (raise_touches s .duplicateAddress).peers (by decide)
  · exact touches p (by cases p <;> first | exact absurd rfl peers | exact absurd (by decide) n | decide)

/-- A frame that conflicts with its source's entry goes to no unit. -/
theorem tableTakes_conflict {s : State} {f : Frame} {e : Entry} (other : f.source ≠ s.address)
    (stored : s.peers.entries.get f.source = some e) (differs : bodyRole e.body ≠ f.role) :
    s.tableTakes f = s.recordConflict f.source := by
  have conflicts : s.conflicts f = true := by
    unfold State.conflicts
    rw [stored]
    exact bne_iff_ne.mpr differs
  unfold State.tableTakes
  rw [if_neg other, if_pos conflicts]

/-- A second station on the own address: DUPLICATE_ADDRESS and LISTEN_ONLY. -/
theorem duplicateAddress_leaves (s : State) (quiet : isSending s.comms.link.tx = false) :
    let t := s.duplicateAddress
    t.station = .listenOnly ∧ t.has .duplicateAddress = true ∧
    (AlertInv s → t.trip = true) ∧ t.start = { s.start with joinTimer := none, watch := none } ∧
    t.comms.link.queue = [] ∧ t.comms.link.tx = .idle ∧ t.comms.link.txResidue = s.comms.link.txResidue ∧
    t.comms.alerts.repeatTimer = none ∧ t.helm.con = .standingBy ∧ t.helm.interval = none ∧
    t.helm.requestTimer = none ∧ t.demand.view = s.demand.view ∧ t.thrust = s.thrustLeave ∧ t.gear = s.gear.leave ∧
    t.steer = s.steer.leave ∧ t.coup = s.coup.leave ∧ ∀ i, (t.outputs.outs.get i).Closed := by
  intro t
  let m := s.raise .duplicateAddress
  have report : OnlyTouches commsParts s m := raise_touches s _
  have left : Leaves false m t := leaveService_leaves m false
  have sent := (raise_raises s .duplicateAddress).sends
  obtain ⟨con, interval, requestTimer⟩ := left.con
  refine ⟨left.station, (left.has .duplicateAddress nofun nofun).trans (raise_has_self s _),
    fun listed => trip_of_lists rfl (left.unack .duplicateAddress nofun (raise_lists_unack listed rfl)), ?_, ?_, ?_, ?_,
    left.repeats, con, interval, requestTimer, ?_, left.thrust, ?_, ?_, ?_, left.outputs⟩
  · rw [left.start, report.start (by decide)]
  · rw [left.link]; rfl
  · rw [left.link]; rfl
  · rw [left.link]
    exact (cutResidue_other _ (sent.quiet quiet)).trans sent.residue
  · rw [left.view, report.demand (by decide)]
  · rw [left.gear, report.gear (by decide)]
  · rw [left.steer, report.steer (by decide)]
  · rw [left.coup, report.coup (by decide)]

theorem acts_of_taking {st : StationState} (taking : st.taking = true) (n : st ≠ .listenOnly) :
    (st == .joining || st.acting) = true := by
  cases st <;> first | rfl | exact absurd rfl n | exact nomatch taking

theorem listens_only {st : StationState} (h : st = .listenOnly) :
    (st == .joining || st.acting) = false := by
  rw [h]
  rfl

/-- Settles O11: the frame kind plays no part. -/
theorem conflictingAndOwnFrames : Obligations.ConflictingAndOwnFrames := by
  intro c dt f s h ok receives taking
  let v := s.heard dt
  have heard : OnlyTouches [.clock, .present, .alerts, .link] s v := heard_touches s dt
  have sends : Sends s v := heard_sends s dt
  have clock : v.clock = s.later dt := heard_clock s dt
  have station : v.station = s.station := heard.station (by decide)
  have address : v.address = s.address := heard.address (by decide)
  have peers : v.peers = s.peers := heard.peers (by decide)
  refine ⟨v, v.tableTakes f, heard_heard s dt, exec_taken h ok receives taking, fun e other stored differs => ?_,
    fun hand own sending => ?_, fun own quiet listens => ?_, fun own quiet serves => ?_⟩
  · let u : State := { v with peers := { s.peers with
      conflicts := s.peers.conflicts.set f.source (some (s.later dt)) } }
    show (_ → _ → Raised .addressConflict u (v.tableTakes f)) ∧ (_ → v.tableTakes f = u)
    have eq : v.tableTakes f = v.recordConflict f.source :=
      tableTakes_conflict (by rw [address]; exact other) (by rw [peers]; exact stored) differs
    have recorded : ({ v with peers := { v.peers with conflicts := v.peers.conflicts.set f.source (some v.clock) } } : State) = u :=
      congrArg (fun p : PeerTable => ({ v with peers := p } : State)) (by rw [peers, clock])
    have any : v.anyConflict = s.anyConflict := anyConflict_eq peers
    rw [eq]
    constructor
    · intro reports first
      rw [recordConflict_raises _ (by rw [station]; exact reports) (any.trans first), recorded]
      exact raiseNew_raised u _
    · intro still
      rw [recordConflict_still, recorded]
      rw [station, any]
      exact still.imp (fun joining => by rw [joining]; rfl) id
  · rw [tableTakes_own (own.trans address.symm)]
    exact ownFrame_echo (sends.sending hand sending)
  · rw [tableTakes_own (own.trans address.symm), ownFrame_other (sends.quiet quiet), station]
    exact whenever_neg (listens_only listens)
  · have eq : v.tableTakes f = v.duplicateAddress := by
      rw [tableTakes_own (own.trans address.symm), ownFrame_other (sends.quiet quiet), station]
      exact whenever_pos (acts_of_taking taking serves)
    have narrow := duplicateAddress_narrow v
    obtain ⟨left, has, trip, start, queue, tx, residue, repeats, con, interval, timer, view, thrust, gear, steer, coup, closed⟩ :=
      duplicateAddress_leaves v (sends.quiet quiet)
    rw [eq]
    refine ⟨((duplicateAddress_touches v).clock (by decide)).trans clock, left, has, fun inv => trip (sends.listed inv),
      by rw [start, heard.start (by decide)], queue, tx, residue.trans sends.residue, repeats, con, interval, timer,
      by rw [view, heard.demand (by decide)], by rw [thrust]; rfl, by rw [thrust]; rfl, by rw [thrust]; rfl, by rw [gear]; rfl,
      by rw [gear, heard.gear (by decide)]; rfl, by rw [steer]; rfl, by rw [coup]; rfl, by rw [coup]; rfl, closed,
      heard.mono.trans narrow⟩

end Sys2Proof.Machine
end

section
/-! SUPPORT. The candidates for the con view and what follows from a moved view (O15). -/

namespace Sys2Proof.Machine

-- As in Laws/Touches.lean: one theorem at a time.
set_option Elab.async false

/-! ## A candidate offered (R17, R18, R31, R32, R130) -/

/-- The view moved to a candidate. -/
def State.viewing (s : State) (h : Addr) (e : Byte) : State :=
  { s with demand := { s.demand with view := { holder := some h, epoch := e } } }

theorem offerView_other {s : State} {h : Addr} {e : Byte} (p : preferred s.demand.view h e = true) (helm : s.isHelm = false) :
    s.offerView h e = s.viewing h e :=
  (if_pos p).trans (whenever_neg (s := s.viewing h e) helm)

theorem offerView_helm {s : State} {h : Addr} {e : Byte} (p : preferred s.demand.view h e = true) (helm : s.isHelm = true) :
    s.offerView h e = ((s.viewing h e).setHolderLow none).conAfterView h :=
  (if_pos p).trans (whenever_pos (s := s.viewing h e) (f := fun t => (t.setHolderLow none).conAfterView h) helm)

theorem leaveHolding_eq (s : State) : s.leaveHolding = State.clear { s with
    helm := s.helm.released, demand := s.freshRecord s.demand.record.demand s.demand.record.number true,
    view := s.view.unrequest } .stationLag := rfl

theorem leaveHolding_parts (s : State) : s.leaveHolding.helm = s.helm.released ∧ s.leaveHolding.view = s.view.unrequest ∧
    s.leaveHolding.demand = s.freshRecord s.demand.record.demand s.demand.record.number true := by
  have touches := clear_touches { s with
    helm := s.helm.released, demand := s.freshRecord s.demand.record.demand s.demand.record.number true,
    view := s.view.unrequest } .stationLag
  rw [leaveHolding_eq]
  exact ⟨touches.helm (by decide), touches.view (by decide), touches.demand (by decide)⟩

theorem conAfterView_yields {s : State} {h : Addr} (con : s.helm.con = .holding) (n : h ≠ s.address) :
    s.conAfterView h = s.leaveHolding.whenever s.leaveHolding.station.helmReporting (fun t => t.raiseNew .conLost) := by
  unfold State.conAfterView
  rw [con]
  exact if_neg n

theorem conAfterView_ends {s : State} {h : Addr} (con : s.helm.con = .requesting) (n : h ≠ s.address)
    (other : s.helm.requestedOf ≠ some h) : s.conAfterView h = { s with helm := s.helm.endRequest } := by
  unfold State.conAfterView
  rw [con]
  exact if_neg (not_or.mpr ⟨n, other⟩)

theorem conAfterView_stands {s : State} {h : Addr} (con : s.helm.con = .standingBy) : s.conAfterView h = s := by
  unfold State.conAfterView
  rw [con]

theorem conAfterView_own {s : State} {h : Addr} (own : h = s.address) : s.conAfterView h = s := by
  unfold State.conAfterView
  split
  · exact if_pos own
  · exact if_pos (.inl own)
  · rfl

theorem setHolderLow_parts (s : State) (l : Option (Tab 4 Bool)) : (s.setHolderLow l).account.holderLow = l := by
  have h : (s.setHolderLow l).account = { s.account with holderLow := l } := (judgeTankLow_touches _).account (by decide)
  rw [h]

/-! ## What a candidate leaves -/

/-- What a candidate does to the view, the con and the holder flags, whatever its frame does besides. -/
structure Offers (target : Addr) (epoch : Byte) (s r : State) : Prop where
  view : r.demand.view = if preferred s.demand.view target epoch then ⟨some target, epoch⟩ else s.demand.view
  yields : preferred s.demand.view target epoch = true → target ≠ s.address → s.isHelm = true → s.helm.con = .holding →
    r.helm = s.helm.released ∧ r.view = s.view.unrequest ∧ (s.station.helmReporting = true → r.has .conLost = true)
  ends : preferred s.demand.view target epoch = true → target ≠ s.address → s.isHelm = true → s.helm.con = .requesting →
    s.helm.requestedOf ≠ some target → r.helm = s.helm.endRequest
  stands : preferred s.demand.view target epoch = false → r.helm = s.helm
  flags : preferred s.demand.view target epoch = true → s.isHelm = true → r.account.holderLow = none

theorem offerView_offers (s : State) (target : Addr) (epoch : Byte) : Offers target epoch s (s.offerView target epoch) := by
  cases p : preferred s.demand.view target epoch with
  | false =>
    rw [offerView_of_not_preferred p]
    exact ⟨by rw [p]; rfl, by rw [p]; nofun, by rw [p]; nofun, fun _ => rfl, by rw [p]; nofun⟩
  | true =>
    cases helm : s.isHelm with
    | false =>
      rw [offerView_other p helm]
      exact ⟨by rw [p]; rfl, by rw [helm]; nofun, by rw [helm]; nofun, by rw [p]; nofun, by rw [helm]; nofun⟩
    | true =>
      let u := (s.viewing target epoch).setHolderLow none
      have touches : OnlyTouches _ (s.viewing target epoch) u := setHolderLow_touches _ _
      have unit : u.helm = s.helm := touches.helm (by decide)
      have address : u.address = s.address := touches.address (by decide)
      rw [offerView_helm p helm]
      refine ⟨?_, fun _ other _ con => ?_, fun _ other _ con away => ?_, by rw [p]; nofun, fun _ _ => ?_⟩
      · rw [p]
        exact Eq.trans (conAfterView_keepsView u target) (congrArg DemandUnit.view (touches.demand (by decide)))
      · have yielded := conAfterView_yields (s := u) (by rw [unit]; exact con) (by rw [address]; exact other)
        obtain ⟨released, view, -⟩ := leaveHolding_parts u
        have raised := whenever_touches (f := fun t => t.raiseNew .conLost) u.leaveHolding u.leaveHolding.station.helmReporting
          (raiseNew_touches u.leaveHolding .conLost)
        rw [yielded, raised.helm (by decide), raised.view (by decide), released, view, unit]
        refine ⟨rfl, congrArg ViewUnit.unrequest (touches.view (by decide)), fun reports => ?_⟩
        have station : u.leaveHolding.station = s.station :=
          ((leaveHolding_touches u).station (by decide)).trans (touches.station (by decide))
        rw [whenever_pos (by rw [station]; exact reports)]
        exact raiseNew_has_self _ _
      · rw [conAfterView_ends (s := u) (by rw [unit]; exact con) (by rw [address]; exact other) (by rw [unit]; exact away)]
        exact congrArg HelmUnit.endRequest unit
      · exact (congrArg AccountUnit.holderLow ((conAfterView_touches u target).account (by decide))).trans
          (setHolderLow_parts _ _)

/-- What follows a candidate leaves the view, the con and the holder flags. -/
theorem Offers.followed {target : Addr} {epoch : Byte} {s r u : State} (h : Offers target epoch s r)
    (view : u.demand.view = r.demand.view) (helm : u.helm = r.helm) (items : u.view = r.view)
    (lost : u.has .conLost = r.has .conLost) (account : u.account = r.account) : Offers target epoch s u where
  view := view.trans h.view
  yields p n k c := by rw [helm, items, lost]; exact h.yields p n k c
  ends p n k c o := helm.trans (h.ends p n k c o)
  stands p := helm.trans (h.stands p)
  flags p k := by rw [account]; exact h.flags p k

theorem routeDemand_offers (s : State) (a : Addr) (p : DemandFields) : Offers a p.epoch s (s.routeDemand a p) := by
  let u := s.offerView a p.epoch
  let accepts := u.demand.view.holder == some a
  have touches : OnlyTouches standParts u (u.whenever accepts (fun t => t.acceptDemand p)) :=
    whenever_touches (f := fun t => t.acceptDemand p) u _ (acceptDemand_touches u p)
  have told : Tells [.demandLost, .engineNotReady] u (u.whenever accepts (fun t => t.acceptDemand p)) :=
    .whenever (f := fun t => t.acceptDemand p) u _ (acceptDemand_tells u p)
  exact (offerView_offers s a p.epoch).followed (KeepsView.whenever (f := fun t => t.acceptDemand p) u _ (acceptDemand_keepsView u p))
    (touches.helm (by decide)) (touches.view (by decide)) (told .conLost (by decide) nofun) (touches.account (by decide))

/-! ## The entry to HOLDING (R26, R27, R34, R35, R130) -/

/-- The con taken up, before the reports that the entry to HOLDING makes. -/
def State.tookUp (s : State) : State :=
  let t := s.takeLive (s.demand.record.number + 1)
  { t with helm := { t.helm with
    con := .holding, requestTimer := none, requestedOf := none,
    interval := startTimer t.clock (ms (t.param Param.demandInterval)),
    switchPending := false, standbyQueued := false } }

/-- The reports of the entry, up to the standby switch. -/
def State.reportedUp (s : State) : State :=
  (((s.tookUp.foundDemand.clear .conLost).setHolderLow none).offer .demand 1).lagAll

theorem enterHolding_eq (s : State) : s.enterHolding = s.reportedUp.whenever (s.reportedUp.line 2) State.switchOn := rfl

theorem switchOn_touches_helm (s : State) : OnlyTouches (.helm :: commsParts) s s.switchOn := switchOn_touches s

theorem switchOn_helm (s : State) : s.switchOn.helm = { s.helm with
    switchPending := s.switchOn.helm.switchPending, standbyQueued := s.switchOn.helm.standbyQueued } := by
  unfold State.switchOn State.queueStandby
  split
  · rw [(offerWith_touches _ _ _).helm (by decide)]
  · rfl

/-- What an entry to HOLDING leaves. -/
structure TakesUp (s t : State) : Prop where
  touches : OnlyTouches (.helm :: .demand :: .account :: commsParts) s t
  demand : t.demand = s.freshRecord s.helm.live (s.demand.record.number + 1) false
  con : t.helm.con = .holding
  request : t.helm.requestTimer = none ∧ t.helm.requestedOf = none
  current : t.helm.current = s.helm.live ∧ t.helm.number = s.demand.record.number + 1
  interval : t.helm.interval = startTimer s.clock (ms (s.param Param.demandInterval))
  flags : t.account.holderLow = none
  kept : t.has .conLost = false
  found : s.station.reporting = true → t.has .demandLost = false

theorem reportedUp_takes (s : State) : TakesUp s s.reportedUp := by
  let u := s.tookUp
  let m := u.foundDemand
  let n := m.clear .conLost
  let v := n.setHolderLow none
  let w := v.offer .demand 1
  have found : OnlyTouches commsParts u m := foundDemand_touches u
  have cleared : OnlyTouches commsParts m n := clear_touches m _
  have flagged : OnlyTouches (.account :: commsParts) n v := setHolderLow_touches n _
  have offered : OnlyTouches commsParts v w := offer_touches v _ _
  have lagged : OnlyTouches (.helm :: commsParts) w s.reportedUp := lagAll_touches w
  have before : OnlyTouches (.account :: commsParts) u w :=
    found.mono.trans (cleared.mono.trans (flagged.trans offered.mono))
  have after := before.mono.trans lagged.mono (ps := .helm :: .account :: commsParts)
  have unit : s.reportedUp.helm = { u.helm with lag := s.reportedUp.helm.lag } := by
    have lags : s.reportedUp.helm = { w.helm with lag := s.reportedUp.helm.lag } := by
      unfold State.reportedUp State.lagAll
      rw [(judgeLagEnd_touches _).helm (by decide)]
    rw [lags, before.helm (by decide)]
  refine ⟨(takeLive_touches s _).mono.trans ((helm_touches _ _).mono.trans after.mono), after.demand (by decide),
    by rw [unit]; rfl, by rw [unit]; exact ⟨rfl, rfl⟩, by rw [unit]; exact ⟨rfl, rfl⟩, by rw [unit]; rfl, ?_, ?_, fun reports => ?_⟩
  · rw [lagged.account (by decide), offered.account (by decide)]
    exact setHolderLow_parts n none
  · rw [show s.reportedUp = w.lagAll from rfl, lagAll_tells w .conLost (by decide) nofun, offer_tells (cs := []) v _ _ .conLost (by decide) nofun,
      setHolderLow_tells n _ .conLost (by decide) nofun]
    exact clear_has_self m nofun
  · have clears : m = u.clear .demandLost := whenever_pos (s := u) reports
    rw [show s.reportedUp = w.lagAll from rfl, lagAll_tells w .demandLost (by decide) nofun, offer_tells (cs := []) v _ _ .demandLost (by decide) nofun,
      setHolderLow_tells n _ .demandLost (by decide) nofun, clear_tells m _ .demandLost (by decide) nofun, clears]
    exact clear_has_self u nofun

theorem TakesUp.switched {s t : State} (h : TakesUp s t) : TakesUp s t.switchOn := by
  have touches := switchOn_touches_helm t
  have unit := switchOn_helm t
  have told (c : AlertCode) (nt : c ≠ .txLoss) : t.switchOn.has c = t.has c := switchOn_tells (cs := []) t c (by simp) nt
  refine ⟨h.touches.trans touches.mono, (touches.demand (by decide)).trans h.demand, ?_, ?_, ?_, ?_, ?_, ?_, fun r => ?_⟩
  · rw [unit]; exact h.con
  · rw [unit]; exact h.request
  · rw [unit]; exact h.current
  · rw [unit]; exact h.interval
  · rw [touches.account (by decide)]; exact h.flags
  · rw [told .conLost nofun]; exact h.kept
  · rw [told .demandLost nofun]; exact h.found r

theorem enterHolding_takes (s : State) : TakesUp s s.enterHolding := by
  rw [enterHolding_eq]
  unfold State.whenever
  split
  · exact (reportedUp_takes s).switched
  · exact reportedUp_takes s

theorem routeGrant_offers (s : State) (p : ConFields) : Offers p.target p.epoch s (s.routeGrant p) := by
  let u := s.offerView p.target p.epoch
  have offers := offerView_offers s p.target p.epoch
  unfold State.routeGrant State.whenever
  split
  next takes =>
    simp only [Bool.and_eq_true, beq_iff_eq] at takes
    obtain ⟨⟨⟨⟨-, own⟩, preferred⟩, -⟩, -⟩ := takes
    exact ⟨Eq.trans (enterHolding_keepsView u) offers.view, fun _ other => absurd own other, fun _ other => absurd own other,
      fun n => (nomatch preferred.symm.trans n), fun _ _ => (enterHolding_takes u).flags⟩
  · exact offers

end Sys2Proof.Machine
end

section
/-! SUPPORT. The con's frames: DEMAND, TAKE, GRANT and DECLINE (O15, O18). -/

namespace Sys2Proof.Machine

-- As in Laws/Touches.lean: one theorem at a time.
set_option Elab.async false

theorem tabled_helm_lag (s : State) (dt : Micros) (f : Frame) :
    ((s.heard dt).tabled f).helm = { s.helm with lag := ((s.heard dt).tabled f).helm.lag } := by
  by_cases holds : s.isHelm = true ∧ s.helm.con = .holding
  · exact (tabled_lags dt f holds.1 holds.2).1
  · have other : s.isHelm = false ∨ s.helm.con ≠ .holding := by
      rw [not_and_or, Bool.not_eq_true] at holds
      exact holds
    rw [tabled_helm dt f other]

/-- What the routing of a frame that offers a candidate reads of the station. -/
theorem tabled_demand (s : State) (dt : Micros) (f : Frame) : ((s.heard dt).tabled f).demand = s.demand :=
  (tabled_touches s dt f).demand (by decide)

theorem tabled_address (s : State) (dt : Micros) (f : Frame) : ((s.heard dt).tabled f).address = s.address :=
  (tabled_touches s dt f).address (by decide)

theorem tabled_station (s : State) (dt : Micros) (f : Frame) : ((s.heard dt).tabled f).station = s.station :=
  (tabled_touches s dt f).station (by decide)

theorem tabled_start (s : State) (dt : Micros) (f : Frame) : ((s.heard dt).tabled f).start = s.start :=
  (tabled_touches s dt f).start (by decide)

theorem tabled_isHelm (s : State) (dt : Micros) (f : Frame) : ((s.heard dt).tabled f).isHelm = s.isHelm :=
  isHelm_eq ((tabled_touches s dt f).role (by decide))

theorem tabled_con (s : State) (dt : Micros) (f : Frame) : ((s.heard dt).tabled f).helm.con = s.helm.con := by
  rw [tabled_helm_lag]

/-- What is left of a unit's routed frame once the winch has been judged. -/
theorem applied_judged (s : State) (dt : Micros) (f : Frame) :
    OnlyTouches [.coup] (((s.heard dt).tabled f).route f) (s.applied dt f) := judgeWinch_touches _

theorem unrequest_requested (v : ViewUnit) : ∀ i ∈ v.unrequest.items, i.requested = false := by
  intro i m
  obtain ⟨j, -, rfl⟩ := List.mem_map.mp m
  rfl

/-- Settles O15: what follows a candidate in its frame leaves the con. -/
theorem candidatesMoveTheView : Obligations.CandidatesMoveTheView := by
  intro s dt h c target epoch carries admits
  obtain ⟨f, frame, source, role, ok, offers, take⟩ : ∃ f, frameOf c = some (dt, f) ∧ f.source = h.source ∧ f.role = .helm ∧
      payloadOk f.payload = true ∧ (∀ x : State, Offers target epoch x (x.route f)) ∧
      ((∃ p, c = .conTake dt h p) → ∀ x : State, x.route f = x.offerView target epoch) := by
    rcases carries with ⟨p, rfl, rfl, rfl⟩ | ⟨p, rfl, rfl, rfl⟩ | ⟨p, rfl, rfl, rfl⟩
    · exact ⟨_, rfl, rfl, rfl, rfl, fun x => routeDemand_offers x _ p, fun ⟨_, e⟩ => nomatch e⟩
    · exact ⟨_, rfl, rfl, rfl, rfl, fun x => offerView_offers x _ _, fun _ _ => rfl⟩
    · exact ⟨_, rfl, rfl, rfl, rfl, fun x => routeGrant_offers x p, fun ⟨_, e⟩ => nomatch e⟩
  let x := (s.heard dt).tabled f
  let r := x.route f
  have judged : OnlyTouches [.coup] r (s.applied dt f) := applied_judged s dt f
  have unit : x.helm = { s.helm with lag := x.helm.lag } := tabled_helm_lag s dt f
  have helmed : x.isHelm = s.isHelm := tabled_isHelm s dt f
  obtain ⟨view, yields, ends, stands, flags⟩ := offers x
  rw [tabled_demand] at view yields ends stands flags
  rw [tabled_address, helmed, tabled_con] at yields ends
  rw [helmed] at flags
  refine ⟨s.applied dt f, exec_applied frame ok (by rw [source, role]; exact admits), applied_clock s dt f, ?_,
    fun p other helm con => ?_, fun p other helm con away => ?_, fun p => ?_, fun p helm => ?_, fun taken => ⟨fun p => ?_, ?_, ?_⟩⟩
  · rw [judged.demand (by decide)]; exact view
  · obtain ⟨released, items, lost⟩ := yields p other helm con
    rw [judged.helm (by decide), released, judged.view (by decide), items]
    refine ⟨rfl, rfl, rfl, fun a => Tab.get_all _ a, unrequest_requested _, fun reports => ?_⟩
    rw [judged.has (by decide)]
    exact lost (by rw [tabled_station]; exact reports)
  · rw [judged.helm (by decide), ends p other helm con (by rw [unit]; exact away)]
    exact ⟨rfl, rfl⟩
  · rw [judged.helm (by decide), stands p]
    exact tabled_con s dt f
  · rw [judged.account (by decide)]; exact flags p helm
  · rw [judged.demand (by decide), show r = _ from take taken x, offerView_of_not_preferred (by rw [tabled_demand]; exact p)]
    exact tabled_demand s dt f
  · rw [judged.start (by decide), show r = _ from take taken x, (offerView_touches x _ _).start (by decide)]
    exact tabled_start s dt f
  · have routed : OnlyTouches conParts x r := by
      rw [show r = _ from take taken x]
      exact offerView_touches x _ _
    exact (tabled_touches s dt f).mono.trans (routed.mono.trans judged.mono)

/-! ## The places of the queue (R162) -/

theorem clear_room {s : State} (c : AlertCode) (free : s.load ≤ 7) : (s.clear c).load ≤ s.load := (clear_loaded c free).load

theorem judgeLagEnd_loaded {s : State} (free : s.load ≤ 7) : Loaded s s.judgeLagEnd := by
  unfold State.judgeLagEnd State.whenever
  split
  · exact clear_loaded _ free
  · exact .refl s

theorem judgeTankLow_loaded {s : State} (free : s.load ≤ 7) : Loaded s s.judgeTankLow := by
  unfold State.judgeTankLow State.whenever
  split
  · exact follow_loaded _ _ free
  · exact .refl s

theorem foundDemand_loaded {s : State} (free : s.load ≤ 7) : Loaded s s.foundDemand := by
  unfold State.foundDemand State.whenever
  split
  · exact clear_loaded _ free
  · exact .refl s

theorem setHolderLow_loaded {s : State} (l : Option (Tab 4 Bool)) (free : s.load ≤ 7) : Loaded s (s.setHolderLow l) :=
  .trans (t := { s with account := { s.account with holderLow := l } }) (.of_comms rfl) (judgeTankLow_loaded free)

theorem lagAll_loaded {s : State} (free : s.load ≤ 7) : Loaded s s.lagAll :=
  .trans (t := { s with helm := { s.helm with lag := zipTab (lagOf s.clock s.helm.number) s.peers.entries s.helm.lag } })
    (.of_comms rfl) (judgeLagEnd_loaded free)

theorem pruneLag_loaded {s : State} (free : s.load ≤ 7) : Loaded s s.pruneLag := by
  unfold State.pruneLag State.whenever
  split
  · exact .trans (t := { s with helm := { s.helm with lag := zipTab lagKept s.peers.entries s.helm.lag } }) (.of_comms rfl)
      (judgeLagEnd_loaded free)
  · exact .refl s

theorem judgeSilent_loaded {s : State} (was : Bool) (free : s.load ≤ 7) : Loaded s (s.judgeSilent was) := by
  unfold State.judgeSilent
  split
  · unfold State.followChange
    split
    · exact .refl s
    · exact (follow_loaded _ _ free).trans (.of_comms rfl)
  · exact .refl s

theorem OnlyTouches.loaded {ps : List Part} {s t : State} (h : OnlyTouches ps s t) (n : Part.link ∉ ps := by decide) :
    Loaded s t := by
  have link : t.comms.link = s.comms.link := h.link n
  have waits : t.waits = s.waits := by unfold State.waits; rw [link]
  exact ⟨by unfold State.load; rw [waits, link], fun k h => by rw [waits]; exact h⟩

theorem tableChanged_loaded {s : State} (was : Bool) (free : s.load ≤ 7) : Loaded s (s.tableChanged was) := by
  have silent := judgeSilent_loaded was free
  have pruned := pruneLag_loaded (silent.load.trans free)
  exact silent.trans (pruned.trans ((refreshStrain_touches _).loaded.trans (judgeWinch_touches _).loaded))

theorem heard_loaded {s : State} (dt : Micros) (free : s.load ≤ 7) : Loaded s (s.heard dt) := by
  have begun : Loaded s ((s.advance dt).endReception 0) := ⟨le_rfl, fun _ => id⟩
  refine begun.trans ?_
  unfold State.heard State.noteReception
  split
  · exact ⟨le_rfl, fun _ => id⟩
  · unfold State.whenever
    split
    · exact follow_loaded _ _ (begun.load.trans free)
    · exact .refl _

/-- A frame up to its routing leaves the queue its places. -/
theorem tabled_loaded {s : State} (dt : Micros) (f : Frame) (free : s.load ≤ 7) : Loaded s ((s.heard dt).tabled f) := by
  have heard := heard_loaded dt free
  have written := heard.trans (written_touches (s.heard dt) f).loaded
  rw [tabled_eq]
  exact written.trans (tableChanged_loaded _ (written.load.trans free))

theorem enterHolding_waits {s : State} (act : s.station.acting = true) (room : s.load ≤ 6) :
    s.enterHolding.waits .demand = true := by
  let u := s.tookUp
  let m := u.foundDemand
  let n := m.clear .conLost
  let v := n.setHolderLow none
  let w := v.offer .demand 1
  have found : Loaded u m := foundDemand_loaded (room.trans (by decide))
  have cleared : Loaded m n := clear_loaded _ (found.load.trans (room.trans (by decide)))
  have flagged : Loaded n v := setHolderLow_loaded _ (cleared.load.trans (found.load.trans (room.trans (by decide))))
  have begun : v.load ≤ 6 := (found.trans (cleared.trans flagged)).load.trans room
  have acts : v.station.acting = true := by
    have touches : OnlyTouches (.account :: commsParts) u v :=
      (foundDemand_touches u).mono.trans ((clear_touches m _).mono.trans (setHolderLow_touches n _))
    rw [touches.station (by decide)]
    exact act
  obtain ⟨load, waits, -⟩ := offer_loaded .demand 1 acts (begun.trans (by decide))
  have lagged : Loaded w s.reportedUp := lagAll_loaded (load.trans (Nat.succ_le_succ begun))
  have standing := lagged.waits .demand waits
  rw [enterHolding_eq]
  unfold State.whenever State.switchOn
  split
  · split
    · let z : State := { s.reportedUp with helm := { s.reportedUp.helm with switchPending := false, standbyQueued := true } }
      have acts' : z.station.acting = true := by
        rw [show z.station = s.station from (reportedUp_takes s).touches.station (by decide)]
        exact act
      exact (offerWith_loaded (s := z) 1 (.standby z.demand.view.epoch) acts'
        (lagged.load.trans (load.trans (Nat.succ_le_succ begun)))).2.2 .demand standing
    · exact standing
  · exact standing

end Sys2Proof.Machine
end

section
/-! SUPPORT. GRANT, DECLINE and REQUEST (O17, O18). -/

namespace Sys2Proof.Machine

-- As in Laws/Touches.lean: one theorem at a time.
set_option Elab.async false

/-! ## GRANT and DECLINE (R18, R26, R31, R32) -/

/-- An own candidate moves the view and makes the holder flags none. -/
theorem offerView_own {s : State} {e : Byte} (p : preferred s.demand.view s.address e = true) (helm : s.isHelm = true) :
    s.offerView s.address e = (s.viewing s.address e).setHolderLow none := by
  rw [offerView_helm p helm]
  exact conAfterView_own ((setHolderLow_touches (s.viewing s.address e) none).address (by decide)).symm

/-- What an own candidate leaves that an entry to HOLDING reads. -/
theorem offerView_own_parts {s : State} {e : Byte} (p : preferred s.demand.view s.address e = true) (helm : s.isHelm = true) :
    let u := s.offerView s.address e
    u.helm = s.helm ∧ u.demand = { s.demand with view := ⟨some s.address, e⟩ } ∧ u.clock = s.clock ∧ u.start = s.start ∧
      u.station = s.station ∧ (s.load ≤ 7 → u.load ≤ s.load) := by
  intro u
  have touches := setHolderLow_touches (s.viewing s.address e) none
  rw [show u = _ from offerView_own p helm]
  exact ⟨touches.helm (by decide), touches.demand (by decide), touches.clock (by decide), touches.start (by decide),
    touches.station (by decide), fun free => (setHolderLow_loaded (s := s.viewing s.address e) none free).load⟩

theorem tabled_helm_same {s : State} (dt : Micros) (f : Frame) (n : s.helm.con ≠ .holding) :
    ((s.heard dt).tabled f).helm = s.helm := tabled_helm dt f (.inr n)

theorem tabled_clock (s : State) (dt : Micros) (f : Frame) : ((s.heard dt).tabled f).clock = s.later dt :=
  (tabled_tabled s dt f).clock

theorem conFrame_touches {s : State} {dt : Micros} {f : Frame}
    (routed : OnlyTouches conParts ((s.heard dt).tabled f) (((s.heard dt).tabled f).route f)) : OnlyTouches
      [.clock, .present, .alerts, .link, .peers, .account, .view, .demand, .helm, .thrust, .gov, .outputs, .coup] s
      (s.applied dt f) :=
  (tabled_touches s dt f).mono.trans (routed.mono.trans (applied_judged s dt f).mono)

theorem conGrant_leaves (s : State) (dt : Micros) (h : RxHeader) (p : ConFields) (admits : s.Admits h.source .helm) :
    ∃ t, exec (.conGrant dt h p) s = .next t ∧ t.clock = s.later dt ∧
      (s.isHelm = true → p.target = s.address → preferred s.demand.view p.target p.epoch = true →
        s.helm.con ≠ .holding → s.station = .active →
        t.helm.con = .holding ∧ t.helm.requestTimer = none ∧ t.helm.requestedOf = none ∧
        t.helm.current = s.helm.live ∧ t.helm.number = s.demand.record.number + 1 ∧
        t.helm.interval = startTimer (s.later dt) (ms (s.param Param.demandInterval)) ∧
        t.demand.record = { demand := s.helm.live, number := s.demand.record.number + 1,
                            accepted := some (s.later dt), state := .fresh } ∧
        t.demand.timeout = none ∧ t.has .conLost = false ∧ t.has .demandLost = false ∧
        (s.comms.link.queue.length ≤ 5 → t.waits .demand = true)) ∧
      (s.isHelm = true → p.target = s.address → s.helm.con ≠ .holding → s.station ≠ .active →
        t.helm.con ≠ .holding) ∧
      t.start = s.start ∧
      OnlyTouches [.clock, .present, .alerts, .link, .peers, .account, .view, .demand, .helm, .thrust, .gov, .outputs,
        .coup] s t := by
  let f : Frame := ⟨h.start, h.source, .helm, 1, .con .grant p⟩
  let x := (s.heard dt).tabled f
  let r := x.route f
  have frame : frameOf (.conGrant dt h p) = some (dt, f) := rfl
  have judged : OnlyTouches [.coup] r (s.applied dt f) := applied_judged s dt f
  have touches := conFrame_touches (f := f) (routeGrant_touches x p)
  have helmed : x.isHelm = s.isHelm := tabled_isHelm s dt f
  have address : x.address = s.address := tabled_address s dt f
  have demand : x.demand = s.demand := tabled_demand s dt f
  have station : x.station = s.station := tabled_station s dt f
  have con : x.helm.con = s.helm.con := tabled_con s dt f
  refine ⟨s.applied dt f, exec_applied frame rfl admits, applied_clock s dt f, fun helm own pref idle act => ?_,
    fun helm own idle away => ?_, touches.start (by decide), touches⟩
  · have unit : x.helm = s.helm := tabled_helm_same dt f idle
    let u := x.offerView x.address p.epoch
    have taken : r = u.enterHolding := by
      have test : (x.isHelm && p.target == x.address && preferred x.demand.view p.target p.epoch && x.helm.con != .holding
          && x.station == .active) = true := by
        rw [helmed, address, demand, con, station, helm, own, act]
        rw [own] at pref
        rw [pref, bne_iff_ne.mpr idle]
        simp
      show (x.offerView p.target p.epoch).whenever _ State.enterHolding = _
      rw [whenever_pos test, own, ← address]
    obtain ⟨uhelm, udemand, uclock, ustart, ustation, uload⟩ := offerView_own_parts (s := x) (e := p.epoch)
      (by rw [demand, address, ← own]; exact pref) (helmed.trans helm)
    have takes : TakesUp u r := by
      rw [taken]
      exact enterHolding_takes u
    have live : u.helm.live = s.helm.live := by rw [uhelm, unit]
    have number : u.demand.record.number = s.demand.record.number := by rw [udemand, demand]
    have clock : u.clock = s.later dt := uclock.trans (tabled_clock s dt f)
    have param : u.param Param.demandInterval = s.param Param.demandInterval := by
      unfold State.param
      rw [ustart, tabled_start s dt f]
    have active : u.station = .active := ustation.trans (station.trans act)
    rw [judged.helm (by decide), judged.demand (by decide), judged.has (by decide), judged.has (by decide), takes.demand,
      takes.con, takes.request.1, takes.request.2, takes.current.1, takes.current.2, takes.interval, takes.kept,
      takes.found (by rw [active]; rfl), live, number, clock, param]
    refine ⟨rfl, rfl, rfl, rfl, rfl, rfl, by rw [← clock]; rfl, rfl, rfl, rfl, fun short => ?_⟩
    have room : s.load ≤ 6 := (load_le s).trans (Nat.succ_le_succ short)
    have begun : x.load ≤ s.load := (tabled_loaded dt f (room.trans (by decide))).load
    rw [judged.waits .demand (by decide), taken]
    exact enterHolding_waits (by rw [active]; rfl)
      ((uload (begun.trans (room.trans (by decide)))).trans (begun.trans room))
  · have stays : r = x.offerView p.target p.epoch := by
      refine whenever_neg ?_
      rw [station, beq_eq_false_iff_ne.mpr away, Bool.and_false]
    rw [judged.helm (by decide), stays]
    have before : x.helm.con ≠ .holding := by rw [con]; exact idle
    cases pref : preferred x.demand.view p.target p.epoch with
    | false => rw [offerView_of_not_preferred pref]; exact before
    | true =>
      rw [own, ← address] at pref ⊢
      rw [(offerView_own_parts pref (helmed.trans helm)).1]
      exact before

theorem conDecline_leaves (s : State) (dt : Micros) (h : RxHeader) (p : ConFields) (admits : s.Admits h.source .helm) :
    ∃ t, exec (.conDecline dt h p) s = .next t ∧ t.clock = s.later dt ∧
      (s.isHelm = true → s.helm.con = .requesting → p.target = s.address → s.demand.view.holder = some h.source →
        t.helm = { s.helm with con := .standingBy, requestTimer := none, requestedOf := none }) ∧
      (s.helm.con ≠ .holding → s.helm.con ≠ .requesting ∨ p.target ≠ s.address ∨
          s.demand.view.holder ≠ some h.source → t.helm = s.helm) ∧
      t.demand = s.demand ∧ t.start = s.start ∧
      OnlyTouches [.clock, .present, .alerts, .link, .peers, .account, .view, .helm, .thrust, .gov, .outputs, .coup]
        s t := by
  let f : Frame := ⟨h.start, h.source, .helm, 1, .con .decline p⟩
  let x := (s.heard dt).tabled f
  let r := x.route f
  have frame : frameOf (.conDecline dt h p) = some (dt, f) := rfl
  have judged : OnlyTouches [.coup] r (s.applied dt f) := applied_judged s dt f
  have routed : OnlyTouches [.helm] x r := routeDecline_touches x h.source p
  have touches : OnlyTouches [.clock, .present, .alerts, .link, .peers, .account, .view, .helm, .thrust, .gov, .outputs, .coup]
      s (s.applied dt f) := (tabled_touches s dt f).mono.trans (routed.mono.trans judged.mono)
  have test : (x.isHelm && x.helm.con == .requesting && p.target == x.address && x.demand.view.holder == some h.source) =
      (s.isHelm && s.helm.con == .requesting && p.target == s.address && s.demand.view.holder == some h.source) := by
    rw [tabled_isHelm, tabled_con, tabled_address, tabled_demand]
  refine ⟨s.applied dt f, exec_applied frame rfl admits, applied_clock s dt f, fun helm con own holder => ?_,
    fun idle other => ?_, touches.demand (by decide), touches.start (by decide), touches⟩
  · have ended : r = { x with helm := x.helm.endRequest } :=
      whenever_pos (f := fun s : State => { s with helm := s.helm.endRequest }) (by
        rw [test, helm, con, own, holder]
        simp)
    rw [judged.helm (by decide), ended]
    exact congrArg HelmUnit.endRequest (tabled_helm_same dt f (by rw [con]; nofun))
  · have stays : r = x := by
      refine whenever_neg (f := fun s : State => { s with helm := s.helm.endRequest }) (test.trans ?_)
      rw [Bool.eq_false_iff]
      intro all
      simp only [Bool.and_eq_true, beq_iff_eq] at all
      obtain ⟨⟨⟨-, con⟩, own⟩, holder⟩ := all
      exact other.elim (fun n => n con) fun n => n.elim (fun n => n own) fun n => n holder
    rw [judged.helm (by decide), stays]
    exact tabled_helm_same dt f idle

/-- Settles O18. -/
theorem grantAndDecline : Obligations.GrantAndDecline := ⟨conGrant_leaves, conDecline_leaves⟩

end Sys2Proof.Machine
end

section
/-! SUPPORT. REQUEST (O17). -/

namespace Sys2Proof.Machine

-- As in Laws/Touches.lean: one theorem at a time.
set_option Elab.async false

/-! ## A frame of another kind stands in the queue (R141, R163) -/

theorem ReportOnly.holds {s t : State} {w : Waiting} (h : ReportOnly s t) (free : s.load ≤ 7) (kind : w.kind ≠ .alert)
    (stands : w ∈ s.comms.link.queue) : w ∈ t.comms.link.queue := by
  have queue := (h.2.2.2.2.2 (queueFree_of_load free)).1
  have same : ∀ trips : Bool, (if trips && w.kind == .alert && w.cls == 3 then { w with cls := 2 } else w) = w := fun trips => by
    rw [beq_eq_false_iff_ne.mpr kind, Bool.and_false, Bool.false_and]
    rfl
  rw [queue]
  unfold State.queueAfter
  dsimp only
  split
  · exact stands
  · split
    · exact List.mem_append_left _ (List.mem_map.mpr ⟨w, stands, same _⟩)
    · exact List.mem_map.mpr ⟨w, stands, same _⟩

theorem follow_holds {s : State} {w : Waiting} (c : AlertCode) (b : Bool) (free : s.load ≤ 7) (kind : w.kind ≠ .alert)
    (stands : w ∈ s.comms.link.queue) : w ∈ (s.follow c b).comms.link.queue := by
  have h := follow_follows s c b
  unfold Follows Raised Ended at h
  split at h <;> split at h
  · rw [h]; exact stands
  · exact h.1.holds free kind stands
  · exact h.1.holds free kind stands
  · rw [h]; exact stands

theorem setHolderLow_holds {s : State} {w : Waiting} (l : Option (Tab 4 Bool)) (free : s.load ≤ 7) (kind : w.kind ≠ .alert)
    (stands : w ∈ s.comms.link.queue) : w ∈ (s.setHolderLow l).comms.link.queue := by
  unfold State.setHolderLow State.judgeTankLow State.whenever
  split
  · exact follow_holds (s := { s with account := { s.account with holderLow := l } }) _ _ free kind stands
  · exact stands

/-- A frame of a kind that is not coalesced, offered to a queue with a place, waits there. -/
theorem offerWith_mem {s : State} (c : Fin 4) (p : Payload) (act : s.station.acting = true) (free : s.load ≤ 7)
    (kind : coalescing (payloadKind p) = false) :
    ⟨payloadKind p, c, s.clock, some p⟩ ∈ (s.offerWith c p).comms.link.queue := by
  have queued := offerWith_queued c p act (queueFree_of_load free)
  have queue : (s.offerWith c p).comms.link.queue = s.comms.link.queue ++ [⟨payloadKind p, c, s.clock, some p⟩] := by
    rw [queued]
    show (if _ && _ then _ else _) = _
    rw [kind]
    rfl
  rw [queue]
  exact List.mem_append_right _ List.mem_cons_self

/-! ## REQUEST (R30) -/

/-- What a grant leaves. -/
structure Grants (requester : Addr) (s t : State) : Prop where
  con : t.helm.con = .standingBy
  view : t.demand.view = ⟨some requester, s.demand.view.epoch + 1⟩
  queued : s.station.acting = true → s.load ≤ 6 → (⟨.con, 1, s.clock, some (.con .grant
    (conFields requester (s.demand.view.epoch + 1) s.helm.current.thrust s.helm.current.turn))⟩ : Waiting) ∈ t.comms.link.queue
  record : t.demand.record = { s.demand.record with accepted := some s.clock, state := .fresh }
  lost : t.has .conLost = s.has .conLost

theorem grantCon_grants {s : State} (requester : Addr) (helm : s.isHelm = true) : Grants requester s (s.grantCon requester) := by
  let e := s.demand.view.epoch + 1
  let p : Payload := .con .grant (conFields requester e s.helm.current.thrust s.helm.current.turn)
  let a := s.offerWith 1 p
  let b := a.leaveHolding
  let u := (b.viewing requester e).setHolderLow none
  have offered : OnlyTouches commsParts s a := offerWith_touches s 1 p
  obtain ⟨released, -, fresh⟩ := leaveHolding_parts a
  have left : OnlyTouches (.helm :: .demand :: .view :: commsParts) a b := leaveHolding_touches a
  have flagged : OnlyTouches (.account :: commsParts) (b.viewing requester e) u := setHolderLow_touches _ _
  have demand : b.demand = s.freshRecord s.demand.record.demand s.demand.record.number true := by
    rw [fresh]
    unfold State.freshRecord State.param
    rw [offered.demand (by decide), offered.clock (by decide), offered.station (by decide), offered.start (by decide)]
  have pref : preferred b.demand.view requester e = true := by
    rw [demand]
    exact preferred_next _ requester
  have eq : s.grantCon requester = u := by
    show b.offerView requester e = u
    have role : b.isHelm = s.isHelm := isHelm_eq ((left.role (by decide)).trans (offered.role (by decide)))
    rw [offerView_helm pref (role.trans helm), conAfterView_stands]
    rw [flagged.helm (by decide)]
    exact congrArg HelmUnit.con released
  rw [eq]
  refine ⟨?_, ?_, fun act room => ?_, ?_, ?_⟩
  · rw [flagged.helm (by decide)]
    exact congrArg HelmUnit.con released
  · rw [flagged.demand (by decide)]
    rfl
  · have waits := offerWith_mem 1 p act (room.trans (by decide)) rfl
    have load : a.load ≤ 7 := (offerWith_loaded 1 p act (room.trans (by decide))).1.trans (Nat.succ_le_succ room)
    let a' : State := { a with
      helm := a.helm.released
      demand := a.freshRecord a.demand.record.demand a.demand.record.number true
      view := a.view.unrequest }
    have cleared := follow_holds (s := a') .stationLag false load (w := ⟨.con, 1, s.clock, some p⟩) nofun waits
    exact setHolderLow_holds (s := b.viewing requester e) none ((clear_room (s := a') .stationLag load).trans load) nofun cleared
  · rw [flagged.demand (by decide)]
    show b.demand.record = _
    rw [demand]
    rfl
  · rw [setHolderLow_tells _ none .conLost (by decide) nofun]
    exact (leaveHolding_tells a .conLost (by decide) nofun).trans (offerWith_tells (cs := []) s 1 p .conLost (by decide) nofun)

theorem leversMatch_iff (s : State) (p : ConFields) : s.leversMatch p = true ↔
    (p.thrust.toInt - s.helm.current.thrust).natAbs ≤ 50 ∧ (p.turn.toInt - s.helm.current.turn).natAbs ≤ 50 := by
  unfold State.leversMatch
  rw [Bool.and_eq_true_iff, decide_eq_true_iff, decide_eq_true_iff]
  rfl

/-- Settles O17. -/
theorem requestIsAnswered : Obligations.RequestIsAnswered := by
  intro s dt h p admits grants answer
  let f : Frame := ⟨h.start, h.source, .helm, 1, .con .request p⟩
  let x := (s.heard dt).tabled f
  let r := x.route f
  have frame : frameOf (.conRequest dt h p) = some (dt, f) := rfl
  have judged : OnlyTouches [.coup] r (s.applied dt f) := applied_judged s dt f
  have touches := conFrame_touches (f := f) (routeRequest_touches x h.source p)
  have test : (x.isHelm && x.helm.con == .holding && p.target == x.address) =
      (s.isHelm && s.helm.con == .holding && p.target == s.address) := by
    rw [tabled_isHelm, tabled_con, tabled_address]
  have demand : x.demand = s.demand := tabled_demand s dt f
  have clock : x.clock = s.later dt := tabled_clock s dt f
  have unit : x.helm = { s.helm with lag := x.helm.lag } := tabled_helm_lag s dt f
  have current : x.helm.current = s.helm.current := by rw [unit]
  have granting : (p.epoch == x.demand.view.epoch && x.leversMatch p) = true ↔ grants := by
    rw [Bool.and_eq_true_iff, beq_iff_eq, leversMatch_iff, demand, current]
  refine ⟨s.applied dt f, exec_applied frame rfl admits, applied_clock s dt f, fun helm act con own short => ?_, fun other => ?_,
    touches.start (by decide), touches⟩
  · have routed : r = if p.epoch == x.demand.view.epoch && x.leversMatch p then x.grantCon h.source else x.declineCon h.source :=
      whenever_pos (f := fun s : State => if p.epoch == s.demand.view.epoch && s.leversMatch p then s.grantCon h.source
        else s.declineCon h.source) (by rw [test, helm, con, own]; simp)
    have room : s.load ≤ 6 := (load_le s).trans (Nat.succ_le_succ short)
    have begun : x.load ≤ 6 := ((tabled_loaded dt f (room.trans (by decide))).load).trans room
    have acts : x.station.acting = true := by rw [tabled_station, act]; rfl
    have link : (s.applied dt f).comms.link = r.comms.link := judged.link (by decide)
    rw [judged.helm (by decide), judged.demand (by decide), judged.has (by decide), link]
    constructor
    · intro g
      have granted : Grants h.source x r := by
        rw [routed, if_pos (granting.mpr g)]
        exact grantCon_grants h.source ((tabled_isHelm s dt f).trans helm)
      obtain ⟨stands, view, queued, record, lost⟩ := granted
      rw [demand] at view record queued
      rw [clock, current] at queued
      rw [clock] at record
      refine ⟨stands, view, queued acts begun, record, lost.trans ?_⟩
      show ((s.heard dt).tabled f).has .conLost = _
      rw [tabled_eq]
      exact (tableChanged_tells _ _ .conLost (by decide) nofun).trans
        ((judgeSilent_tells _ _ .conLost (by decide) nofun).trans (noted_has s dt f nofun nofun))
    · intro g
      have declined : r = x.declineCon h.source := by rw [routed, if_neg fun k => g (granting.mp k)]
      have waits := offerWith_mem (s := x) 1 (.con .decline
        (conFields h.source x.demand.view.epoch x.helm.current.thrust x.helm.current.turn)) acts (begun.trans (by decide)) rfl
      have offered : OnlyTouches commsParts x r := by rw [declined]; exact declineCon_touches x h.source
      rw [offered.helm (by decide), offered.demand (by decide), declined]
      refine ⟨(tabled_con s dt f).trans con, demand, ?_⟩
      have same : answer .decline s.demand.view.epoch = ⟨.con, 1, x.clock, some (.con .decline
          (conFields h.source x.demand.view.epoch x.helm.current.thrust x.helm.current.turn))⟩ := by
        rw [demand, clock, current]
        rfl
      rw [same]
      exact waits
  · have stays : r = x := by
      refine whenever_neg (f := fun s : State => if p.epoch == s.demand.view.epoch && s.leversMatch p then s.grantCon h.source
        else s.declineCon h.source) (test.trans ?_)
      rw [Bool.eq_false_iff]
      intro all
      simp only [Bool.and_eq_true, beq_iff_eq] at all
      obtain ⟨⟨helm, con⟩, own⟩ := all
      exact other.elim (fun n => nomatch n.symm.trans helm) fun n => n.elim (fun n => n con) fun n => n own
    rw [judged.helm (by decide), judged.demand (by decide), stays]
    refine ⟨demand, tabled_con s dt f, ?_⟩
    rw [unit]

end Sys2Proof.Machine
end

section
/-! SUPPORT. The standing request: what sets it, and what a return from STANDBY starts again (R140, R194 to R196). -/

namespace Sys2Proof.Machine

-- As in Laws/Touches.lean: one theorem at a time.
set_option Elab.async false

/-! ## The returns to ACTIVE (R195, R196) -/

theorem raise_afresh {m : Comms} {st : StationState} {now : Clock} (c : AlertCode)
    (h : m.alerts.repeatTimer = repeatAfter st now m.alerts.list none) :
    (m.raise st now c).alerts.repeatTimer = repeatAfter st now (m.raise st now c).alerts.list none :=
  afterLoss_afresh _ (setList_afresh (m := m) _ h)

/-- A PROPULSION station's return up to its PROP_STATE. -/
def State.propBack (s : State) : State :=
  State.startPropSeries (State.restartRepeat { s with station := .active, demand := s.resumeDemand })

theorem propReturn_eq (s : State) : s.propReturn = (s.propBack.offer .propState 2).judgeEngine := rfl

theorem judgeEngine_eq (s : State) : s.judgeEngine = if s.isProp && !s.line 2 then s.raiseNew .engineNotReady else s := by
  unfold State.judgeEngine State.raiseNew
  split <;> rfl

theorem judgeEngine_loaded {s : State} (free : s.load ≤ 7) : Loaded s s.judgeEngine := by
  rw [judgeEngine_eq]
  split
  · exact follow_loaded _ true free
  · exact .refl s

theorem propReturn_active (s : State) : s.propReturn.station = .active ∧ s.propReturn.RepeatsAfresh := by
  refine ⟨rfl, (repeatsAfresh_iff rfl).mpr ?_⟩
  have offered := offered_afresh (m := s.propBack.comms) (st := .active) (now := s.clock)
    ⟨.propState, 2, s.clock, none⟩ rfl
  rw [propReturn_eq, judgeEngine_eq]
  split
  · unfold State.raiseNew
    dsimp only
    split
    · exact offered
    · exact raise_afresh _ offered
  · exact offered

/-- What a PROPULSION station's return to ACTIVE starts. -/
structure PropBack (s t : State) : Prop where
  series : t.thrust.stateSeries = startTimer s.clock (ms (s.param Param.stateInterval))
  economy : t.thrust.economy = startTimer s.clock (sec 1)
  fuel : t.meter.interval = startTimer s.clock (sec (s.param Param.fuelInterval))
  engine : s.line 2 = false → t.has .engineNotReady = true
  waits : s.load ≤ 6 → t.waits .propState = true

theorem propReturn_back {s : State} (prop : s.isProp = true) : PropBack s s.propReturn := by
  let u := s.propBack.offer .propState 2
  have eq : s.propReturn = u.judgeEngine := rfl
  refine ⟨rfl, rfl, rfl, fun off => ?_, fun room => ?_⟩
  · have raises : (u.isProp && !u.line 2) = true := by
      rw [show u.isProp = true from prop, show u.line 2 = false from off]
      rfl
    rw [eq, judgeEngine_eq, if_pos raises]
    exact raiseNew_has_self u _
  · obtain ⟨load, waits, -⟩ := offer_loaded (s := s.propBack) .propState 2 rfl
      (show s.load ≤ 7 from room.trans (by decide))
    exact (judgeEngine_loaded (load.trans (Nat.succ_le_succ room))).waits .propState waits

/-- What a COUPLING station's return to ACTIVE starts. -/
structure CoupBack (s t : State) : Prop where
  conv : t.conv = { s.conv with interval := ms 50, series := some (s.clock - BitVec.ofNat 32 50000) }
  interval : t.coup.interval = startTimer s.clock (ms (s.param Param.strainInterval))
  waits : s.load ≤ 7 → t.waits .strain = true

theorem coupReturn_back (s : State) : CoupBack s s.coupReturn := by
  let r : State := State.restartRepeat { s with
    station := .active, demand := s.resumeDemand,
    coup := { s.coup with interval := startTimer s.clock (ms (s.param Param.strainInterval)) },
    conv := s.conv.restart s.clock (ms 50) }
  have touches : OnlyTouches [.coup] r.offerStrain s.coupReturn := winchCauses_touches r.offerStrain
  refine ⟨touches.conv (by decide), ?_, fun free => ?_⟩
  · rw [show s.coupReturn = r.offerStrain.winchCauses from rfl, winchCauses_only]
    rfl
  · rw [touches.waits .strain (by decide)]
    exact (offer_loaded (s := r) .strain r.strainClass rfl free).2.1

/-! ## The request cleared (R194) -/

/-- A station that a cleared request brings back to ACTIVE. -/
def State.comesBack (s : State) : Bool := s.start.request && s.station == .standby && (s.isProp || s.isCoup)

/-- The request cleared, before the return. -/
def State.unasked (s : State) : State := { s with start := { s.start with request := false } }

theorem clearRequest_cases (s : State) :
    (s.comesBack = false ∧ s.clearRequest = s.unasked) ∨
    (s.comesBack = true ∧ s.isProp = true ∧ s.clearRequest = s.unasked.propReturn) ∨
    (s.comesBack = true ∧ s.isCoup = true ∧ s.clearRequest = s.unasked.coupReturn) := by
  unfold State.comesBack State.clearRequest State.unasked
  dsimp only
  cases s.start.request && s.station == .standby with
  | false => exact .inl ⟨rfl, rfl⟩
  | true =>
    cases prop : s.isProp with
    | true => exact .inr (.inl ⟨rfl, rfl, rfl⟩)
    | false =>
      cases coup : s.isCoup with
      | true => exact .inr (.inr ⟨rfl, rfl, rfl⟩)
      | false => exact .inl ⟨rfl, rfl⟩

/-- What a cleared request leaves. -/
structure Wakes (s t : State) : Prop where
  touches : OnlyTouches standParts s t
  start : t.start = { s.start with request := false }
  station : t.station = if s.comesBack then .active else s.station
  afresh : t.station ≠ s.station → t.RepeatsAfresh
  record : t.demand.record = s.demand.record ∧ t.demand.view = s.demand.view ∧ t.demand.tick = s.demand.tick
  timers : s.demand.record.state = .fresh → s.demand.hold = none →
    s.demand.timeout = (if s.station.timing then startTimer s.clock (ms (s.param Param.demandTimeout)) else none) →
    t.demand.hold = none ∧
      t.demand.timeout = (if t.station.timing then startTimer s.clock (ms (s.param Param.demandTimeout)) else none)
  prop : t.station ≠ s.station → s.isProp = true → PropBack s t
  coup : t.station ≠ s.station → s.isCoup = true → CoupBack s t
  stays : s.station = .active → t.coup = s.coup

theorem comesBack_stands {s : State} (h : s.comesBack = true) : s.station = .standby :=
  beq_iff_eq.mp (Bool.and_eq_true_iff.mp (Bool.and_eq_true_iff.mp h).1).2

theorem resumeDemand_fresh {s : State} (fresh : s.demand.record.state = .fresh) : s.resumeDemand.hold = none ∧
    s.resumeDemand.timeout = startTimer s.clock (ms (s.param Param.demandTimeout)) := by
  unfold State.resumeDemand
  rw [fresh]
  exact ⟨rfl, rfl⟩

theorem clearRequest_wakes (s : State) : Wakes s s.clearRequest := by
  have touches := clearRequest_touches s
  rcases clearRequest_cases s with ⟨back, eq⟩ | ⟨back, prop, eq⟩ | ⟨back, coup, eq⟩
  · rw [eq] at touches ⊢
    exact ⟨touches, rfl, by rw [back]; rfl, fun n => absurd rfl n, ⟨rfl, rfl, rfl⟩, fun _ hold timeout => ⟨hold, timeout⟩,
      fun n => absurd rfl n, fun n => absurd rfl n, fun _ => rfl⟩
  · rw [eq] at touches ⊢
    have returned : PropBack s s.unasked.propReturn := by
      obtain ⟨series, economy, fuel, engine, waits⟩ := propReturn_back (s := s.unasked) prop
      exact ⟨series, economy, fuel, engine, waits⟩
    refine ⟨touches, rfl, by rw [back]; rfl, fun _ => (propReturn_active _).2, ⟨rfl, rfl, rfl⟩,
      fun fresh _ _ => resumeDemand_fresh (s := s.unasked) fresh, fun _ _ => returned,
      fun _ coup => (nomatch (isProp_of_coup coup).symm.trans prop), fun act => ?_⟩
    exact nomatch (comesBack_stands back).symm.trans act
  · rw [eq] at touches ⊢
    have returned : CoupBack s s.unasked.coupReturn := by
      obtain ⟨conv, interval, waits⟩ := coupReturn_back s.unasked
      exact ⟨conv, interval, waits⟩
    have active := coupReturn_active s.unasked
    have unit : OnlyTouches [.coup] _ s.unasked.coupReturn := winchCauses_touches (State.offerStrain (State.restartRepeat
      { s.unasked with station := .active, demand := s.unasked.resumeDemand, coup := _, conv := _ }))
    refine ⟨touches, unit.start (by decide), by rw [back]; exact active.1, fun _ => active.2, ?_, fun fresh _ _ => ?_,
      fun _ prop => (nomatch (isProp_of_coup coup).symm.trans prop), fun _ _ => returned, fun act => ?_⟩
    · rw [unit.demand (by decide)]
      exact ⟨rfl, rfl, rfl⟩
    · rw [unit.demand (by decide), active.1]
      exact resumeDemand_fresh (s := s.unasked) fresh
    · exact nomatch (comesBack_stands back).symm.trans act

/-! ## A DEMAND accepted (R20, R194) -/

theorem demandOf_eq (p : DemandFields) : demandOf p = ⟨clampInt (-1000) 1000 p.thrust.toInt,
    clampInt (-1000) 1000 p.turn.toInt, p.mode, if p.cap = 0 then none else some p.cap.toNat, p.stopAll⟩ := by
  have none_iff : p.cap.toNat = 0 ↔ p.cap = 0 := by rw [← BitVec.toNat_inj]; rfl
  unfold demandOf capOf
  simp only [none_iff]
  rfl

end Sys2Proof.Machine
end

section
/-! SUPPORT. DEMAND, STANDBY and WAKE (O16, O19). -/

namespace Sys2Proof.Machine

-- As in Laws/Touches.lean: one theorem at a time.
set_option Elab.async false

/-! ## A DEMAND accepted (R20, R21, R194) -/

/-- What an accepted DEMAND leaves. -/
structure Accepts (p : DemandFields) (s t : State) : Prop where
  touches : OnlyTouches standParts s t
  record : t.demand.record = { demand := demandOf p, number := p.number, accepted := some s.clock, state := .fresh }
  hold : t.demand.hold = none
  timeout : t.demand.timeout = if t.station.timing then startTimer s.clock (ms (s.param Param.demandTimeout)) else none
  found : s.station.reporting = true → t.has .demandLost = false
  start : t.start = { s.start with
    request := s.start.request && (demandOf p).thrust == 0 && (demandOf p).turn == 0 }
  back : s.comesBack = true → (demandOf p).thrust ≠ 0 ∨ (demandOf p).turn ≠ 0 → t.station = .active ∧ t.RepeatsAfresh
  tick : t.demand.tick = s.demand.tick
  stays : s.station = .active → t.coup = s.coup

theorem comesBack_eq {s t : State} (start : t.start = s.start) (station : t.station = s.station) (role : t.role = s.role) :
    t.comesBack = s.comesBack := by
  unfold State.comesBack
  rw [start, station, isProp_eq role, isCoup_eq role]

theorem acceptDemand_accepts (s : State) (p : DemandFields) : Accepts p s (s.acceptDemand p) := by
  let v : State := { s with demand := s.freshRecord (demandOf p) p.number true }
  let w := v.foundDemand
  let t := s.acceptDemand p
  have found : OnlyTouches commsParts v w := foundDemand_touches v
  have demand : w.demand = s.freshRecord (demandOf p) p.number true := found.demand (by decide)
  have clock : w.clock = s.clock := found.clock (by decide)
  have station : w.station = s.station := found.station (by decide)
  have start : w.start = s.start := found.start (by decide)
  have coup : w.coup = s.coup := found.coup (by decide)
  have param : w.param Param.demandTimeout = s.param Param.demandTimeout := by unfold State.param; rw [start]
  have back : w.comesBack = s.comesBack := comesBack_eq start station (found.role (by decide))
  have lost : s.station.reporting = true → w.has .demandLost = false := fun reports => by
    have clears : w = v.clear .demandLost := whenever_pos (s := v) reports
    rw [clears]
    exact clear_has_self v nofun
  cases moves : (demandOf p).thrust != 0 || (demandOf p).turn != 0 with
  | false =>
    have eq : t = w := whenever_neg (s := w) moves
    rw [Bool.or_eq_false_iff, bne_eq_false_iff_eq, bne_eq_false_iff_eq] at moves
    have touches : OnlyTouches standParts s t := acceptDemand_touches s p
    show Accepts p s t
    refine ⟨touches, ?_, ?_, ?_, ?_, ?_, fun _ n => ?_, ?_, fun _ => ?_⟩
    · rw [eq, demand]; rfl
    · rw [eq, demand]; rfl
    · rw [eq, demand, station]
      unfold State.freshRecord
      rw [Bool.true_and]
    · rw [eq]; exact lost
    · rw [eq, start, moves.1, moves.2, beq_self_eq_true, Bool.and_true, Bool.and_true]
    · exact n.elim (fun n => absurd moves.1 n) fun n => absurd moves.2 n
    · rw [eq, demand]; rfl
    · rw [eq, coup]
  | true =>
    have eq : t = w.clearRequest := whenever_pos (s := w) moves
    have wakes := clearRequest_wakes w
    rw [← eq] at wakes
    have touches : OnlyTouches standParts s t := acceptDemand_touches s p
    obtain ⟨hold, timeout⟩ := wakes.timers (by rw [demand]; rfl) (by rw [demand]; rfl) (by
      rw [demand, station, clock, param]
      unfold State.freshRecord
      rw [Bool.true_and])
    show Accepts p s t
    refine ⟨touches, by rw [wakes.record.1, demand]; rfl, hold, by rw [timeout, clock, param], fun reports => ?_, ?_, fun b _ => ?_,
      by rw [wakes.record.2.2, demand]; rfl, fun act => ?_⟩
    · rw [eq, clearRequest_tells w .demandLost (by decide) nofun]
      exact lost reports
    · have off : (s.start.request && (demandOf p).thrust == 0 && (demandOf p).turn == 0) = false := by
        rw [Bool.or_eq_true, bne_iff_ne, bne_iff_ne] at moves
        rcases moves with n | n
        · rw [beq_eq_false_iff_ne.mpr n, Bool.and_false, Bool.false_and]
        · rw [beq_eq_false_iff_ne.mpr n, Bool.and_false]
      rw [wakes.start, start, off]
    · have active : t.station = .active := by rw [wakes.station, back, b]; rfl
      refine ⟨active, wakes.afresh ?_⟩
      rw [active, comesBack_stands (back.trans b)]
      nofun
    · rw [wakes.stays (station.trans act), coup]

theorem conAfterView_tick (s : State) (h : Addr) : (s.conAfterView h).demand.tick = s.demand.tick := by
  unfold State.conAfterView
  dsimp only
  split
  · split
    · rfl
    · have raised := whenever_touches (f := fun t => t.raiseNew .conLost) s.leaveHolding s.leaveHolding.station.helmReporting
        (raiseNew_touches s.leaveHolding .conLost)
      rw [raised.demand (by decide), (leaveHolding_parts s).2.2]
      rfl
  · split <;> rfl
  · rfl

theorem offerView_tick (s : State) (h : Addr) (e : Byte) : (s.offerView h e).demand.tick = s.demand.tick := by
  cases pref : preferred s.demand.view h e with
  | false => rw [offerView_of_not_preferred pref]
  | true =>
    cases helm : s.isHelm with
    | false => rw [offerView_other pref helm]; rfl
    | true =>
      rw [offerView_helm pref helm, conAfterView_tick, (setHolderLow_touches _ _).demand (by decide)]
      rfl

theorem comesBack_iff {s : State} (role : s.role ≠ none) : s.comesBack =
    (s.start.request && s.station == .standby && !s.isHelm) := by
  unfold State.comesBack State.isProp State.isCoup State.isHelm
  generalize s.role = r at role ⊢
  cases r with
  | none => exact absurd rfl role
  | some r => cases r <;> rfl

/-- Settles O16: the view is offered the sender first, so the record is the viewed holder's. -/
theorem demandFromTheViewedHolder : Obligations.DemandFromTheViewedHolder := by
  intro s dt h p admits
  let f : Frame := ⟨h.start, h.source, .helm, 1, .demand p⟩
  let x := (s.heard dt).tabled f
  let u := x.offerView h.source p.epoch
  let r := x.route f
  have frame : frameOf (.demand dt h p) = some (dt, f) := rfl
  have judged : OnlyTouches [.coup] r (s.applied dt f) := applied_judged s dt f
  have begun : OnlyTouches _ s x := tabled_touches s dt f
  have offered : OnlyTouches conParts x u := offerView_touches x _ _
  have demand : x.demand = s.demand := tabled_demand s dt f
  have clock : u.clock = s.later dt := (offered.clock (by decide)).trans (tabled_clock s dt f)
  have station : u.station = s.station := (offered.station (by decide)).trans (tabled_station s dt f)
  have start : u.start = s.start := (offered.start (by decide)).trans (tabled_start s dt f)
  have role : u.role = s.role := (offered.role (by decide)).trans (begun.role (by decide))
  have param : u.param Param.demandTimeout = s.param Param.demandTimeout := by unfold State.param; rw [start]
  have view : u.demand.view = if preferred s.demand.view h.source p.epoch then ⟨some h.source, p.epoch⟩ else s.demand.view := by
    rw [← demand]
    exact (offerView_offers x h.source p.epoch).view
  have tick : u.demand.tick = s.demand.tick := by
    rw [← demand]
    exact offerView_tick x _ _
  let accepted := preferred s.demand.view h.source p.epoch = true ∨ s.demand.view.holder = some h.source
  have test : (u.demand.view.holder == some h.source) = true ↔ accepted := by
    rw [beq_iff_eq, view]
    split
    next pref => exact ⟨fun _ => .inl pref, fun _ => rfl⟩
    next n => exact ⟨.inr, fun a => a.resolve_left n⟩
  have taken : accepted → r = u.acceptDemand p := fun a =>
    whenever_pos (s := u) (f := fun t => t.acceptDemand p) (test.mpr a)
  have refused : ¬ accepted → r = x := fun n => by
    have still : r = u := whenever_neg (s := u) (f := fun t => t.acceptDemand p) (Bool.eq_false_iff.mpr fun k => n (test.mp k))
    rw [still]
    exact offerView_of_not_preferred (by rw [demand]; exact Bool.eq_false_iff.mpr fun k => n (.inl k))
  refine ⟨s.applied dt f, exec_applied frame rfl admits, applied_clock s dt f, fun a => ?_, fun n => ?_, ?_, ?_, ?_⟩
  · have accepts := acceptDemand_accepts u p
    rw [← taken a] at accepts
    rw [judged.demand (by decide), judged.station (by decide), judged.has (by decide), judged.start (by decide),
      accepts.record, accepts.hold, accepts.timeout, accepts.start, demandOf_eq, clock, param, start]
    refine ⟨rfl, rfl, rfl, fun reports => accepts.found (by rw [station]; exact reports), rfl, fun helm known asked stands n => ?_⟩
    have comes : u.comesBack = true := by
      rw [comesBack_eq start station role, comesBack_iff known, asked, stands, helm]
      rfl
    obtain ⟨active, afresh⟩ := accepts.back comes (by rw [demandOf_eq]; exact n)
    refine ⟨active, ?_⟩
    unfold State.RepeatsAfresh at afresh ⊢
    rw [judged.alerts (by decide), judged.clock (by decide)]
    exact afresh
  · rw [judged.demand (by decide), judged.start (by decide), judged.station (by decide), refused n]
    exact ⟨demand, tabled_start s dt f, tabled_station s dt f⟩
  · rw [judged.demand (by decide)]
    by_cases a : accepted
    · rw [taken a, (acceptDemand_accepts u p).tick, tick]
    · rw [refused a, demand]
  · refine applied_dwell frame rfl admits ?_ fun act _ => ?_
    · show r.start.image = x.start.image
      by_cases a : accepted
      · rw [taken a, (acceptDemand_accepts u p).start, offered.start (by decide)]
      · rw [refused a]
    · show r.coup = x.coup
      by_cases a : accepted
      · rw [taken a, (acceptDemand_accepts u p).stays (station.trans act), offered.coup (by decide)]
      · rw [refused a]
  · exact begun.mono.trans ((routeDemand_touches x h.source p).mono.trans judged.mono)

end Sys2Proof.Machine
end

section
/-! SUPPORT. STANDBY, WAKE and the wake input (O19). -/

namespace Sys2Proof.Machine

-- As in Laws/Touches.lean: one theorem at a time.
set_option Elab.async false

/-! ## STANDBY (R36, R194, R196) -/

theorem tabled_cls (s : State) (dt : Micros) (f : Frame) : ((s.heard dt).tabled f).coup.cls = s.coup.cls := by
  let v := s.noted dt f
  let w := (v.judgeSilent s.anySilentWorker).pruneLag.refreshStrain
  have unit : w.coup = s.coup := ((refreshStrain_touches _).coup (by decide)).trans (((pruneLag_touches _).coup (by decide)).trans
    (((judgeSilent_touches _ _).coup (by decide)).trans ((noted_touches s dt f).coup (by decide))))
  rw [tabled_eq, show (s.noted dt f).tableChanged s.anySilentWorker = w.judgeWinch from rfl, judgeWinch_only, unit]

theorem routed_holder {s : State} {dt : Micros} {f : Frame} {g : State → State} {a : Addr} {e : Byte}
    (routes : ∀ x : State, x.route f = x.whenever (x.fromHolder a e) g) :
    (s.demand.view = { holder := some a, epoch := e } → ((s.heard dt).tabled f).route f = g ((s.heard dt).tabled f)) ∧
    (s.demand.view ≠ { holder := some a, epoch := e } → ((s.heard dt).tabled f).route f = (s.heard dt).tabled f) := by
  rw [routes, tabled_view]
  exact ⟨fun holder => whenever_pos ((fromHolder_iff _ _ _).mpr holder),
    fun n => whenever_neg (Bool.eq_false_iff.mpr fun k => n ((fromHolder_iff _ _ _).mp k))⟩

/-- A COUPLING station that a standing request sends to STANDBY. -/
def State.standsBy (s : State) : Bool := s.isCoup && s.station == .active && !aboveTaut s.coup.cls

/-- What a set request leaves at a station that keeps one. -/
structure Asked (s t : State) : Prop where
  start : t.start = { s.start with request := true }
  station : t.station = if s.standsBy then .standby else s.station
  record : t.demand.record = s.demand.record ∧ t.demand.view = s.demand.view
  rests : t.station ≠ s.station → t.coup.winch = .idle ∧ t.coup.interval = none ∧ t.demand.timeout = none ∧
    t.demand.hold = none ∧ t.conv = { s.conv with interval := ms 1000, series := some (s.clock - BitVec.ofNat 32 1000000) } ∧
    (s.load ≤ 7 → t.waits .strain = true)

theorem setRequest_asked {s : State} (helm : s.isHelm = false) : Asked s s.setRequest := by
  let u : State := { s with start := { s.start with request := true } }
  have eq : s.setRequest = u.whenever s.standsBy State.coupStandby := by
    have test : (u.isCoup && u.station == .active && u.start.request && !aboveTaut u.coup.cls) = s.standsBy := by
      unfold State.standsBy
      show (s.isCoup && s.station == .active && true && !aboveTaut s.coup.cls) = _
      rw [Bool.and_true]
    unfold State.setRequest State.judgeCoupStandby
    rw [if_neg (Bool.eq_false_iff.mp helm), test]
  rw [eq]
  cases stands : s.standsBy with
  | false => exact ⟨rfl, by rw [stands]; rfl, ⟨rfl, rfl⟩, fun n => absurd rfl n⟩
  | true =>
    refine ⟨rfl, by rw [stands]; rfl, ⟨rfl, rfl⟩, fun _ => ⟨rfl, rfl, rfl, rfl, rfl, fun free => ?_⟩⟩
    let v : State := { u with
      station := .standby, demand := u.demand.pause, coup := { u.coup.rest .idle with interval := none },
      conv := u.conv.restart u.clock (ms 1000) }
    exact (offer_loaded (s := v) .strain v.strainClass rfl free).2.1

theorem standby_leaves (s : State) (dt : Micros) (h : RxHeader) (epoch : Byte) (admits : s.Admits h.source .helm)
    (helm : s.isHelm = false) :
    ∃ t, exec (.standby dt h epoch) s = .next t ∧ t.clock = s.later dt ∧
      (s.demand.view = { holder := some h.source, epoch := epoch } →
        t.start = { s.start with request := true } ∧
        t.station = (if s.isCoup && s.station == .active && !aboveTaut s.coup.cls then .standby else s.station) ∧
        (t.station ≠ s.station →
          t.coup.winch = .idle ∧ t.coup.interval = none ∧ t.demand.timeout = none ∧ t.demand.hold = none ∧
          t.conv = { s.conv with interval := ms 1000, series := some (s.later dt - BitVec.ofNat 32 1000000) } ∧
          (s.comms.link.queue.length ≤ 6 → t.waits .strain = true))) ∧
      (s.demand.view ≠ { holder := some h.source, epoch := epoch } → t.start = s.start ∧ t.station = s.station) ∧
      t.demand.record = s.demand.record ∧ t.demand.view = s.demand.view := by
  let f : Frame := ⟨h.start, h.source, .helm, 1, .standby epoch⟩
  let x := (s.heard dt).tabled f
  let r := x.route f
  have judged : OnlyTouches [.coup] r (s.applied dt f) := applied_judged s dt f
  obtain ⟨asked, other⟩ := routed_holder (s := s) (dt := dt) (f := f) (g := State.setRequest) fun _ => rfl
  have station : x.station = s.station := tabled_station s dt f
  have demand : x.demand = s.demand := tabled_demand s dt f
  have set : s.demand.view = { holder := some h.source, epoch := epoch } → Asked x r := fun holder => by
    rw [show r = x.setRequest from asked holder]
    exact setRequest_asked ((tabled_isHelm s dt f).trans helm)
  have stands : x.standsBy = (s.isCoup && s.station == .active && !aboveTaut s.coup.cls) := by
    unfold State.standsBy
    rw [station, tabled_cls, isCoup_eq ((tabled_touches s dt f).role (by decide))]
  refine ⟨s.applied dt f, exec_applied rfl rfl admits, applied_clock s dt f, fun holder => ?_, fun n => ?_, ?_⟩
  · obtain ⟨start, now, -, rests⟩ := set holder
    rw [judged.start (by decide), judged.station (by decide), judged.demand (by decide), judged.conv (by decide),
      judged.waits .strain (by decide), start, now, stands, tabled_start, station]
    refine ⟨rfl, rfl, fun moved => ?_⟩
    have moved : r.station ≠ x.station := by rw [now, stands, station]; exact moved
    obtain ⟨idle, interval, timeout, hold, conv, waits⟩ := rests moved
    have away : r.station ≠ .active := by
      intro act
      rw [now] at act moved
      split at act
      · exact nomatch act
      next still => exact moved (if_neg still)
    rw [show s.applied dt f = r from judgeWinch_idle away, idle, interval, timeout, hold, conv,
      (tabled_touches s dt f).conv (by decide), tabled_clock]
    exact ⟨rfl, rfl, rfl, rfl, rfl, fun short => waits
      ((tabled_loaded dt f ((load_le s).trans (Nat.succ_le_succ short))).load.trans ((load_le s).trans (Nat.succ_le_succ short)))⟩
  · rw [judged.start (by decide), judged.station (by decide), show r = x from other n]
    exact ⟨tabled_start s dt f, station⟩
  · rw [judged.demand (by decide)]
    by_cases holder : s.demand.view = { holder := some h.source, epoch := epoch }
    · rw [← demand]
      exact (set holder).record
    · rw [show r = x from other holder, demand]
      exact ⟨rfl, rfl⟩

theorem standby_helm (s : State) (dt : Micros) (h : RxHeader) (epoch : Byte) (admits : s.Admits h.source .helm)
    (helm : s.isHelm = true) : ∃ t, exec (.standby dt h epoch) s = .next t ∧ t.start = s.start ∧ t.station = s.station := by
  let f : Frame := ⟨h.start, h.source, .helm, 1, .standby epoch⟩
  let x := (s.heard dt).tabled f
  let r := x.route f
  have judged : OnlyTouches [.coup] r (s.applied dt f) := applied_judged s dt f
  have still : r = x := by
    show x.whenever _ State.setRequest = x
    unfold State.whenever
    split
    · exact if_pos ((tabled_isHelm s dt f).trans helm)
    · rfl
  refine ⟨s.applied dt f, exec_applied rfl rfl admits, ?_⟩
  rw [judged.start (by decide), judged.station (by decide), still]
  exact ⟨tabled_start s dt f, tabled_station s dt f⟩

/-! ## WAKE and the wake input (R36, R140, R194 to R196) -/

theorem wake_leaves (s : State) (dt : Micros) (h : RxHeader) (epoch : Byte) (admits : s.Admits h.source .helm)
    (known : s.role ≠ none) :
    ∃ t, exec (.wake dt h epoch) s = .next t ∧ t.clock = s.later dt ∧
      (s.demand.view = { holder := some h.source, epoch := epoch } →
        t.start = { s.start with request := false } ∧
        t.station = (if s.start.request && s.station == .standby && !s.isHelm then .active else s.station) ∧
        (t.station ≠ s.station → t.RepeatsAfresh) ∧
        (t.station ≠ s.station → s.isProp = true →
          t.thrust.stateSeries = startTimer (s.later dt) (ms (s.param Param.stateInterval)) ∧
          t.thrust.economy = startTimer (s.later dt) (sec 1) ∧
          t.meter.interval = startTimer (s.later dt) (sec (s.param Param.fuelInterval)) ∧
          (s.line 2 = false → t.has .engineNotReady = true) ∧
          (s.comms.link.queue.length ≤ 5 → t.waits .propState = true)) ∧
        (t.station ≠ s.station → s.isCoup = true →
          t.conv = { s.conv with interval := ms 50, series := some (s.later dt - BitVec.ofNat 32 50000) } ∧
          t.coup.interval = startTimer (s.later dt) (ms (s.param Param.strainInterval)) ∧
          (s.comms.link.queue.length ≤ 6 → t.waits .strain = true))) ∧
      (s.demand.view ≠ { holder := some h.source, epoch := epoch } → t.start = s.start ∧ t.station = s.station) ∧
      t.demand.record = s.demand.record ∧ t.demand.view = s.demand.view := by
  let f : Frame := ⟨h.start, h.source, .helm, 1, .wake epoch⟩
  let x := (s.heard dt).tabled f
  let r := x.route f
  have judged : OnlyTouches [.coup] r (s.applied dt f) := applied_judged s dt f
  obtain ⟨cleared, other⟩ := routed_holder (s := s) (dt := dt) (f := f) (g := State.clearRequest) fun _ => rfl
  have touches : OnlyTouches _ s x := tabled_touches s dt f
  have station : x.station = s.station := tabled_station s dt f
  have start : x.start = s.start := tabled_start s dt f
  have demand : x.demand = s.demand := tabled_demand s dt f
  have clock : x.clock = s.later dt := tabled_clock s dt f
  have role : x.role = s.role := touches.role (by decide)
  have param : ∀ p, x.param p = s.param p := fun p => by unfold State.param; rw [start]
  have wakes : s.demand.view = { holder := some h.source, epoch := epoch } → Wakes x r := fun holder => by
    rw [show r = x.clearRequest from cleared holder]
    exact clearRequest_wakes x
  have room (n : Nat) (short : s.comms.link.queue.length ≤ n) (le : n ≤ 6) : x.load ≤ n + 1 := by
    have begun : s.load ≤ n + 1 := (load_le s).trans (Nat.succ_le_succ short)
    exact (tabled_loaded dt f (begun.trans (Nat.succ_le_succ le))).load.trans begun
  refine ⟨s.applied dt f, exec_applied rfl rfl admits, applied_clock s dt f, fun holder => ?_, fun n => ?_, ?_⟩
  · have w := wakes holder
    have comes : x.comesBack = (s.start.request && s.station == .standby && !s.isHelm) :=
      (comesBack_eq start station role).trans (comesBack_iff known)
    have moved : (s.applied dt f).station ≠ s.station → r.station ≠ x.station := fun n => by
      rw [station, ← judged.station (by decide)]
      exact n
    refine ⟨?_, ?_, fun n => ?_, fun n prop => ?_, fun n coup => ?_⟩
    · rw [judged.start (by decide), w.start, start]
    · rw [judged.station (by decide), w.station, comes, station]
    · have afresh := w.afresh (moved n)
      unfold State.RepeatsAfresh at afresh ⊢
      rw [judged.alerts (by decide), judged.clock (by decide)]
      exact afresh
    · obtain ⟨series, economy, fuel, engine, waits⟩ := w.prop (moved n) ((isProp_eq role).trans prop)
      rw [judged.thrust (by decide), judged.meter (by decide), judged.has (by decide), judged.waits .propState (by decide),
        series, economy, fuel, clock, param, param]
      refine ⟨rfl, rfl, rfl, fun off => engine ?_, fun short => waits (room 5 short (by decide))⟩
      unfold State.line
      rw [touches.lines (by decide)]
      exact off
    · obtain ⟨conv, interval, waits⟩ := w.coup (moved n) ((isCoup_eq role).trans coup)
      have unit : (s.applied dt f).coup.interval = r.coup.interval := by
        rw [show s.applied dt f = r.judgeWinch from rfl, judgeWinch_only]
      rw [judged.conv (by decide), unit, judged.waits .strain (by decide), conv, interval, touches.conv (by decide), clock, param]
      exact ⟨rfl, rfl, fun short => waits (room 6 short (by decide))⟩
  · rw [judged.start (by decide), judged.station (by decide), show r = x from other n]
    exact ⟨start, station⟩
  · rw [judged.demand (by decide), ← demand]
    by_cases holder : s.demand.view = { holder := some h.source, epoch := epoch }
    · exact ⟨(wakes holder).record.1, (wakes holder).record.2.1⟩
    · rw [show r = x from other holder]
      exact ⟨rfl, rfl⟩

theorem exec_wakeInput {s : State} (dt : Micros) (on : Bool) (worker : s.isProp = true ∨ s.isCoup = true) :
    exec (.wakeInput dt on) s = .next ((s.advance dt).wakeChange (if s.isProp then 7 else 2) on) := by
  unfold exec execWakeInput
  dsimp only
  rcases worker with prop | coup
  · rw [if_pos prop, show (s.advance dt).role = _ from (isProp_iff s).mp prop]
  · rw [if_neg (by rw [isProp_of_coup coup]; nofun), show (s.advance dt).role = _ from (isCoup_iff s).mp coup]

theorem wakeInput_leaves (s : State) (dt : Micros) (on : Bool) (worker : s.isProp = true ∨ s.isCoup = true) :
    let i : Fin 16 := if s.isProp then 7 else 2
    ∃ t, exec (.wakeInput dt on) s = .next t ∧ t.clock = s.later dt ∧ t.lines = s.lines.set i on ∧
      (s.line i = false → on = true → s.station.acting = true →
        t.start = { s.start with request := false } ∧
        t.station = (if s.start.request then .active else s.station) ∧
        (t.station ≠ s.station → t.RepeatsAfresh)) ∧
      (s.line i = true ∨ on = false ∨ s.station.acting = false → OnlyTouches [.clock, .lines] s t) ∧
      OnlyTouches [.clock, .lines, .station, .start, .present, .alerts, .link, .demand, .thrust, .meter, .coup, .conv]
        s t := by
  intro i
  let u := (s.advance dt).setLine i on
  let t := u.whenever (!s.line i && on && s.station.acting) State.clearRequest
  have lined : OnlyTouches [.clock, .lines] s u := (advance_touches s dt).mono.trans (setLine_touches _ i on).mono
  have after : OnlyTouches standParts u t := whenever_touches u _ (clearRequest_touches u)
  refine ⟨t, exec_wakeInput dt on worker, after.clock (by decide), after.lines (by decide), fun off rise act => ?_, fun still => ?_,
    lined.mono.trans after.mono⟩
  · have eq : t = u.clearRequest := whenever_pos (by rw [off, rise, act]; rfl)
    have wakes := clearRequest_wakes u
    rw [← eq] at wakes
    refine ⟨wakes.start, ?_, wakes.afresh⟩
    rw [wakes.station]
    have comes : u.comesBack = (s.start.request && s.station == .standby) := by
      show (s.start.request && s.station == .standby && (s.isProp || s.isCoup)) = _
      rw [show (s.isProp || s.isCoup) = true from Bool.or_eq_true _ _ ▸ worker, Bool.and_true]
    rw [comes]
    show (if _ then _ else s.station) = _
    cases s.start.request with
    | false => rfl
    | true =>
      cases stands : s.station with
      | active | standby => rfl
      | _ => rw [stands] at act; exact nomatch act
  · have eq : t = u := by
      refine whenever_neg ?_
      rcases still with h | h | h <;> rw [h] <;> simp
    rw [eq]
    exact lined

/-- Settles O19. -/
theorem standingRequest : Obligations.StandingRequest :=
  ⟨standby_leaves, standby_helm, wake_leaves, wakeInput_leaves⟩

end Sys2Proof.Machine
end

section
/-! SUPPORT. FUEL and ACCOUNT (O20, O21). -/

namespace Sys2Proof.Machine

-- As in Laws/Touches.lean: one theorem at a time.
set_option Elab.async false

/-! ## The marks of a START (R124, R144) -/

/-- A frame whose START a HELM station's account and view take. -/
def State.marks (s : State) (f : Frame) : Bool := f.start && s.isHelm && s.station.timing

/-- The view with the ack flags of a restarted station's items cleared. -/
def ViewUnit.restarted (v : ViewUnit) (a : Addr) : ViewUnit :=
  { v with items := v.items.map (fun i => if i.station == a then { i with requested := false, sent := false } else i) }

/-- The account with a station's restart mark set. -/
def AccountUnit.marked (u : AccountUnit) (a : Addr) : AccountUnit :=
  { u with records := u.records.set a { u.records.get a with restart := true } }

theorem markRestart_account (s : State) (a : Addr) : (s.markRestart a).account =
    if s.isHelm && s.station.timing then s.account.marked a else s.account := by
  unfold State.markRestart State.whenever
  split <;> rfl

theorem restartItems_view (s : State) (a : Addr) : (s.restartItems a).view =
    if s.isHelm && s.station.timing then s.view.restarted a else s.view := by
  unfold State.restartItems State.whenever
  split <;> rfl

theorem noteStart_marks (s : State) (f : Frame) : (s.noteStart f).account =
    (if s.marks f then s.account.marked f.source else s.account) ∧
      (s.noteStart f).view = (if s.marks f then s.view.restarted f.source else s.view) := by
  unfold State.noteStart State.marks State.whenever
  have touches := markRestart_touches s f.source
  cases f.start with
  | false => exact ⟨rfl, rfl⟩
  | true =>
    rw [if_pos rfl, Bool.true_and, (restartItems_touches _ _).account (by decide), markRestart_account, restartItems_view,
      isHelm_eq (touches.role (by decide)), touches.station (by decide), touches.view (by decide)]
    exact ⟨rfl, rfl⟩

theorem tabled_marks (s : State) (dt : Micros) (f : Frame) :
    ((s.heard dt).tabled f).account = (if s.marks f then s.account.marked f.source else s.account) ∧
    ((s.heard dt).tabled f).view = (if s.marks f then s.view.restarted f.source else s.view) := by
  have heard := heard_touches s dt
  have begun : OnlyTouches [.clock, .present, .alerts, .link, .peers] s ((s.heard dt).updateEntry f) :=
    heard.mono.trans (updateEntry_touches _ f).mono
  have after := tableChanged_follows (s.noted dt f) s.anySilentWorker
  obtain ⟨account, view⟩ := noteStart_marks ((s.heard dt).updateEntry f) f
  have marks : ((s.heard dt).updateEntry f).marks f = s.marks f := by
    unfold State.marks
    rw [isHelm_eq (begun.role (by decide)), begun.station (by decide)]
  rw [marks, begun.account (by decide)] at account
  rw [marks, begun.view (by decide)] at view
  rw [tabled_eq, after.account (by decide), after.view (by decide)]
  exact ⟨account, view⟩

/-! ## FUEL (R123 to R128) -/

theorem judgeTankLow_has {s : State} (helm : s.isHelm = true) (reports : s.station.helmReporting = true) :
    s.judgeTankLow.has .tankLow = s.account.anyLow := by
  have eq : s.judgeTankLow = s.follow .tankLow s.account.anyLow := whenever_pos (by rw [helm, reports]; rfl)
  rw [eq]
  exact follow_has_self s (c := .tankLow) _ nofun

theorem judgeTankLow_account (s : State) : s.judgeTankLow.account = s.account := (judgeTankLow_touches s).account (by decide)

/-- The account once a record has taken a FUEL. -/
structure Booked (s : State) (a : Addr) (r : AccountRecord) (u : AccountUnit) : Prop where
  record : u.records.get a = r
  others : ∀ b, b ≠ a → u.records.get b = s.account.records.get b
  totals : ∀ k, u.totals.get k = convoyTotal u.records k
  low : ∀ k, u.low.get k = if u.totals.get k = s.account.totals.get k then s.account.low.get k
    else tankLow (s.param (Param.tankAllowance k)) (s.param (Param.tankReserve k)) (u.totals.get k) (s.account.baselines.get k)
  rest : u.baselines = s.account.baselines ∧ u.holderLow = s.account.holderLow ∧ u.interval = s.account.interval

theorem accountWith_booked (s : State) (a : Addr) (r : AccountRecord) : Booked s a r (s.accountWith a r) := by
  have totals : ∀ k, (s.accountWith a r).totals.get k = convoyTotal (s.account.records.set a r) k := fun k =>
    Tab.get_of4 (convoyTotal (s.account.records.set a r)) k
  refine ⟨Tab.get_set_self _ _ _, fun b n => Tab.get_set_ne _ _ n, totals, fun k => ?_, rfl, rfl, rfl⟩
  exact Tab.get_of4 (fun k => if (s.accountWith a r).totals.get k = s.account.totals.get k then s.account.low.get k
    else tankLow (s.param (Param.tankAllowance k)) (s.param (Param.tankReserve k)) ((s.accountWith a r).totals.get k)
      (s.account.baselines.get k)) k

theorem Booked.again {s : State} {a : Addr} {r : AccountRecord} {u v : AccountUnit} (h : Booked s a r u)
    (same : v = { u with lastDisc := v.lastDisc }) : Booked s a r v := by
  rw [same]
  exact ⟨h.record, h.others, h.totals, h.low, h.rest⟩

/-- What a FUEL leaves of the account and the reports. -/
structure Fuelled (s : State) (a : Addr) (p : FuelFields) (t : State) : Prop where
  booked : Booked s a ((s.account.records.get a).apply p.totals) t.account
  disc : (s.account.records.get a).breaks p.totals = true → t.account.lastDisc = some s.clock ∧
    (s.station.helmReporting = true → t.has .fuelDiscontinuity = true)
  smooth : (s.account.records.get a).breaks p.totals = false → t.account.lastDisc = s.account.lastDisc
  low : s.station.helmReporting = true → t.has .tankLow = t.account.anyLow

theorem discontinuity_parts (s : State) : s.discontinuity.account = { s.account with lastDisc := some s.clock } ∧
    (s.station.helmReporting = true → s.discontinuity.has .fuelDiscontinuity = true) := by
  let t : State := { s with account := { s.account with lastDisc := some s.clock } }
  have raised := whenever_touches (f := fun t => t.raiseNew .fuelDiscontinuity) t t.station.helmReporting
    (raiseNew_touches t .fuelDiscontinuity)
  refine ⟨raised.account (by decide), fun reports => ?_⟩
  have eq : s.discontinuity = t.raiseNew .fuelDiscontinuity := whenever_pos (s := t) (f := fun t => t.raiseNew .fuelDiscontinuity) reports
  rw [eq]
  exact raiseNew_has_self t _

theorem takeFuel_fuelled {s : State} {a : Addr} {p : FuelFields} (helm : s.isHelm = true) (timing : s.station.timing = true)
    (takes : s.accountTakes a = true) : Fuelled s a p (s.takeFuel a p) := by
  let r := s.account.records.get a
  let u : State := { s with account := s.accountWith a (r.apply p.totals) }
  let w := if r.breaks p.totals then u.discontinuity else u
  have eq : s.takeFuel a p = w.judgeTankLow :=
    whenever_pos (s := s) (f := fun s => (if (s.account.records.get a).breaks p.totals
      then State.discontinuity { s with account := s.accountWith a ((s.account.records.get a).apply p.totals) }
      else { s with account := s.accountWith a ((s.account.records.get a).apply p.totals) }).judgeTankLow)
      (by rw [helm, timing, takes]; rfl)
  have account : (s.takeFuel a p).account = w.account := by rw [eq, judgeTankLow_account]
  have booked := accountWith_booked s a (r.apply p.totals)
  obtain ⟨broken, raised⟩ := discontinuity_parts u
  have same : OnlyTouches (.account :: commsParts) u w := by
    show OnlyTouches _ u (if _ then _ else _)
    split
    · exact discontinuity_touches u
    · exact .refl _ _
  refine ⟨?_, fun breaks => ?_, fun smooth => ?_, fun reports => ?_⟩
  · rw [account]
    refine booked.again ?_
    cases breaks : r.breaks p.totals with
    | true => rw [show w = u.discontinuity from if_pos breaks, broken]
    | false => rw [show w = u from if_neg (Bool.eq_false_iff.mp breaks)]
  · have taken : w = u.discontinuity := if_pos breaks
    rw [account, taken, broken]
    refine ⟨rfl, fun reports => ?_⟩
    rw [eq, taken, judgeTankLow_tells _ .fuelDiscontinuity (by decide) nofun]
    exact raised reports
  · rw [account, show w = u from if_neg (Bool.eq_false_iff.mp smooth)]
    rfl
  · rw [account, eq]
    exact judgeTankLow_has ((isHelm_eq (same.role (by decide))).trans helm) (by rw [same.station (by decide)]; exact reports)

theorem fuelCase_eq (new last : BitVec 32) (mark : Bool) : fuelCase new last mark =
    if new.toNat < last.toNat then
      if mark then .restart
      else if 3 * 2 ^ 30 ≤ last.toNat ∧ new.toNat < 2 ^ 30 then .wrap else .discontinuity
    else .advance := by
  unfold fuelCase
  split
  next le => rw [if_neg (Nat.not_lt.mpr le)]
  next gt =>
    rw [if_pos (Nat.lt_of_not_le gt)]
    norm_num

theorem breaks_iff (r : AccountRecord) (totals : Tab 4 (BitVec 32)) :
    r.breaks totals = true ↔ ∃ k, r.caseOf totals k = .discontinuity := by
  simp only [AccountRecord.breaks, Bool.or_eq_true, beq_iff_eq]
  constructor
  · rintro (((h | h) | h) | h)
    · exact ⟨0, h⟩
    · exact ⟨1, h⟩
    · exact ⟨2, h⟩
    · exact ⟨3, h⟩
  · rintro ⟨k, h⟩
    fin_cases k
    · exact .inl (.inl (.inl h))
    · exact .inl (.inl (.inr h))
    · exact .inl (.inr h)
    · exact .inr h

end Sys2Proof.Machine
end

section
/-! SUPPORT. FUEL and ACCOUNT settled (O20, O21). -/

namespace Sys2Proof.Machine

-- As in Laws/Touches.lean: one theorem at a time.
set_option Elab.async false

/-- What a FUEL or an ACCOUNT touches. -/
theorem fuelFrame_touches {s : State} {dt : Micros} {f : Frame}
    (routed : OnlyTouches (.account :: commsParts) ((s.heard dt).tabled f) (((s.heard dt).tabled f).route f)) : OnlyTouches
      [.clock, .present, .alerts, .link, .peers, .account, .view, .helm, .thrust, .gov, .outputs, .coup] s (s.applied dt f) :=
  (tabled_touches s dt f).mono.trans (routed.mono.trans (applied_judged s dt f).mono)

/-- A START leaves all of the account but its source's mark. -/
theorem tabled_account_rest (s : State) (dt : Micros) (f : Frame) :
    ((s.heard dt).tabled f).account = { s.account with records := ((s.heard dt).tabled f).account.records } := by
  rw [(tabled_marks s dt f).1]
  split <;> rfl

/-- The record of a frame's source as its FUEL finds it. -/
theorem tabled_record {s : State} (dt : Micros) (f : Frame) (helm : s.isHelm = true) (timing : s.station.timing = true) :
    ((s.heard dt).tabled f).account.records.get f.source =
      { s.account.records.get f.source with restart := (s.account.records.get f.source).restart || f.start } := by
  have marks : s.marks f = f.start := by
    unfold State.marks
    rw [helm, timing, Bool.and_true, Bool.and_true]
  rw [(tabled_marks s dt f).1, marks]
  cases f.start with
  | true =>
    rw [if_pos rfl, Bool.or_true]
    exact Tab.get_set_self _ _ _
  | false => rw [if_neg nofun, Bool.or_false]

theorem tabled_record_ne (s : State) (dt : Micros) (f : Frame) {a : Addr} (n : a ≠ f.source) :
    ((s.heard dt).tabled f).account.records.get a = s.account.records.get a := by
  rw [(tabled_marks s dt f).1]
  split
  · exact Tab.get_set_ne _ _ n
  · rfl

/-- The role test of the account at an applied frame of a PROPULSION station. -/
theorem tabled_takes {s : State} {dt : Micros} {f : Frame} (role : f.role = .propulsion) (prop : payloadKind f.payload ≠ .propState)
    (strain : payloadKind f.payload ≠ .strain) (admits : s.Admits f.source .propulsion) :
    ((s.heard dt).tabled f).accountTakes f.source = true := by
  unfold State.accountTakes
  rw [(tabled_tabled s dt f).source, entryAfter_heard _ prop strain, role]
  cases stored : s.peers.entries.get f.source with
  | none => rfl
  | some e =>
    have agrees := admits.2.2.2 e stored
    show (bodyRole (bodyHeard f.start e.body) == .propulsion) = true
    obtain ⟨body, l, since⟩ := e
    cases body with
    | propulsion => rfl
    | helm => exact nomatch agrees
    | coupling => exact nomatch agrees

theorem apply_carried (r : AccountRecord) (totals : Tab 4 (BitVec 32)) (k : Fin 4) :
    (r.apply totals).carried.get k = r.carriedOf totals k := Tab.get_of4 (r.carriedOf totals) k

/-- The carried value of a tank by the case its new total makes. -/
theorem carriedOf_cases (r : AccountRecord) (totals : Tab 4 (BitVec 32)) (k : Fin 4) :
    let falls := (totals.get k).toNat < (r.last.get k).toNat
    let wraps := 3 * 2 ^ 30 ≤ (r.last.get k).toNat ∧ (totals.get k).toNat < 2 ^ 30
    (¬ falls → r.carriedOf totals k = r.carried.get k) ∧
    (falls → r.restart = true → r.carriedOf totals k = r.carried.get k + (r.last.get k).toNat) ∧
    (falls → r.restart = false → wraps → r.carriedOf totals k = r.carried.get k + 2 ^ 32) ∧
    (falls → r.restart = false → ¬ wraps → r.carriedOf totals k = r.carried.get k + (r.last.get k).toNat) := by
  unfold AccountRecord.carriedOf AccountRecord.caseOf
  rw [fuelCase_eq]
  refine ⟨fun n => ?_, fun falls mark => ?_, fun falls mark wraps => ?_, fun falls mark wraps => ?_⟩
  · rw [if_neg n]; rfl
  · rw [if_pos falls, if_pos mark]; rfl
  · rw [if_pos falls, if_neg (by rw [mark]; nofun), if_pos wraps]; rfl
  · rw [if_pos falls, if_neg (by rw [mark]; nofun), if_neg wraps]; rfl

theorem breaks_falls (r : AccountRecord) (totals : Tab 4 (BitVec 32)) : r.breaks totals = true ↔
    r.restart = false ∧ ∃ k, (totals.get k).toNat < (r.last.get k).toNat ∧
      ¬ (3 * 2 ^ 30 ≤ (r.last.get k).toNat ∧ (totals.get k).toNat < 2 ^ 30) := by
  rw [breaks_iff]
  unfold AccountRecord.caseOf
  constructor
  · rintro ⟨k, breaks⟩
    rw [fuelCase_eq] at breaks
    split at breaks
    next falls =>
      split at breaks
      · exact nomatch breaks
      next unmarked =>
        split at breaks
        · exact nomatch breaks
        next n => exact ⟨Bool.eq_false_iff.mpr unmarked, k, falls, n⟩
    · exact nomatch breaks
  · rintro ⟨unmarked, k, falls, n⟩
    refine ⟨k, ?_⟩
    rw [fuelCase_eq, if_pos falls, if_neg (Bool.eq_false_iff.mp unmarked), if_neg n]

/-- Settles O20. -/
theorem fuelEntersTheAccount : Obligations.FuelEntersTheAccount := by
  intro s dt h p admits r marked falls wraps breaks
  let f : Frame := ⟨h.start, h.source, .propulsion, 3, .fuel p⟩
  let x := (s.heard dt).tabled f
  let t := s.applied dt f
  have judged : OnlyTouches [.coup] (x.takeFuel h.source p) t := applied_judged s dt f
  have touches : OnlyTouches _ s t := fuelFrame_touches (f := f) (takeFuel_touches x h.source p)
  have helmed : x.isHelm = s.isHelm := tabled_isHelm s dt f
  have station : x.station = s.station := tabled_station s dt f
  have rest : x.account = { s.account with records := x.account.records } := tabled_account_rest s dt f
  have param : ∀ q, x.param q = s.param q := fun q => by
    unfold State.param
    rw [tabled_start s dt f]
  have account : t.account = (x.takeFuel h.source p).account := judged.account (by decide)
  refine ⟨t, exec_applied (f := f) rfl rfl admits, applied_clock s dt f, fun helm timing => ?_, fun other => ?_, ?_⟩
  · let R := x.account.records.get h.source
    have record : R = { r with restart := marked } := tabled_record dt f helm timing
    obtain ⟨booked, disc, smooth, low⟩ := takeFuel_fuelled (s := x) (a := h.source) (p := p) (helmed.trans helm)
      (by rw [station]; exact timing) (tabled_takes rfl nofun nofun admits)
    have stored : t.account.records.get h.source = R.apply p.totals := by rw [account]; exact booked.record
    have cases_k := fun k => carriedOf_cases R p.totals k
    have carried : ∀ k, (t.account.records.get h.source).carried.get k = R.carriedOf p.totals k := fun k => by
      rw [stored]
      exact apply_carried R p.totals k
    have breaksIff : R.breaks p.totals = true ↔ breaks := by
      rw [breaks_falls, record]
    rw [record] at cases_k
    refine ⟨by rw [stored]; rfl, by rw [stored]; rfl, fun k n => ?_, fun k fell mark => ?_, fun k fell mark wrap => ?_,
      fun k fell mark wrap => ?_, fun a n => ?_, fun k => ?_, fun k => ?_, fun b => ?_, fun n => ?_, fun reports => ?_⟩
    · rw [carried, record]; exact (cases_k k).1 n
    · rw [carried, record]; exact (cases_k k).2.1 fell mark
    · rw [carried, record]; exact (cases_k k).2.2.1 fell mark wrap
    · rw [carried, record]; exact (cases_k k).2.2.2 fell mark wrap
    · rw [account, booked.others a n]
      exact tabled_record_ne s dt f n
    · rw [account]; exact booked.totals k
    · rw [account, booked.low k, param, param, rest]
    · obtain ⟨last, raised⟩ := disc (breaksIff.mpr b)
      rw [account, last, tabled_clock s dt f, judged.has (by decide)]
      exact ⟨rfl, fun reports => raised (by rw [station]; exact reports)⟩
    · rw [account, smooth (Bool.eq_false_iff.mpr fun k => n (breaksIff.mp k)), rest]
    · rw [judged.has (by decide), account]
      exact low (by rw [station]; exact reports)
  · have still : x.takeFuel h.source p = x := by
      refine whenever_neg ?_
      rw [helmed, other]
      rfl
    rw [account, still, (tabled_marks s dt f).1]
    refine if_neg ?_
    unfold State.marks
    rw [other, Bool.and_false]
    nofun
  · have kept : t.account.baselines = s.account.baselines ∧ t.account.holderLow = s.account.holderLow ∧
        t.account.interval = s.account.interval := by
      rw [account]
      by_cases takes : (x.isHelm && x.station.timing && x.accountTakes h.source) = true
      · simp only [Bool.and_eq_true] at takes
        obtain ⟨⟨helm, timing⟩, taken⟩ := takes
        have booked := (takeFuel_fuelled (p := p) helm timing taken).booked.rest
        rw [rest] at booked
        exact booked
      · rw [show x.takeFuel h.source p = x from whenever_neg (Bool.eq_false_iff.mpr takes), rest]
        exact ⟨rfl, rfl, rfl⟩
    exact ⟨kept.1, kept.2.1, kept.2.2, touches.demand (by decide), touches⟩

/-! ## ACCOUNT (R130) -/

/-- Settles O21. -/
theorem accountGivesHolderFlags : Obligations.AccountGivesHolderFlags := by
  intro s dt h p admits taken
  let f : Frame := ⟨h.start, h.source, .helm, 3, .account p⟩
  let x := (s.heard dt).tabled f
  let r := x.takeAccount h.source p
  let t := s.applied dt f
  have judged : OnlyTouches [.coup] r t := applied_judged s dt f
  have touches : OnlyTouches _ s t := fuelFrame_touches (f := f) (takeAccount_touches x h.source p)
  have station : x.station = s.station := tabled_station s dt f
  have helmed : x.isHelm = s.isHelm := tabled_isHelm s dt f
  have rest : x.account = { s.account with records := x.account.records } := tabled_account_rest s dt f
  have account : t.account = r.account := judged.account (by decide)
  have test : (x.isHelm && x.station.timing && x.demand.view.holder == some h.source && x.helm.con != .holding) = true ↔ taken := by
    rw [helmed, station, tabled_demand s dt f, tabled_con s dt f]
    simp only [Bool.and_eq_true, beq_iff_eq, bne_iff_ne, and_assoc]
    rfl
  have takes : taken → r = x.setHolderLow (some p.low) := fun k =>
    whenever_pos (s := x) (f := fun s => s.setHolderLow (some p.low)) (test.mpr k)
  have stays : ¬ taken → r = x := fun n => whenever_neg (Bool.eq_false_iff.mpr fun k => n (test.mp k))
  have flagged : (x.setHolderLow (some p.low)).account = { x.account with holderLow := some p.low } := judgeTankLow_account _
  have records : t.account = { x.account with holderLow := t.account.holderLow } := by
    rw [account]
    by_cases k : taken
    · rw [takes k, flagged]
    · rw [stays k]
  refine ⟨t, exec_applied (f := f) rfl rfl admits, applied_clock s dt f, fun k => ⟨?_, fun reports => ?_⟩, fun n => ?_, ?_⟩
  · rw [account, takes k, flagged]
  · have eq := judgeTankLow_has (s := { x with account := { x.account with holderLow := some p.low } }) (helmed.trans k.1)
      (by rw [← station] at reports; exact reports)
    rw [judged.has (by decide), account, takes k, flagged]
    exact eq
  · rw [account, stays n, rest]
  · rw [records, rest]
    refine ⟨rfl, rfl, rfl, rfl, rfl, fun still => ?_, touches.demand (by decide), touches⟩
    have same : x.account = s.account := (tabled_account s dt (f := f) still).1
    rw [same]

end Sys2Proof.Machine
end

section
/-! SUPPORT. The items of an ALERT in the convoy alert view (R143, R144, R146). -/

namespace Sys2Proof.Machine

-- As in Laws/Touches.lean: one theorem at a time.
set_option Elab.async false

variable {holding : Bool} {a : Addr}

/-! ## One item of the view by station and code -/

theorem itemFor_iff (a : Addr) (c : AlertCode) (i : ViewItem) : itemFor a c i = true ↔ i.station = a ∧ i.code = c := by
  unfold itemFor
  rw [Bool.and_eq_true_iff, beq_iff_eq, beq_iff_eq]

/-- A report leaves an item its station and its code. -/
theorem reportWhere_key (r : AlertItem) (b : Bool) (i : ViewItem) :
    (if b then reportItem holding r i else i).station = i.station ∧ (if b then reportItem holding r i else i).code = i.code := by
  split <;> exact ⟨rfl, rfl⟩

/-- The item that a report of an entry leaves, from the one the view held. -/
def reported (holding : Bool) (a : Addr) (r : AlertItem) : Option ViewItem → ViewItem
  | some o => reportItem holding r o
  | none => newItem a r

theorem takeItem_find {l : List ViewItem} (r : AlertItem) (c : AlertCode) (room : l.length < 48) :
    (takeItem holding a l r).find? (itemFor a c) =
      if c = r.code then some (reported holding a r (l.find? (itemFor a c))) else l.find? (itemFor a c) := by
  unfold takeItem
  split
  next known =>
    have through : itemFor a c ∘ (fun i => if itemFor a r.code i then reportItem holding r i else i) = itemFor a c := by
      funext i
      dsimp only [Function.comp]
      split <;> rfl
    rw [List.find?_map, through]
    split
    next same =>
      subst same
      obtain ⟨i, mem, key⟩ := List.any_eq_true.mp known
      cases found : l.find? (itemFor a r.code) with
      | none => exact absurd key (List.find?_eq_none.mp found i mem)
      | some o => exact congrArg some (if_pos (List.find?_some found))
    next other =>
      cases found : l.find? (itemFor a c) with
      | none => rfl
      | some o =>
        have code := ((itemFor_iff _ _ _).mp (List.find?_some found)).2
        exact congrArg some (if_neg fun k => other (code.symm.trans ((itemFor_iff _ _ _).mp k).2))
  next unknown =>
    rw [List.find?_append]
    split
    next same =>
      subst same
      have none_found : l.find? (itemFor a r.code) = none := by
        rw [List.find?_eq_none]
        exact fun i mem key => unknown (List.any_eq_true.mpr ⟨i, mem, key⟩)
      have own : itemFor a r.code (newItem a r) = true := (itemFor_iff _ _ _).mpr ⟨rfl, rfl⟩
      rw [none_found, List.find?_cons_of_pos own]
      rfl
    next other =>
      have apart : ¬ itemFor a c (newItem a r) = true := fun k => other ((itemFor_iff _ _ _).mp k).2.symm
      rw [List.find?_cons_of_neg apart]
      exact Option.or_none

theorem takeItem_length (l : List ViewItem) (r : AlertItem) : (takeItem holding a l r).length ≤ l.length + 1 ∧
    l.length ≤ (takeItem holding a l r).length := by
  unfold takeItem
  split
  · rw [List.length_map]
    exact ⟨Nat.le_succ _, le_rfl⟩
  · split
    · rw [List.length_append]
      exact ⟨le_rfl, Nat.le_succ _⟩
    · exact ⟨Nat.le_succ _, le_rfl⟩

/-- A frame's items of other codes leave an item as it stood. -/
theorem takeItems_find_other (c : AlertCode) : ∀ (rs : List AlertItem) (l : List ViewItem),
    l.length + rs.length ≤ 48 → c ∉ rs.map AlertItem.code →
    (takeItems holding a l rs).find? (itemFor a c) = l.find? (itemFor a c)
  | [], _, _, _ => rfl
  | r :: rs, l, room, n => by
    rw [List.length_cons] at room
    rw [List.map_cons, List.mem_cons, not_or] at n
    have grown := (takeItem_length (holding := holding) (a := a) l r).1
    exact (takeItems_find_other c rs _ (by omega) n.2).trans ((takeItem_find r c (by omega)).trans (if_neg n.1))

/-- A frame of differing codes leaves each of its items as reported. -/
theorem takeItems_find : ∀ (rs : List AlertItem) (l : List ViewItem), l.length + rs.length ≤ 48 →
    (rs.map AlertItem.code).Nodup → ∀ r ∈ rs,
      (takeItems holding a l rs).find? (itemFor a r.code) = some (reported holding a r (l.find? (itemFor a r.code)))
  | q :: rs, l, room, once, r, mem => by
    rw [List.length_cons] at room
    rw [List.map_cons, List.nodup_cons] at once
    have grown := (takeItem_length (holding := holding) (a := a) l q).1
    rcases List.mem_cons.mp mem with rfl | later
    · exact (takeItems_find_other _ rs _ (by omega) once.1).trans ((takeItem_find r _ (by omega)).trans (if_pos rfl))
    · have other : r.code ≠ q.code := fun e => once.1 (e ▸ List.mem_map.mpr ⟨r, later, rfl⟩)
      rw [show takeItems holding a l (q :: rs) = takeItems holding a (takeItem holding a l q) rs from rfl,
        takeItems_find rs _ (by omega) once.2 r later, takeItem_find q _ (by omega), if_neg other]

/-! ## What stays in the view -/

theorem takeItem_others (l : List ViewItem) (r : AlertItem) :
    (takeItem holding a l r).filter (fun i => i.station != a) = l.filter (fun i => i.station != a) := by
  unfold takeItem
  split
  · rw [List.filter_map]
    have through : (fun i : ViewItem => i.station != a) ∘ (fun i => if itemFor a r.code i then reportItem holding r i else i) =
        fun i => i.station != a := by
      funext i
      dsimp only [Function.comp]
      split <;> rfl
    rw [through]
    refine (List.map_congr_left fun i mem => if_neg fun k => ?_).trans (List.map_id _)
    have away := (List.mem_filter.mp mem).2
    rw [((itemFor_iff _ _ _).mp k).1, bne_self_eq_false] at away
    exact nomatch away
  · split
    · rw [List.filter_append, List.filter_cons_of_neg (by show ¬ (a != a) = true; simp)]
      exact List.append_nil _
    · rfl

theorem takeItems_others : ∀ (rs : List AlertItem) (l : List ViewItem),
    (takeItems holding a l rs).filter (fun i => i.station != a) = l.filter (fun i => i.station != a)
  | [], _ => rfl
  | r :: rs, l => (takeItems_others rs _).trans (takeItem_others l r)

theorem takeItem_keeps_key {l : List ViewItem} (r : AlertItem) {o : ViewItem} (mem : o ∈ l) :
    ∃ i ∈ takeItem holding a l r, i.station = o.station ∧ i.code = o.code := by
  unfold takeItem
  split
  · refine ⟨_, List.mem_map.mpr ⟨o, mem, rfl⟩, ?_⟩
    split <;> exact ⟨rfl, rfl⟩
  · split
    · exact ⟨o, List.mem_append_left _ mem, rfl, rfl⟩
    · exact ⟨o, mem, rfl, rfl⟩

theorem takeItems_keeps_key : ∀ (rs : List AlertItem) {l : List ViewItem} {o : ViewItem}, o ∈ l →
    ∃ i ∈ takeItems holding a l rs, i.station = o.station ∧ i.code = o.code
  | [], _, o, mem => ⟨o, mem, rfl, rfl⟩
  | r :: rs, l, o, mem => by
    obtain ⟨i, mem, station, code⟩ := takeItem_keeps_key (holding := holding) (a := a) r mem
    obtain ⟨j, mem, station', code'⟩ := takeItems_keeps_key rs mem
    exact ⟨j, mem, station'.trans station, code'.trans code⟩

theorem dropUnreported_others (codes : Option (List AlertCode)) (l : List ViewItem) :
    (dropUnreported a codes l).filter (fun i => i.station != a) = l.filter (fun i => i.station != a) := by
  unfold dropUnreported
  split
  · rfl
  · rw [List.filter_filter]
    refine List.filter_congr fun i _ => ?_
    cases h : i.station == a <;> simp [bne, h]

theorem mem_dropUnreported {codes : Option (List AlertCode)} {l : List ViewItem} {i : ViewItem} :
    i ∈ dropUnreported a codes l ↔ i ∈ l ∧ ∀ cs, codes = some cs → i.station = a → i.code ∈ cs := by
  unfold dropUnreported
  cases codes with
  | none => exact ⟨fun h => ⟨h, nofun⟩, fun h => h.1⟩
  | some cs =>
    rw [List.mem_filter]
    refine and_congr_right fun _ => ?_
    simp only [Bool.not_eq_true', Bool.and_eq_false_iff, beq_eq_false_iff_ne, Bool.not_eq_false', List.contains_iff_mem,
      Option.some.injEq]
    constructor
    · rintro h _ rfl station
      exact h.resolve_left fun n => n station
    · exact fun h => or_iff_not_imp_left.mpr fun n => h cs rfl (not_not.mp n)

/-- An item of another code is not moved. -/
theorem takeItem_mem_other {l : List ViewItem} {r : AlertItem} {o : ViewItem} (other : o.code ≠ r.code) :
    o ∈ takeItem holding a l r ↔ o ∈ l := by
  unfold takeItem
  split
  · rw [List.mem_map]
    constructor
    · rintro ⟨i, mem, rfl⟩
      split at other
      next key => exact absurd ((itemFor_iff _ _ _).mp key).2 other
      next n => rw [if_neg n]; exact mem
    · exact fun mem => ⟨o, mem, if_neg fun key => other ((itemFor_iff _ _ _).mp key).2⟩
  · split
    · rw [List.mem_append, List.mem_singleton]
      exact or_iff_left fun e => other (by rw [e]; rfl)
    · rfl

/-! ## Refused items and items asked for again (R143, R146) -/

theorem refusesAny_room : ∀ (rs : List AlertItem) (l : List ViewItem), l.length + rs.length ≤ 48 →
    refusesAny holding a l rs = false
  | [], _, _ => rfl
  | r :: rs, l, room => by
    rw [List.length_cons] at room
    have grown := (takeItem_length (holding := holding) (a := a) l r).1
    have fits : refusesItem a l r = false := by
      unfold refusesItem
      rw [decide_eq_false (by omega), Bool.and_false]
    show (refusesItem a l r || refusesAny holding a _ rs) = false
    rw [fits, refusesAny_room rs _ (by omega)]
    rfl

/-- A full view refuses each item it does not hold. -/
theorem refusesAny_full : ∀ (rs : List AlertItem) (l : List ViewItem), 48 ≤ l.length →
    (∃ r ∈ rs, ∀ o ∈ l, o.station = a → o.code ≠ r.code) → refusesAny holding a l rs = true
  | r :: rs, l, full, ⟨q, mem, new⟩ => by
    show (refusesItem a l r || refusesAny holding a _ rs) = true
    rw [Bool.or_eq_true]
    rcases List.mem_cons.mp mem with rfl | later
    · left
      unfold refusesItem
      rw [decide_eq_true full, Bool.and_true, Bool.not_eq_true', Bool.eq_false_iff]
      intro known
      obtain ⟨o, mem, key⟩ := List.any_eq_true.mp known
      obtain ⟨station, code⟩ := (itemFor_iff _ _ _).mp key
      exact new o mem station code
    · right
      refine refusesAny_full rs _ (full.trans (takeItem_length l r).2) ⟨q, later, fun o mem station => ?_⟩
      unfold takeItem at mem
      split at mem
      · obtain ⟨i, held, rfl⟩ := List.mem_map.mp mem
        rw [(reportWhere_key r _ i).1] at station
        rw [(reportWhere_key r _ i).2]
        exact new i held station
      · rw [if_neg (Nat.not_lt.mpr full)] at mem
        exact new o mem station

theorem takeItems_full : ∀ (rs : List AlertItem) (l : List ViewItem), l.length ≤ (takeItems holding a l rs).length
  | [], _ => le_rfl
  | r :: rs, l => (takeItem_length l r).2.trans (takeItems_full rs _)

/-- Which of a frame's items ask a holding helm to acknowledge again. -/
theorem asksAny_iff : ∀ (rs : List AlertItem) (l : List ViewItem), (rs.map AlertItem.code).Nodup →
    (asksAny holding a l rs = true ↔
      ∃ r ∈ rs, ∃ o ∈ l, o.station = a ∧ o.code = r.code ∧ asksAgain holding r o = true)
  | [], _, _ => ⟨nofun, fun ⟨_, mem, _⟩ => nomatch mem⟩
  | q :: rs, l, once => by
    rw [List.map_cons, List.nodup_cons] at once
    have rest := asksAny_iff rs (takeItem holding a l q) once.2
    have head : l.any (fun i => itemFor a q.code i && asksAgain holding q i) = true ↔
        ∃ o ∈ l, o.station = a ∧ o.code = q.code ∧ asksAgain holding q o = true := by
      rw [List.any_eq_true]
      simp only [Bool.and_eq_true, itemFor_iff, and_assoc]
    have same : ∀ r ∈ rs, ((∃ o ∈ takeItem holding a l q, o.station = a ∧ o.code = r.code ∧ asksAgain holding r o = true) ↔
        ∃ o ∈ l, o.station = a ∧ o.code = r.code ∧ asksAgain holding r o = true) := by
      intro r mem
      have other : r.code ≠ q.code := fun e => once.1 (e ▸ List.mem_map.mpr ⟨r, mem, rfl⟩)
      have kept : ∀ o, o.code = r.code → (o ∈ takeItem holding a l q ↔ o ∈ l) := fun o code => takeItem_mem_other (by rw [code]; exact other)
      exact exists_congr fun o => ⟨fun ⟨m, s, c, k⟩ => ⟨(kept o c).mp m, s, c, k⟩, fun ⟨m, s, c, k⟩ => ⟨(kept o c).mpr m, s, c, k⟩⟩
    show (_ || asksAny holding a _ rs) = true ↔ _
    rw [Bool.or_eq_true, head, rest, List.exists_mem_cons_iff]
    exact or_congr_right (exists_congr fun r => and_congr_right fun mem => same r mem)

end Sys2Proof.Machine
end

section
/-! SUPPORT. What a report cannot put into the transmit queue (R140, R163). -/

namespace Sys2Proof.Machine

-- As in Laws/Touches.lean: one theorem at a time.
set_option Elab.async false

/-- Frames of a kind wait in a queue only where they wait in another. -/
def Bars (k : FrameKind) (q r : List Waiting) : Prop := ∀ w ∈ r, w.kind = k → ∃ v ∈ q, v.kind = k

variable {k : FrameKind}

theorem Bars.refl (q : List Waiting) : Bars k q q := fun w m e => ⟨w, m, e⟩

theorem Bars.trans {p q r : List Waiting} (h : Bars k p q) (i : Bars k q r) : Bars k p r := fun w m e => by
  obtain ⟨v, m, e⟩ := i w m e
  exact h v m e

theorem offerQueue_bars {w : Waiting} (n : w.kind ≠ k) (q : List Waiting) : Bars k q (offerQueue w q) := by
  have appended : ∀ p : List Waiting, p.Sublist q → Bars k q (p ++ [w]) := fun p sub v m e => by
    rcases List.mem_append.mp m with m | m
    · exact ⟨v, sub.subset m, e⟩
    · rw [List.mem_singleton.mp m] at e
      exact absurd e n
  unfold offerQueue
  split
  · exact .refl q
  · split
    · exact appended q (.refl q)
    · split
      · exact appended _ (dropLastOf_sublist _ q)
      · exact .refl q

theorem promoteAlert_bars (l : List AlertEntry) (q : List Waiting) : Bars k q (promoteAlert l q) := by
  unfold promoteAlert
  split
  · intro w m e
    obtain ⟨v, held, rfl⟩ := List.mem_map.mp m
    refine ⟨v, held, ?_⟩
    split at e <;> exact e
  · exact .refl q

theorem setList_bars (n : k ≠ .alert) (m : Comms) (st : StationState) (now : Clock) (l : List AlertEntry) :
    Bars k m.link.queue (m.setList st now l).link.queue := by
  unfold Comms.setList
  split
  · exact .refl _
  · dsimp only
    split
    · exact (promoteAlert_bars l _).trans (offerQueue_bars (w := alertFrame now l) n.symm _)
    · exact promoteAlert_bars l _

theorem afterLoss_bars (n : k ≠ .alert) (m : Comms) (b : Bool) (st : StationState) (now : Clock) :
    Bars k m.link.queue (m.afterLoss b st now).link.queue := by
  unfold Comms.afterLoss
  split
  · exact setList_bars n m st now _
  · exact .refl _

theorem raise_bars (n : k ≠ .alert) (s : State) (c : AlertCode) : Bars k s.comms.link.queue (s.raise c).comms.link.queue :=
  (setList_bars n s.comms _ _ _).trans (afterLoss_bars n _ _ _ _)

theorem clear_bars (n : k ≠ .alert) (s : State) (c : AlertCode) : Bars k s.comms.link.queue (s.clear c).comms.link.queue := by
  unfold State.clear
  dsimp only
  split
  · exact (setList_bars n { s.comms with present := s.comms.present.set (alertIndex c) false } _ _ _).trans (afterLoss_bars n _ _ _ _)
  · exact .refl _

theorem raiseNew_bars (n : k ≠ .alert) (s : State) (c : AlertCode) :
    Bars k s.comms.link.queue (s.raiseNew c).comms.link.queue := by
  unfold State.raiseNew
  dsimp only
  split
  · exact .refl _
  · exact raise_bars n s c

theorem follow_bars (n : k ≠ .alert) (s : State) (c : AlertCode) (b : Bool) :
    Bars k s.comms.link.queue (s.follow c b).comms.link.queue := by
  unfold State.follow
  split
  · exact raiseNew_bars n s c
  · exact clear_bars n s c

theorem whenever_bars {f : State → State} (s : State) (b : Bool) (h : Bars k s.comms.link.queue (f s).comms.link.queue) :
    Bars k s.comms.link.queue (s.whenever b f).comms.link.queue := by
  unfold State.whenever
  split
  · exact h
  · exact .refl _

theorem OnlyTouches.bars {ps : List Part} {s t : State} (h : OnlyTouches ps s t) (n : Part.link ∉ ps := by decide) :
    Bars k s.comms.link.queue t.comms.link.queue := by
  have link : t.comms.link = s.comms.link := h.link n
  rw [link]
  exact .refl _

theorem Bars.waits {s t : State} (h : Bars k s.comms.link.queue t.comms.link.queue) (off : s.waits k = false) :
    t.waits k = false := by
  rw [Bool.eq_false_iff] at off ⊢
  intro on
  obtain ⟨w, m, e⟩ := List.any_eq_true.mp on
  obtain ⟨v, m, e⟩ := h w m (eq_of_beq e)
  exact off (List.any_eq_true.mpr ⟨v, m, beq_iff_eq.mpr e⟩)

/-! ## An applied frame up to its routing -/

theorem heard_bars (n : k ≠ .alert) (s : State) (dt : Micros) : Bars k s.comms.link.queue (s.heard dt).comms.link.queue := by
  unfold State.heard State.noteReception
  split
  · exact .refl _
  · exact whenever_bars ((s.advance dt).endReception 0) _ (follow_bars n _ _ _)

theorem judgeSilent_bars (n : k ≠ .alert) (s : State) (was : Bool) :
    Bars k s.comms.link.queue (s.judgeSilent was).comms.link.queue := by
  unfold State.judgeSilent State.followChange
  split
  · split
    · exact .refl _
    · exact follow_bars n s _ _
  · exact .refl _

theorem judgeLagEnd_bars (n : k ≠ .alert) (s : State) : Bars k s.comms.link.queue s.judgeLagEnd.comms.link.queue :=
  whenever_bars s _ (clear_bars n s _)

theorem pruneLag_bars (n : k ≠ .alert) (s : State) : Bars k s.comms.link.queue s.pruneLag.comms.link.queue :=
  whenever_bars s _ (judgeLagEnd_bars n { s with helm := { s.helm with lag := zipTab lagKept s.peers.entries s.helm.lag } })

theorem tableChanged_bars (n : k ≠ .alert) (s : State) (was : Bool) :
    Bars k s.comms.link.queue (s.tableChanged was).comms.link.queue :=
  (judgeSilent_bars n s was).trans ((pruneLag_bars n _).trans
    ((refreshStrain_touches _).bars.trans (judgeWinch_touches _).bars))

theorem tabled_bars (n : k ≠ .alert) (s : State) (dt : Micros) (f : Frame) :
    Bars k s.comms.link.queue ((s.heard dt).tabled f).comms.link.queue := by
  rw [tabled_eq]
  exact (heard_bars n s dt).trans ((written_touches (s.heard dt) f).bars.trans (tableChanged_bars n _ _))

end Sys2Proof.Machine
end

section
/-! SUPPORT. ALERT in the convoy alert view (O22). -/

namespace Sys2Proof.Machine

-- As in Laws/Touches.lean: one theorem at a time.
set_option Elab.async false

/-! ## A report of one item against the item the view held (R143, R144, R146) -/

/-- A report that clears the ack flags: a new occurrence, or ACTIVE_UNACK from another state. -/
def Afresh (o : ViewItem) (r : AlertItem) : Prop := o.occ ≠ r.occ ∨ (r.state = .activeUnack ∧ o.state ≠ .activeUnack)

/-- A report by which a HOLDING helm asks for its acknowledgement again. -/
def AsksAgain (holds : Prop) (start : Bool) (o : ViewItem) (r : AlertItem) : Prop :=
  holds ∧ start = false ∧ o.sent = true ∧ ¬ Afresh o r ∧ r.state ≠ .activeAcked

/-- An item of the view after a frame's START from a station. -/
def restartedItem (start : Bool) (a : Addr) (i : ViewItem) : ViewItem :=
  if start && i.station == a then { i with requested := false, sent := false } else i

theorem restartedItem_key (start : Bool) (a : Addr) (i : ViewItem) : (restartedItem start a i).station = i.station ∧
    (restartedItem start a i).code = i.code ∧ (restartedItem start a i).occ = i.occ ∧
    (restartedItem start a i).state = i.state := by
  unfold restartedItem
  split <;> exact ⟨rfl, rfl, rfl, rfl⟩

theorem restartedItem_flags (start : Bool) {a : Addr} {i : ViewItem} (own : i.station = a) :
    (restartedItem start a i).requested = (i.requested && !start) ∧ (restartedItem start a i).sent = (i.sent && !start) := by
  unfold restartedItem
  rw [own, beq_self_eq_true, Bool.and_true]
  cases start with
  | true => exact ⟨(Bool.and_false _).symm, (Bool.and_false _).symm⟩
  | false => exact ⟨(Bool.and_true _).symm, (Bool.and_true _).symm⟩

theorem afresh_iff (o : ViewItem) (r : AlertItem) :
    (r.occ != o.occ || (r.state == .activeUnack && o.state != .activeUnack)) = true ↔ Afresh o r := by
  rw [Bool.or_eq_true, Bool.and_eq_true, bne_iff_ne, beq_iff_eq, bne_iff_ne]
  exact or_congr_left ne_comm

theorem isUnack_iff_ne (e : EntryState) : isUnack e = true ↔ e ≠ .activeAcked := by cases e <;> decide

theorem asksAgain_iff {holding start : Bool} {a : Addr} {o : ViewItem} {r : AlertItem} (own : o.station = a) :
    asksAgain holding r (restartedItem start a o) = true ↔ AsksAgain (holding = true) start o r := by
  obtain ⟨-, -, occ, state⟩ := restartedItem_key start a o
  have fresh : ¬ Afresh o r ↔ r.occ = o.occ ∧ ¬ (r.state = .activeUnack ∧ o.state ≠ .activeUnack) := by
    unfold Afresh
    rw [not_or, not_not, eq_comm]
  unfold asksAgain AsksAgain
  rw [fresh, occ, state, (restartedItem_flags start own).2]
  simp only [Bool.and_eq_true, beq_iff_eq, Bool.not_eq_true', isUnack_iff_ne, Bool.and_eq_false_iff, beq_eq_false_iff_ne,
    bne_eq_false_iff_eq, not_and_or, not_not]
  tauto

/-- What a report of an item that the view holds leaves of its flags. -/
theorem reportItem_flags {holding start : Bool} {a : Addr} {o : ViewItem} {r : AlertItem} (own : o.station = a) :
    let i := reportItem holding r (restartedItem start a o)
    (Afresh o r → i.requested = false ∧ i.sent = false) ∧
    (¬ Afresh o r → i.sent = (o.sent && !start) ∧
      (i.requested = true ↔ o.requested = true ∧ start = false ∨ AsksAgain (holding = true) start o r)) := by
  obtain ⟨-, -, occ, state⟩ := restartedItem_key start a o
  obtain ⟨requested, sent⟩ := restartedItem_flags start own
  have test := afresh_iff o r
  rw [← occ, ← state] at test
  constructor
  · intro afresh
    exact ⟨if_pos (test.mpr afresh), if_pos (test.mpr afresh)⟩
  · intro stale
    have off := Bool.eq_false_iff.mpr fun k => stale (test.mp k)
    refine ⟨(if_neg (Bool.eq_false_iff.mp off)).trans sent, ?_⟩
    show (if _ then false else _) = true ↔ _
    rw [if_neg (Bool.eq_false_iff.mp off), off, requested, sent]
    unfold AsksAgain
    simp only [Bool.or_eq_true, Bool.and_eq_true, Bool.not_eq_true', isUnack_iff_ne, Bool.not_false]
    tauto

/-- With one item for each key the view finds the item it holds. -/
theorem find_of_mem {l : List ViewItem} {a : Addr} {o : ViewItem} (once : (l.map ViewItem.key).Nodup) (mem : o ∈ l)
    (own : o.station = a) : l.find? (itemFor a o.code) = some o := by
  have holds : itemFor a o.code o = true := (itemFor_iff _ _ _).mpr ⟨own, rfl⟩
  cases found : l.find? (itemFor a o.code) with
  | none => exact absurd holds (List.find?_eq_none.mp found o mem)
  | some i =>
    obtain ⟨station, code⟩ := (itemFor_iff _ _ _).mp (List.find?_some found)
    have same : i.key = o.key := by
      unfold ViewItem.key
      rw [station, code, own]
    exact congrArg some (List.inj_on_of_nodup_map once (List.mem_of_find?_eq_some found) mem same)

/-! ## The ALERT at a HELM station -/

/-- The items of the view once a frame's items are taken. -/
def State.reportedItems (s : State) (a : Addr) (p : AlertFields) : List ViewItem :=
  takeItems (s.helm.con == .holding) a s.view.items p.items

/-- The view after an ALERT. -/
def State.viewAfter (s : State) (a : Addr) (p : AlertFields) : ViewUnit :=
  { items := dropUnreported a (reportCodes p (s.view.part0.get a)) (s.reportedItems a p),
    part0 := s.view.part0.set a (markAfter p (s.view.part0.get a)) }

/-- The reports of an ALERT, up to the ACK that it asks for. -/
def State.viewJudged (s : State) (a : Addr) (p : AlertFields) : State :=
  let t := { s with view := s.viewAfter a p }
  (t.whenever (refusesAny (s.helm.con == .holding) a s.view.items p.items && t.station.helmReporting)
    (fun t => t.raiseNew .viewFull)).judgeViewRoom

theorem takeAlert_eq {s : State} {a : Addr} {p : AlertFields} (helm : s.isHelm = true) (timing : s.station.timing = true) :
    s.takeAlert a p = (s.viewJudged a p).whenever (asksAny (s.helm.con == .holding) a s.view.items p.items)
      (fun v => v.offer .ack 2) := by
  unfold State.takeAlert
  rw [whenever_pos (by rw [helm, timing]; rfl)]
  rfl

theorem viewJudged_touches (s : State) (a : Addr) (p : AlertFields) :
    OnlyTouches commsParts { s with view := s.viewAfter a p } (s.viewJudged a p) :=
  (whenever_touches (f := fun t => t.raiseNew .viewFull) _ _ (raiseNew_touches _ _)).trans (judgeViewRoom_touches _)

theorem viewJudged_has {s : State} {a : Addr} {p : AlertFields} (helm : s.isHelm = true)
    (reports : s.station.helmReporting = true) : (s.viewJudged a p).has .viewFull =
      if (s.viewAfter a p).items.length < 48 then false
      else refusesAny (s.helm.con == .holding) a s.view.items p.items || s.has .viewFull := by
  let t : State := { s with view := s.viewAfter a p }
  let u := t.whenever (refusesAny (s.helm.con == .holding) a s.view.items p.items && t.station.helmReporting)
    (fun t => t.raiseNew .viewFull)
  have touches : OnlyTouches commsParts t u := whenever_touches (f := fun t => t.raiseNew .viewFull) _ _ (raiseNew_touches _ _)
  have has : u.has .viewFull = (refusesAny (s.helm.con == .holding) a s.view.items p.items || s.has .viewFull) := by
    show (t.whenever (_ && s.station.helmReporting) _).has _ = _
    rw [reports, Bool.and_true]
    cases refusesAny (s.helm.con == .holding) a s.view.items p.items with
    | true => exact raiseNew_has_self t _
    | false => rfl
  have test : (u.isHelm && u.station.helmReporting && decide (u.view.items.length < 48)) =
      decide ((s.viewAfter a p).items.length < 48) := by
    rw [isHelm_eq (touches.role (by decide)), touches.station (by decide), touches.view (by decide),
      show t.isHelm = true from helm, show t.station.helmReporting = true from reports]
    rfl
  show u.judgeViewRoom.has .viewFull = _
  unfold State.judgeViewRoom
  rw [test]
  by_cases few : (s.viewAfter a p).items.length < 48
  · rw [decide_eq_true few, if_pos few]
    exact clear_has_self u nofun
  · rw [decide_eq_false few, if_neg few, ← has]
    rfl

theorem viewJudged_loaded {s : State} (a : Addr) (p : AlertFields) (free : s.load ≤ 7) : Loaded s (s.viewJudged a p) := by
  let t : State := { s with view := s.viewAfter a p }
  let u := t.whenever (refusesAny (s.helm.con == .holding) a s.view.items p.items && t.station.helmReporting)
    (fun t => t.raiseNew .viewFull)
  have raised : Loaded t u := by
    show Loaded t (t.whenever _ _)
    unfold State.whenever
    split
    · exact follow_loaded .viewFull true free
    · exact .refl t
  refine Loaded.trans (s := s) (t := t) (.of_comms rfl) (raised.trans ?_)
  show Loaded u u.judgeViewRoom
  unfold State.judgeViewRoom State.whenever
  split
  · exact clear_loaded _ (raised.load.trans free)
  · exact .refl u

theorem viewJudged_bars (s : State) (a : Addr) (p : AlertFields) :
    Bars .ack s.comms.link.queue (s.viewJudged a p).comms.link.queue :=
  let t : State := { s with view := s.viewAfter a p }
  let u := t.whenever (refusesAny (s.helm.con == .holding) a s.view.items p.items && t.station.helmReporting)
    (fun t => t.raiseNew .viewFull)
  have raised : Bars .ack t.comms.link.queue u.comms.link.queue :=
    whenever_bars (f := fun t => t.raiseNew .viewFull) t _ (raiseNew_bars (by decide) t _)
  raised.trans (whenever_bars (f := fun t => t.clear .viewFull) u _ (clear_bars (by decide) u _))

/-- What an ALERT leaves of the view and its reports. -/
structure Alerted (a : Addr) (p : AlertFields) (s t : State) : Prop where
  view : t.view = s.viewAfter a p
  full : s.station.helmReporting = true → t.has .viewFull = if t.view.items.length < 48 then false
    else refusesAny (s.helm.con == .holding) a s.view.items p.items || s.has .viewFull
  asks : asksAny (s.helm.con == .holding) a s.view.items p.items = true → s.station.acting = true → s.load ≤ 7 →
    t.waits .ack = true
  bars : asksAny (s.helm.con == .holding) a s.view.items p.items = false → s.waits .ack = false → t.waits .ack = false

theorem takeAlert_alerted {s : State} (a : Addr) (p : AlertFields) (helm : s.isHelm = true) (timing : s.station.timing = true) :
    Alerted a p s (s.takeAlert a p) := by
  let v := s.viewJudged a p
  have judged := viewJudged_touches s a p
  have eq := takeAlert_eq (a := a) (p := p) helm timing
  have offered : OnlyTouches commsParts v (s.takeAlert a p) := by
    rw [eq]
    exact whenever_touches (f := fun v => v.offer .ack 2) v _ (offer_touches v _ _)
  have view : (s.takeAlert a p).view = s.viewAfter a p := (offered.view (by decide)).trans (judged.view (by decide))
  refine ⟨view, fun reports => ?_, fun again act room => ?_, fun quiet off => ?_⟩
  · rw [view, ← viewJudged_has helm reports, eq]
    exact Tells.whenever (cs := []) (f := fun v => v.offer .ack 2) v _ (offer_tells v _ _) .viewFull (by decide) nofun
  · rw [eq, whenever_pos (f := fun v => v.offer .ack 2) again]
    exact (offer_loaded .ack 2 (by rw [judged.station (by decide)]; exact act) ((viewJudged_loaded a p room).load.trans room)).2.1
  · rw [eq, whenever_neg quiet]
    exact (viewJudged_bars s a p).waits off

end Sys2Proof.Machine
end

section
/-! SUPPORT. ALERT reports of a frame that the peer table applies (O22). -/

namespace Sys2Proof.Machine

-- As in Laws/Touches.lean: one theorem at a time.
set_option Elab.async false

variable {holding start : Bool} {a : Addr}

/-! ## The view that the table leaves (R144) -/

theorem restarted_items (v : ViewUnit) (start : Bool) (a : Addr) :
    (if start then v.restarted a else v) = { v with items := v.items.map (restartedItem start a) } := by
  cases start with
  | true => rfl
  | false => exact congrArg (fun l => { v with items := l }) (List.map_id' v.items).symm

theorem tabled_restarted {s : State} (dt : Micros) (f : Frame) (helm : s.isHelm = true) (timing : s.station.timing = true) :
    ((s.heard dt).tabled f).view = { s.view with items := s.view.items.map (restartedItem f.start f.source) } := by
  have marks : s.marks f = f.start := by
    unfold State.marks
    rw [helm, timing, Bool.and_true, Bool.and_true]
  rw [(tabled_marks s dt f).2, marks, restarted_items]

/-- The table moves no condition but the four that follow a reception. -/
theorem tabled_has (s : State) (dt : Micros) (f : Frame) (c : AlertCode) (n : c ∉ [.rxError, .peerSilent, .stationLag])
    (nt : c ≠ .txLoss) : ((s.heard dt).tabled f).has c = s.has c := by
  have silent : Tells [.peerSilent] (s.noted dt f) ((s.noted dt f).judgeSilent s.anySilentWorker) := judgeSilent_tells _ _
  rw [tabled_eq, tableChanged_tells _ _ c (fun m => n (by simp_all)) nt, silent c (fun m => n (by simp_all)) nt]
  exact noted_has s dt f (fun e => n (by simp [e])) nt

theorem restarted_others (start : Bool) (a : Addr) (l : List ViewItem) :
    (l.map (restartedItem start a)).filter (fun i => i.station != a) = l.filter (fun i => i.station != a) := by
  have through : (fun i : ViewItem => i.station != a) ∘ restartedItem start a = fun i => i.station != a := by
    funext i
    exact congrArg (· != a) (restartedItem_key start a i).1
  rw [List.filter_map, through]
  refine (List.map_congr_left fun i mem => if_neg fun k => ?_).trans (List.map_id _)
  have away := (List.mem_filter.mp mem).2
  rw [beq_iff_eq.mp (Bool.and_eq_true_iff.mp k).2, bne_self_eq_false] at away
  exact nomatch away

theorem restarted_find (start : Bool) (a : Addr) (c : AlertCode) (l : List ViewItem) :
    (l.map (restartedItem start a)).find? (itemFor a c) = (l.find? (itemFor a c)).map (restartedItem start a) := by
  have through : itemFor a c ∘ restartedItem start a = itemFor a c := by
    funext i
    obtain ⟨station, code, -, -⟩ := restartedItem_key start a i
    unfold itemFor
    rw [Function.comp, station, code]
  rw [List.find?_map, through]

/-! ## A reported item (R143) -/

theorem reported_state (r : AlertItem) (o : Option ViewItem) :
    (reported holding a r o).state = r.state ∧ (reported holding a r o).occ = r.occ := by
  cases o <;> exact ⟨rfl, rfl⟩

/-- Each item of a frame for which the view has room stands in the view as reported. -/
theorem takeItems_reports {l : List ViewItem} {rs : List AlertItem} {r : AlertItem} (once : (l.map ViewItem.key).Nodup)
    (differ : (rs.map AlertItem.code).Nodup) (room : l.length + rs.length ≤ 48) (mem : r ∈ rs) :
    ∃ i ∈ takeItems holding a (l.map (restartedItem start a)) rs,
      i.station = a ∧ i.code = r.code ∧ i.state = r.state ∧ i.occ = r.occ ∧
      ((∀ o ∈ l, o.station = a → o.code = r.code → Afresh o r) → i.requested = false ∧ i.sent = false) ∧
      (∀ o ∈ l, o.station = a → o.code = r.code → ¬ Afresh o r → i.sent = (o.sent && !start) ∧
        (i.requested = true ↔ o.requested = true ∧ start = false ∨ AsksAgain (holding = true) start o r)) := by
  have found := takeItems_find (holding := holding) (a := a) rs (l.map (restartedItem start a))
    (by rw [List.length_map]; exact room) differ r mem
  rw [restarted_find] at found
  obtain ⟨station, code⟩ := (itemFor_iff _ _ _).mp (List.find?_some found)
  obtain ⟨state, occ⟩ := reported_state (holding := holding) (a := a) r
    ((l.find? (itemFor a r.code)).map (restartedItem start a))
  refine ⟨_, List.mem_of_find?_eq_some found, station, code, state, occ, ?_⟩
  cases held : l.find? (itemFor a r.code) with
  | none =>
    refine ⟨fun _ => ⟨rfl, rfl⟩, fun o mem own code => ?_⟩
    exact absurd ((itemFor_iff _ _ _).mpr ⟨own, code⟩) (List.find?_eq_none.mp held o mem)
  | some o =>
    obtain ⟨own, code⟩ := (itemFor_iff _ _ _).mp (List.find?_some held)
    obtain ⟨fresh, stale⟩ := reportItem_flags (holding := holding) (start := start) (r := r) own
    refine ⟨fun afresh => fresh (afresh o (List.mem_of_find?_eq_some held) own code), fun o' mem' own' code' => ?_⟩
    have same : some o = some o' := held.symm.trans (code' ▸ find_of_mem once mem' own')
    cases same
    exact stale

/-- A completed report carries the codes of its last frame. -/
theorem reportCodes_has {p : AlertFields} {mark : Option (List AlertCode)} {r : AlertItem} (mem : r ∈ p.items) :
    ∀ cs, reportCodes p mark = some cs → r.code ∈ cs := by
  have own : r.code ∈ p.items.map AlertItem.code := List.mem_map.mpr ⟨r, mem, rfl⟩
  intro cs eq
  unfold reportCodes at eq
  split at eq
  · exact nomatch eq
  · split at eq
    · cases eq; exact own
    · obtain ⟨codes, -, rfl⟩ := Option.map_eq_some_iff.mp eq
      exact List.mem_append_right _ own

theorem reportCodes_open {p : AlertFields} {mark : Option (List AlertCode)}
    (unended : p.last = false ∨ (p.part1 = true ∧ mark = none)) : reportCodes p mark = none := by
  unfold reportCodes
  rcases unended with last | ⟨part, none⟩
  · rw [last]; rfl
  · rw [part, none]; split <;> rfl

/-- The items that ask to be acknowledged again, by the view as it stood before the frame. -/
theorem asks_iff {l : List ViewItem} {rs : List AlertItem} (differ : (rs.map AlertItem.code).Nodup) :
    asksAny holding a (l.map (restartedItem start a)) rs = true ↔
      ∃ r ∈ rs, ∃ o ∈ l, o.station = a ∧ o.code = r.code ∧ AsksAgain (holding = true) start o r := by
  rw [asksAny_iff rs _ differ]
  refine exists_congr fun r => and_congr_right fun _ => ⟨?_, ?_⟩
  · rintro ⟨_, mem, station, code, again⟩
    obtain ⟨o, held, rfl⟩ := List.mem_map.mp mem
    obtain ⟨s, c, -, -⟩ := restartedItem_key start a o
    have own := s.symm.trans station
    exact ⟨o, held, own, c.symm.trans code, (asksAgain_iff own).mp again⟩
  · rintro ⟨o, mem, station, code, again⟩
    obtain ⟨s, c, -, -⟩ := restartedItem_key start a o
    exact ⟨_, List.mem_map.mpr ⟨o, mem, rfl⟩, s.trans station, c.trans code, (asksAgain_iff station).mpr again⟩

end Sys2Proof.Machine
end

section
/-! SUPPORT. What an ALERT leaves of a HELM station's view (O22). -/

namespace Sys2Proof.Machine

-- As in Laws/Touches.lean: one theorem at a time.
set_option Elab.async false

/-- Settles O22: the table clears the marks of a START, the items are taken one after another, each leaving the items of
other codes as they stood. -/
theorem alertReportEntersTheView : Obligations.AlertReportEntersTheView := by
  unfold Obligations.AlertReportEntersTheView
  intro afresh s dt h role p admits ok helm timing again asks
  let a := h.source
  let f : Frame := ⟨h.start, a, role, 3, .alert p⟩
  let x := (s.heard dt).tabled f
  let r := x.takeAlert a p
  let t := s.applied dt f
  have judged : OnlyTouches [.coup] r t := applied_judged s dt f
  have tabled : OnlyTouches _ s x := tabled_touches s dt f
  have taken : OnlyTouches _ x r := takeAlert_touches x a p
  have station : x.station = s.station := tabled_station s dt f
  have alerted : Alerted a p x r := takeAlert_alerted a p ((tabled_isHelm s dt f).trans helm) (by rw [station]; exact timing)
  have marked : x.view = { s.view with items := s.view.items.map (restartedItem h.start a) } := tabled_restarted dt f helm timing
  have con : x.helm.con = s.helm.con := tabled_con s dt f
  have view : t.view = x.viewAfter a p := (judged.view (by decide)).trans alerted.view
  let held := takeItems (s.helm.con == .holding) a (s.view.items.map (restartedItem h.start a)) p.items
  let codes := reportCodes p (s.view.part0.get a)
  have items : t.view.items = dropUnreported a codes held := by
    rw [view]
    unfold State.viewAfter State.reportedItems
    rw [con, marked]
  have part0 : t.view.part0 = s.view.part0.set a (markAfter p (s.view.part0.get a)) := by
    rw [view]
    unfold State.viewAfter
    rw [marked]
  have full : s.station.helmReporting = true → t.has .viewFull = if t.view.items.length < 48 then false
      else refusesAny (s.helm.con == .holding) a (s.view.items.map (restartedItem h.start a)) p.items || s.has .viewFull := by
    intro reports
    have eq := alerted.full (by rw [station]; exact reports)
    rw [con, marked, ← judged.view (by decide), ← judged.has (by decide), tabled_has s dt f .viewFull (by decide) nofun] at eq
    exact eq
  refine ⟨t, exec_applied (f := f) rfl ok admits, applied_clock s dt f, ?_, ?_, fun b n => ?_, fun inv differ room => ?_,
    fun reports last few new => ?_, fun reports few => ?_, ?_⟩
  · rw [items, dropUnreported_others, takeItems_others, restarted_others]
  · rw [part0]
    exact Tab.get_set_self ..
  · rw [part0]
    exact Tab.get_set_ne _ _ n
  · have once := ((viewInv_iff s).mp inv).2
    have asked : asksAny (s.helm.con == .holding) a (s.view.items.map (restartedItem h.start a)) p.items = true ↔ asks := by
      rw [asks_iff differ, beq_iff_eq]
      rfl
    refine ⟨fun r mem => ?_, fun k act short => ?_, fun n off => ?_, fun reports => ?_, fun last part i mem own => ?_,
      fun last part cs seen i mem own => ?_, fun unended o mem own => ?_⟩
    · obtain ⟨i, stands, own, code, state, occ, flags⟩ := takeItems_reports (holding := s.helm.con == .holding)
        (start := h.start) (a := a) once differ room mem
      rw [beq_iff_eq] at flags
      refine ⟨i, ?_, own, code, state, occ, flags⟩
      rw [items, mem_dropUnreported]
      exact ⟨stands, fun cs eq _ => by rw [code]; exact reportCodes_has mem cs eq⟩
    · have free : s.load ≤ 7 := (load_le s).trans (by omega)
      rw [judged.waits]
      refine alerted.asks ?_ (by rw [station, act]; rfl) ((tabled_loaded dt f free).load.trans free)
      rw [con, marked]
      exact asked.mpr k
    · rw [judged.waits]
      refine alerted.bars ?_ ((tabled_bars (by decide) s dt f).waits off)
      rw [con, marked]
      exact Bool.eq_false_iff.mpr fun k => n (asked.mp k)
    · rw [full reports, refusesAny_room _ _ (by rw [List.length_map]; exact room), Bool.false_or]
      by_cases few : t.view.items.length < 48
      · rw [if_pos few, decide_eq_false (Nat.not_le.mpr few), Bool.and_false]
      · rw [if_neg few, decide_eq_true (Nat.not_lt.mp few), Bool.and_true]
    · rw [items, mem_dropUnreported] at mem
      refine mem.2 _ ?_ own
      show reportCodes p _ = _
      unfold reportCodes
      rw [last, part]
      rfl
    · rw [items, mem_dropUnreported] at mem
      refine mem.2 _ ?_ own
      show reportCodes p _ = _
      unfold reportCodes
      rw [last, part, seen]
      rfl
    · obtain ⟨station, code, -, -⟩ := restartedItem_key h.start a o
      obtain ⟨i, stands, own', code'⟩ := takeItems_keeps_key (holding := s.helm.con == .holding) (a := a) p.items
        (List.mem_map.mpr ⟨o, mem, rfl⟩ : restartedItem h.start a o ∈ _)
      refine ⟨i, ?_, own'.trans (station.trans own), code'.trans code⟩
      rw [items, mem_dropUnreported]
      refine ⟨stands, fun cs eq _ => ?_⟩
      rw [show codes = none from reportCodes_open unended] at eq
      exact nomatch eq
  · have refused : refusesAny (s.helm.con == .holding) a (s.view.items.map (restartedItem h.start a)) p.items = true := by
      refine refusesAny_full _ _ (by rw [List.length_map]; exact few) ?_
      obtain ⟨r, mem, absent⟩ := new
      refine ⟨r, mem, fun o held own => ?_⟩
      obtain ⟨i, was, rfl⟩ := List.mem_map.mp held
      obtain ⟨station, code, -, -⟩ := restartedItem_key h.start a i
      rw [code]
      exact absent i was (station.symm.trans own)
    have kept : 48 ≤ t.view.items.length := by
      have all : codes = none := reportCodes_open (.inl last)
      rw [items, all]
      refine few.trans ?_
      have grown := takeItems_full (holding := s.helm.con == .holding) (a := a) p.items (s.view.items.map (restartedItem h.start a))
      rw [List.length_map] at grown
      exact grown
    rw [full reports, if_neg (Nat.not_lt.mpr kept), refused, Bool.true_or]
  · rw [full reports, if_pos few]
  · have touches : OnlyTouches [.clock, .present, .alerts, .link, .peers, .account, .view, .helm, .thrust, .gov, .outputs, .coup]
        s t := tabled.mono.trans (taken.mono.trans judged.mono)
    exact ⟨touches.demand (by decide), touches.start (by decide), touches⟩

end Sys2Proof.Machine
end

section
/-! SUPPORT. The helm switches with a crowded queue (O36). -/

namespace Sys2Proof.Machine

-- As in Laws/Touches.lean: one theorem at a time.
set_option Elab.async false

/-- A queue with one free place and a DEMAND of class 3, a class in which no unit offers one. -/
def crowdedQueue : List Waiting :=
  ⟨.demand, 3, 0, none⟩ :: List.replicate 6 ⟨.wake, 1, 0, some (.wake 0)⟩

/-- A HOLDING helm of zero demand with its standby switch pending, STATION_LAG and an unacknowledged trip-class
condition on its list and no lag start left. -/
def crowdedHelm : State :=
  let s := State.reset
  { s with
    station := .active
    role := some .helm
    lines := s.lines.set 2 true
    helm := { s.helm with con := .holding, switchPending := true }
    comms := {
      present := (s.comms.present.set (alertIndex .stationLag) true).set (alertIndex .overspeed) true
      alerts := { s.comms.alerts with list := [⟨.overspeed, .activeUnack, 1⟩, ⟨.stationLag, .activeUnack, 1⟩] }
      link := { s.comms.link with queue := crowdedQueue, tx := .deferring } } }

/-- The renumbering's DEMAND is coalesced with the waiting one, the ALERT of STATION_LAG's end fills the queue, and the
STANDBY of the pending switch then takes the DEMAND's place. -/
theorem crowdedHelm_loses_demand : ∃ t, exec (.helmSwitchChange 0 0 0 true) crowdedHelm = .next t ∧
    t.lines ≠ crowdedHelm.lines ∧ t.waits .demand = false :=
  ⟨_, rfl, by decide +kernel, by decide +kernel⟩

/-- Refutes O36: a waiting DEMAND of class 3 is displaced by the STANDBY that the same renumbering queues. -/
theorem not_helmSwitches : ¬ Obligations.HelmSwitches := by
  intro holds
  obtain ⟨u, runs, lines, lost⟩ := crowdedHelm_loses_demand
  obtain ⟨t, runs', -, -, -, -, -, -, -, -, -, -, renumbered, -⟩ := holds.1 crowdedHelm 0 0 0 true rfl rfl
  cases runs.symm.trans runs'
  have waits := (renumbered lines rfl (.inr (.inr (.inr (.inr (by decide)))))).2.2.2.2.2.2 rfl (by unfold State.QueueFree; decide)
  exact absurd waits (by rw [lost]; decide)

end Sys2Proof.Machine
end

section
/-! SUPPORT. The claims for the con by TAKE and by REQUEST (O35). -/

namespace Sys2Proof.Machine

-- As in Laws/Touches.lean: one theorem at a time.
set_option Elab.async false

variable {s : State} {w : Waiting}

/-! ## A frame of another kind stands in the queue while the con is taken up (R26, R163) -/

theorem Queued.holds {v : Waiting} {t : State} (h : Queued v s t) (stands : w ∈ s.comms.link.queue) : w ∈ t.comms.link.queue := by
  have queue : t.comms.link.queue =
      if coalescing v.kind && s.waits v.kind then s.comms.link.queue else s.comms.link.queue ++ [v] :=
    congrArg (·.comms.link.queue) h
  rw [queue]
  split
  · exact stands
  · exact List.mem_append_left _ stands

theorem clear_holds (c : AlertCode) (free : s.load ≤ 7) (kind : w.kind ≠ .alert) (stands : w ∈ s.comms.link.queue) :
    w ∈ (s.clear c).comms.link.queue := follow_holds c false free kind stands

theorem foundDemand_holds (free : s.load ≤ 7) (kind : w.kind ≠ .alert) (stands : w ∈ s.comms.link.queue) :
    w ∈ s.foundDemand.comms.link.queue := by
  unfold State.foundDemand State.whenever
  split
  · exact clear_holds _ free kind stands
  · exact stands

theorem lagAll_holds (free : s.load ≤ 7) (kind : w.kind ≠ .alert) (stands : w ∈ s.comms.link.queue) :
    w ∈ s.lagAll.comms.link.queue := by
  unfold State.lagAll State.judgeLagEnd State.whenever
  split
  · exact clear_holds (s := { s with helm := { s.helm with lag := zipTab (lagOf s.clock s.helm.number) s.peers.entries s.helm.lag } })
      _ free kind stands
  · exact stands

theorem switchOn_holds (act : s.station.acting = true) (free : s.load ≤ 7) (stands : w ∈ s.comms.link.queue) :
    w ∈ s.switchOn.comms.link.queue := by
  unfold State.switchOn State.queueStandby
  split
  · let z : State := { s with helm := { s.helm with switchPending := false, standbyQueued := true } }
    exact (offerWith_queued (s := z) 1 _ act (queueFree_of_load (s := z) free)).holds stands
  · exact stands

theorem enterHolding_holds (act : s.station.acting = true) (room : s.load ≤ 6) (kind : w.kind ≠ .alert)
    (stands : w ∈ s.comms.link.queue) : w ∈ s.enterHolding.comms.link.queue := by
  let u := s.tookUp
  let m := u.foundDemand
  let n := m.clear .conLost
  let v := n.setHolderLow none
  let o := v.offer .demand 1
  have begun : u.load ≤ 6 := room
  have found : Loaded u m := foundDemand_loaded (begun.trans (by decide))
  have loadM : m.load ≤ 6 := found.load.trans begun
  have loadN : n.load ≤ 6 := (clear_loaded _ (loadM.trans (by decide))).load.trans loadM
  have loadV : v.load ≤ 6 := (setHolderLow_loaded none (loadN.trans (by decide))).load.trans loadN
  have acts : v.station.acting = true := by
    have touches : OnlyTouches (.account :: commsParts) u v :=
      (foundDemand_touches u).mono.trans ((clear_touches m _).mono.trans (setHolderLow_touches n _))
    rw [touches.station (by decide)]
    exact act
  have loadO : o.load ≤ 7 := (offer_loaded .demand 1 acts (loadV.trans (by decide))).1.trans (Nat.succ_le_succ loadV)
  have standsM : w ∈ m.comms.link.queue := foundDemand_holds (begun.trans (by decide)) kind stands
  have standsN : w ∈ n.comms.link.queue := clear_holds _ (loadM.trans (by decide)) kind standsM
  have standsV : w ∈ v.comms.link.queue := setHolderLow_holds none (loadN.trans (by decide)) kind standsN
  have standsO : w ∈ o.comms.link.queue := (offer_queued .demand 1 acts (queueFree_of_load (loadV.trans (by decide)))).holds standsV
  have stood : w ∈ s.reportedUp.comms.link.queue := lagAll_holds loadO kind standsO
  rw [enterHolding_eq]
  unfold State.whenever
  split
  · refine switchOn_holds ?_ ((lagAll_loaded loadO).load.trans loadO) stood
    rw [show s.reportedUp.station = s.station from (reportedUp_takes s).touches.station (by decide)]
    exact act
  · exact stood

/-! ## TAKE (R29, R31) -/

/-- What a claim by TAKE leaves. -/
structure Claims (s t : State) : Prop where
  con : t.helm.con = .holding
  timer : t.helm.requestTimer = none
  requested : t.helm.requestedOf = none
  view : t.demand.view = { holder := some s.address, epoch := s.demand.view.epoch + 1 }
  current : t.helm.current = s.helm.live
  number : t.helm.number = s.demand.record.number + 1
  record : t.demand.record = { demand := s.helm.live, number := s.demand.record.number + 1, accepted := some s.clock, state := .fresh }
  interval : t.helm.interval = startTimer s.clock (ms (s.param Param.demandInterval))
  flags : t.account.holderLow = none
  reports : s.station = .active → t.has .conLost = false ∧ t.has .demandLost = false
  queued : s.station = .active → s.comms.link.queue.length ≤ 4 → t.waits .demand = true ∧
    (⟨.con, 1, s.clock, some (.con .take (conFields s.address (s.demand.view.epoch + 1) s.helm.live.thrust s.helm.live.turn))⟩ :
      Waiting) ∈ t.comms.link.queue

theorem takeCon_claims (helm : s.isHelm = true) : Claims s s.takeCon := by
  let e := s.demand.view.epoch + 1
  let p : Payload := .con .take (conFields s.address e s.helm.live.thrust s.helm.live.turn)
  let a := s.offerWith 1 p
  let u := a.offerView s.address e
  have offered : OnlyTouches commsParts s a := offerWith_touches s 1 p
  have address : a.address = s.address := offered.address (by decide)
  have demand : a.demand = s.demand := offered.demand (by decide)
  have pref : preferred a.demand.view a.address e = true := by
    rw [demand]
    exact preferred_next _ _
  have viewed := offerView_own (s := a) pref ((isHelm_eq (offered.role (by decide))).trans helm)
  obtain ⟨unit, seen, clock, start, station, load⟩ := offerView_own_parts (s := a) pref ((isHelm_eq (offered.role (by decide))).trans helm)
  rw [address] at viewed unit seen clock start station load
  rw [offered.helm (by decide)] at unit
  rw [demand] at seen
  rw [offered.clock (by decide)] at clock
  rw [offered.start (by decide)] at start
  rw [offered.station (by decide)] at station
  have takes := enterHolding_takes u
  have held : s.takeCon = u.enterHolding := rfl
  have param : ∀ q, u.param q = s.param q := fun q => by
    unfold State.param
    rw [start]
  have record : s.takeCon.demand = u.freshRecord u.helm.live (u.demand.record.number + 1) false := takes.demand
  rw [unit, seen] at record
  rw [held]
  refine ⟨takes.con, takes.request.1, takes.request.2, ?_, ?_, ?_, ?_, ?_, takes.flags, fun act => ⟨takes.kept, takes.found ?_⟩,
    fun act short => ?_⟩
  · rw [← held, record]
    show u.demand.view = _
    rw [seen]
  · rw [takes.current.1, unit]
  · rw [takes.current.2, seen]
  · rw [← held, record]
    unfold State.freshRecord
    dsimp only
    rw [clock]
  · rw [takes.interval, clock, param]
  · rw [station, act]
    rfl
  · have acts : s.station.acting = true := by rw [act]; rfl
    have free : s.load ≤ 5 := (load_le s).trans (Nat.succ_le_succ short)
    have loadA : a.load ≤ 6 := (offerWith_loaded 1 p acts (free.trans (by decide))).1.trans (Nat.succ_le_succ free)
    have room : u.load ≤ 6 := (load (loadA.trans (by decide))).trans loadA
    have actU : u.station.acting = true := by rw [station]; exact acts
    have stands := offerWith_mem 1 p acts (free.trans (by decide)) rfl
    have kept := setHolderLow_holds (s := a.viewing s.address e) (w := ⟨.con, 1, s.clock, some p⟩) none (loadA.trans (by decide)) nofun stands
    rw [← viewed] at kept
    exact ⟨enterHolding_waits actU room, enterHolding_holds actU room nofun kept⟩

/-! ## The viewed holder (R29) -/

/-- The viewed holder is not this station, and nothing of it has been heard within the con timeout. -/
def State.SilentHolder (s : State) (now : Clock) : Prop :=
  s.demand.view.holder = none ∨ ∃ h, s.demand.view.holder = some h ∧ h ≠ s.address ∧
    ∀ e, s.peers.entries.get h = some e → e.liveness = .silent ∨ sec (s.param Param.conTimeout) ≤ elapsed now e.heard

/-- The viewed holder is another station that has been heard. -/
def State.HeardHolder (s : State) (now : Clock) (h : Addr) : Prop :=
  s.demand.view.holder = some h ∧ h ≠ s.address ∧
    ∃ e, s.peers.entries.get h = some e ∧ e.liveness ≠ .silent ∧ elapsed now e.heard < sec (s.param Param.conTimeout)

theorem holderSilent_of_silent {now : Clock} (h : s.SilentHolder now) (clock : s.clock = now) : s.holderSilent = true := by
  unfold State.holderSilent
  rcases h with none | ⟨h, some, other, old⟩
  · rw [none]
  · rw [some]
    dsimp only
    rw [show s.table.get h = s.peers.entries.get h from Tab.get_set_ne _ _ other]
    split
    · rfl
    next e found => simp only [Bool.or_eq_true, beq_iff_eq, decide_eq_true_eq, clock]; exact old e found

theorem holderSilent_of_heard {now : Clock} {h : Addr} (k : s.HeardHolder now h) (clock : s.clock = now) :
    s.holderSilent = false := by
  obtain ⟨some, other, e, found, live, recent⟩ := k
  unfold State.holderSilent
  rw [some]
  dsimp only
  rw [show s.table.get h = s.peers.entries.get h from Tab.get_set_ne _ _ other, found]
  dsimp only
  rw [Bool.or_eq_false_iff, beq_eq_false_iff_ne, decide_eq_false_iff_not, clock]
  exact ⟨live, Nat.not_le.mpr recent⟩

theorem claimCon_silent {now : Clock} (h : s.SilentHolder now) (clock : s.clock = now) : s.claimCon = s.takeCon := by
  have silent := holderSilent_of_silent h clock
  unfold State.claimCon
  split
  · rfl
  · exact if_pos silent

theorem claimCon_heard {now : Clock} {h : Addr} (k : s.HeardHolder now h) (clock : s.clock = now) : s.claimCon = s.requestCon h := by
  have silent := holderSilent_of_heard k clock
  unfold State.claimCon
  rw [k.1]
  dsimp only
  rw [silent]
  rfl

theorem discrete_helm (helm : s.isHelm = true) :
    (s.discrete 0 = true ↔ s.station.safe = false ∧ s.helm.con = .holding) ∧
    (s.discrete 1 = true ↔ s.station.safe = false ∧ s.helm.con = .requesting) := by
  unfold State.discrete State.ownerSetting
  rw [(isHelm_iff s).mp helm]
  simp

/-- Settles O35: both claims by TAKE are one entry to HOLDING. -/
theorem conClaims : Obligations.ConClaims := by
  refine ⟨fun s dt on helm => ?_, fun s dt helm con expired => ?_, fun s helm => ?_⟩
  · intro claims
    let x := (s.advance dt).setLine 0 on
    let t := (s.advance dt).conRequestChange on
    have exec : exec (.conRequestInput dt on) s = .next t :=
      exec_pos (f := fun s => s.conRequestChange on) rfl helm
    have touches : OnlyTouches _ (s.advance dt) t := conRequestChange_touches (s.advance dt) on
    have test : (!s.line 0 && on && s.station == .active && s.helm.con == .standingBy) = true ↔ claims := by
      simp only [Bool.and_eq_true, Bool.not_eq_true', beq_iff_eq, and_assoc]
      rfl
    have still : ¬ claims → t = x := fun n => whenever_neg (s := x) (Bool.eq_false_iff.mpr fun k => n (test.mp k))
    have claimed : claims → t = x.claimCon := fun k => whenever_pos (s := x) (f := State.claimCon) (test.mpr k)
    have claimTouches : OnlyTouches conParts x t := whenever_touches (f := State.claimCon) x _ (claimCon_touches x)
    refine ⟨t, exec, claimTouches.clock (by decide), claimTouches.lines (by decide), fun k silent => ?_, fun h k heard free => ?_,
      fun n => ?_, ?_⟩
    · rw [claimed k, claimCon_silent (s := x) (now := s.later dt) silent rfl]
      obtain ⟨con, timer, requested, view, current, number, record, interval, flags, reports, queued⟩ := takeCon_claims (s := x) helm
      exact ⟨con, timer, requested, view, current, number, record, interval, flags, reports, queued⟩
    · rw [claimed k, claimCon_heard (s := x) (now := s.later dt) heard rfl]
      have acts : s.station.acting = true := by rw [k.2.2.1]; rfl
      exact offerWith_queued (s := { x with helm := { x.helm with
        con := .requesting, requestTimer := startTimer x.clock (sec 3), requestedOf := some h } }) 1 _ acts free
    · rw [still n]
      exact (advance_touches s dt).mono.trans (setLine_touches _ 0 on).mono
    · exact (advance_touches s dt).mono.trans ((setLine_touches (s.advance dt) 0 on).mono.trans claimTouches.mono)
  · let x := s.advance dt
    let y : State := { x with helm := s.helm.endRequest }
    let t := x.requestExpiry
    have ended : t = if x.holderSilent then y.takeCon else y :=
      whenever_pos (s := x) (f := fun s => let t : State := { s with helm := s.helm.endRequest }
        if s.holderSilent then t.takeCon else t) (by
          show (s.isHelm && s.helm.con == .requesting && due s.helm.requestTimer (s.later dt)) = true
          rw [helm, con, expired]; rfl)
    have touches : OnlyTouches _ x t := requestExpiry_touches x
    refine ⟨t, rfl, touches.clock (by decide), fun silent => ?_, fun h heard => ?_, ?_⟩
    · rw [ended, holderSilent_of_silent (s := x) (now := s.later dt) silent rfl]
      obtain ⟨con, timer, requested, view, current, number, record, interval, flags, reports, queued⟩ := takeCon_claims (s := y) helm
      exact ⟨con, timer, requested, view, current, number, record, interval, flags, reports, queued⟩
    · rw [ended, holderSilent_of_heard (s := x) (now := s.later dt) heard rfl]
      rfl
    · exact (advance_touches s dt).mono.trans touches.mono
  · obtain ⟨holds, requests⟩ := discrete_helm helm
    exact ⟨holds, requests, fun i => ownerless⟩

end Sys2Proof.Machine
end

section
/-! SUPPORT. What reports and offers leave of the link, and how many places of the queue they take (R162, R163, R165). -/

namespace Sys2Proof.Machine

-- As in Laws/Touches.lean: one theorem at a time.
set_option Elab.async false

/-! ## The link beside its queue -/

/-- The link changed in its queue, its last loss and IDLE's change to DEFERRING alone, the part mark kept. -/
def KeepsLink (s t : State) : Prop := s.comms.Kept t.comms

theorem KeepsLink.refl (s : State) : KeepsLink s s := Comms.Kept.refl _

theorem KeepsLink.trans {s t u : State} (h : KeepsLink s t) (k : KeepsLink t u) : KeepsLink s u := Comms.Kept.trans h k

theorem KeepsLink.ite {s t u : State} {c : Prop} [Decidable c] (h : KeepsLink s t) (k : KeepsLink s u) :
    KeepsLink s (if c then t else u) := by
  split <;> assumption

theorem KeepsLink.whenever {f : State → State} (s : State) (p : Bool) (h : KeepsLink s (f s)) : KeepsLink s (s.whenever p f) :=
  .ite h (.refl s)

theorem KeepsLink.errorMark {s t : State} (h : KeepsLink s t) : t.comms.link.errorMark = s.comms.link.errorMark := by
  rw [h.link]

theorem OnlyTouches.keepsLink {ps : List Part} {s t : State} (h : OnlyTouches ps s t) (n : Part.link ∉ ps := by decide)
    (m : Part.alerts ∉ ps := by decide) : KeepsLink s t := by
  refine ⟨?_, .inl ?_, ?_⟩
  · rw [h.link n]
  · rw [h.link n]
  · rw [h.alerts m]

theorem ReportOnly.keepsLink {s t : State} (h : ReportOnly s t) : KeepsLink s t := ⟨h.2.1, h.2.2.1, h.2.2.2.1⟩

theorem raise_keepsLink (s : State) (c : AlertCode) : KeepsLink s (s.raise c) := (raise_raises s c).1.keepsLink

theorem follow_keepsLink (s : State) (c : AlertCode) (b : Bool) : KeepsLink s (s.follow c b) := by
  have h := follow_follows s c b
  unfold Follows Raised Ended at h
  split at h <;> split at h
  · rw [h]; exact .refl s
  · exact h.1.keepsLink
  · exact h.1.keepsLink
  · rw [h]; exact .refl s

theorem raiseNew_keepsLink (s : State) (c : AlertCode) : KeepsLink s (s.raiseNew c) := follow_keepsLink s c true

theorem clear_keepsLink (s : State) (c : AlertCode) : KeepsLink s (s.clear c) := follow_keepsLink s c false

theorem followChange_keepsLink (s : State) (c : AlertCode) (was b : Bool) : KeepsLink s (s.followChange c was b) :=
  .ite (.refl s) (follow_keepsLink s c b)

theorem offered_keepsLink (s : State) (w : Waiting) :
    KeepsLink s { s with comms := s.comms.offer s.station s.clock w } := by
  show s.comms.Kept (s.comms.offer s.station s.clock w)
  unfold Comms.offer
  split
  · refine Comms.Kept.trans (n := { s.comms with link := s.comms.link.put s.clock w }) ⟨rfl, ?_, rfl⟩ (afterLoss_kept _ _ _ _)
    show wakeTx (offerQueue w s.comms.link.queue) s.comms.link.tx = _ ∨ _ ∧ wakeTx (offerQueue w s.comms.link.queue) s.comms.link.tx = _
    rw [wakeTx_eq]
    split
    next wakes => exact .inr ⟨wakes.1, rfl⟩
    · exact .inl rfl
  · exact .refl _

theorem offer_keepsLink (s : State) (k : FrameKind) (c : Fin 4) : KeepsLink s (s.offer k c) := offered_keepsLink s _

theorem offerWith_keepsLink (s : State) (c : Fin 4) (p : Payload) : KeepsLink s (s.offerWith c p) := offered_keepsLink s _

/-- A change that leaves the link and the alert unit's part mark. -/
theorem KeepsLink.of_comms {s t : State} (link : t.comms.link = s.comms.link := by rfl)
    (part : t.comms.alerts.part1Due = s.comms.alerts.part1Due := by rfl) : KeepsLink s t := by
  refine ⟨?_, .inl ?_, part⟩ <;> rw [link]

/-! ## The places taken -/

/-- An operation that takes at most n places of the queue besides one for an ALERT, and drops no frame while it has
them. -/
def Grows (n : Nat) (s t : State) : Prop :=
  s.load + n ≤ 7 → t.load ≤ s.load + n ∧ ∀ k, s.waits k = true → t.waits k = true

theorem Loaded.grows {s t : State} (h : s.load ≤ 7 → Loaded s t) : Grows 0 s t := fun room => ⟨(h room).load, (h room).waits⟩

theorem Grows.refl (s : State) : Grows 0 s s := Loaded.grows fun _ => .refl s

theorem Grows.trans {m n : Nat} {s t u : State} (h : Grows m s t) (k : Grows n t u) : Grows (m + n) s u := fun room => by
  obtain ⟨load, waits⟩ := h (by omega)
  obtain ⟨load', waits'⟩ := k (by omega)
  exact ⟨by omega, fun j w => waits' j (waits j w)⟩

theorem Grows.mono {m n : Nat} {s t : State} (h : Grows m s t) (le : m ≤ n := by decide) : Grows n s t := fun room => by
  obtain ⟨load, waits⟩ := h (by omega)
  exact ⟨by omega, waits⟩

theorem Grows.ite {n : Nat} {s t u : State} {c : Prop} [Decidable c] (h : Grows n s t) (k : Grows n s u) :
    Grows n s (if c then t else u) := by
  split <;> assumption

theorem Grows.whenever {n : Nat} {f : State → State} (s : State) (p : Bool) (h : Grows n s (f s)) : Grows n s (s.whenever p f) := by
  unfold State.whenever
  split
  · exact h
  · exact (Grows.refl s).mono (Nat.zero_le n)

theorem OnlyTouches.grows {ps : List Part} {s t : State} (h : OnlyTouches ps s t) (n : Part.link ∉ ps := by decide) :
    Grows 0 s t := Loaded.grows fun _ => h.loaded n

theorem Grows.of_comms {s t : State} (h : t.comms = s.comms := by rfl) : Grows 0 s t := Loaded.grows fun _ => .of_comms h

theorem raise_grows (s : State) (c : AlertCode) : Grows 0 s (s.raise c) := Loaded.grows (raise_loaded c)

theorem follow_grows (s : State) (c : AlertCode) (b : Bool) : Grows 0 s (s.follow c b) := Loaded.grows (follow_loaded c b)

theorem raiseNew_grows (s : State) (c : AlertCode) : Grows 0 s (s.raiseNew c) := follow_grows s c true

theorem clear_grows (s : State) (c : AlertCode) : Grows 0 s (s.clear c) := follow_grows s c false

theorem followChange_grows (s : State) (c : AlertCode) (was b : Bool) : Grows 0 s (s.followChange c was b) :=
  .ite (.refl s) (follow_grows s c b)

theorem offered_grows (s : State) (w : Waiting) : Grows 1 s { s with comms := s.comms.offer s.station s.clock w } := fun room => by
  by_cases act : s.station.acting = true
  · obtain ⟨load, -, waits⟩ := offered_loaded w act (by omega)
    exact ⟨load, waits⟩
  · have still : s.comms.offer s.station s.clock w = s.comms := if_neg act
    rw [still]
    exact ⟨Nat.le_succ _, fun _ => id⟩

theorem offer_grows (s : State) (k : FrameKind) (c : Fin 4) : Grows 1 s (s.offer k c) := offered_grows s _

theorem offerWith_grows (s : State) (c : Fin 4) (p : Payload) : Grows 1 s (s.offerWith c p) := offered_grows s _

end Sys2Proof.Machine
end

section
/-! SUPPORT. The entry to ACTIVE from JOINING: the judgements of every role (O7). -/

namespace Sys2Proof.Machine

-- As in Laws/Touches.lean: one theorem at a time.
set_option Elab.async false

/-- A condition raised where a test of the entry holds. -/
theorem whenever_raiseNew_has (s : State) (b : Bool) (c : AlertCode) :
    (s.whenever b (fun s => s.raiseNew c)).has c = (s.has c || b) := by
  cases b with
  | true => exact (raiseNew_has_self s c).trans (Bool.or_true _).symm
  | false => exact (Bool.or_false _).symm

theorem whenever_raiseNew_tells (s : State) (b : Bool) (c : AlertCode) : Tells [c] s (s.whenever b (fun s => s.raiseNew c)) :=
  .whenever s b (raiseNew_tells s c)

theorem whenever_raiseNew_keepsLink (s : State) (b : Bool) (c : AlertCode) : KeepsLink s (s.whenever b (fun s => s.raiseNew c)) :=
  .whenever s b (raiseNew_keepsLink s c)

theorem whenever_raiseNew_grows (s : State) (b : Bool) (c : AlertCode) : Grows 0 s (s.whenever b (fun s => s.raiseNew c)) :=
  .whenever s b (raiseNew_grows s c)

theorem whenever_raiseNew_touches (s : State) (b : Bool) (c : AlertCode) :
    OnlyTouches commsParts s (s.whenever b (fun s => s.raiseNew c)) := whenever_touches s b (raiseNew_touches s c)

/-! ## Up to the units (R15, R16, R23) -/

/-- ACTIVE entered, nothing judged yet. -/
def State.entering (s : State) : State :=
  { s with station := .active, start := { s.start with joinTimer := none, watch := startTimer s.clock (sec 1) } }

/-- The judgements before the units. -/
def State.entered (s : State) : State := ((s.entering.judgeConflict false).judgeSilent false).entryDemand

theorem enterActive_eq (s : State) :
    s.enterActive = s.entered.entryUnits.entryCommon.entryAlert.judgeCoupStandby := rfl

/-- The judgements before the units, as they leave the station. -/
structure Entered (s u : State) : Prop where
  touches : OnlyTouches [.station, .start, .present, .alerts, .link] s u
  station : u.station = .active
  start : u.start = { s.start with joinTimer := none, watch := startTimer s.clock (sec 1) }
  conflict : u.has .addressConflict = (s.has .addressConflict || s.anyConflict)
  silent : u.has .peerSilent = (s.has .peerSilent || (s.isHelm || s.isProp) && s.anySilentWorker)
  lost : u.has .demandLost =
    (s.has .demandLost || (s.demand.record.state == .held || s.demand.record.state == .decaying))
  tells : Tells [.addressConflict, .peerSilent, .demandLost] s u
  link : KeepsLink s u
  grows : Grows 0 s u

theorem entered_entered (s : State) : Entered s s.entered := by
  let a := s.entering
  let b := a.judgeConflict false
  let c := b.judgeSilent false
  have first : OnlyTouches [.station, .start] s a := stationStart_touches s _ _
  have second : OnlyTouches commsParts a b := judgeConflict_touches a _
  have third : OnlyTouches commsParts b c := judgeSilent_touches b _
  have last : OnlyTouches commsParts c s.entered := entryDemand_touches c
  have before : OnlyTouches [.station, .start, .present, .alerts, .link] s c := first.mono.trans (second.mono.trans third.mono)
  have conflictLink : KeepsLink a b := by
    show KeepsLink a { a with comms := (if _ then _ else _ : State).comms }
    split
    · exact followChange_keepsLink a .addressConflict false a.anyConflict
    · exact .refl a
  have conflictGrows : Grows 0 a b := by
    show Grows 0 a { a with comms := (if _ then _ else _ : State).comms }
    split
    · exact followChange_grows a .addressConflict false a.anyConflict
    · exact .refl a
  have silentLink : KeepsLink b c := by
    show KeepsLink b { b with comms := (if _ then _ else _ : State).comms }
    split
    · exact followChange_keepsLink b .peerSilent false b.anySilentWorker
    · exact .refl b
  have conflict : b.has .addressConflict = (s.has .addressConflict || s.anyConflict) := by
    rw [show b = a.judgeConflict false from rfl, judgeConflict_has, anyConflict_eq (first.peers (by decide)), first.has (by decide)]
    cases s.anyConflict <;> simp [show a.station.reporting = true from rfl]
  have silent : c.has .peerSilent = (s.has .peerSilent || (s.isHelm || s.isProp) && s.anySilentWorker) := by
    rw [show c = b.judgeSilent false from rfl, judgeSilent_has, anySilentWorker_eq ((second.peers (by decide)).trans (first.peers (by decide))),
      isHelm_eq ((second.role (by decide)).trans (first.role (by decide))),
      isProp_eq ((second.role (by decide)).trans (first.role (by decide))),
      show b.station = .active from second.station (by decide), judgeConflict_tells a false .peerSilent (by decide) nofun,
      first.has (by decide)]
    cases s.anySilentWorker <;> simp [StationState.reporting, Bool.or_comm]
  have demand : c.demand = s.demand := before.demand (by decide)
  have tells : Tells [.demandLost] c s.entered := whenever_raiseNew_tells c _ _
  refine ⟨before.trans last.mono, (last.station (by decide)).trans ((third.station (by decide)).trans (second.station (by decide))),
    (last.start (by decide)).trans ((third.start (by decide)).trans (second.start (by decide))), ?_, ?_, ?_, ?_, ?_, ?_⟩
  · rw [tells .addressConflict (by decide) nofun, judgeSilent_tells b false .addressConflict (by decide) nofun, conflict]
  · rw [tells .peerSilent (by decide) nofun, silent]
  · rw [show s.entered = c.entryDemand from rfl]
    unfold State.entryDemand
    rw [whenever_raiseNew_has, demand, judgeSilent_tells b false .demandLost (by decide) nofun,
      judgeConflict_tells a false .demandLost (by decide) nofun, first.has (by decide)]
  · exact first.tells.trans ((judgeConflict_tells a false).mono.trans ((judgeSilent_tells b false).mono.trans tells.mono))
  · exact first.keepsLink.trans (conflictLink.trans (silentLink.trans (whenever_raiseNew_keepsLink c _ _)))
  · exact first.grows.trans (conflictGrows.trans ((Loaded.grows fun free => judgeSilent_loaded false free).trans
      (whenever_raiseNew_grows c _ _)))

/-! ## After the units (R140, R167, R185, R196) -/

/-- The judgements that every role makes after its units. -/
structure Commons (u t : State) : Prop where
  touches : OnlyTouches commsParts u t
  error : t.has .rxError = (u.has .rxError || u.comms.link.errorMark)
  overrun : t.has .converterOverrun =
    (u.has .converterOverrun || (u.conv.lastOverrun.isSome && !aged u.conv.lastOverrun u.clock (sec 10)))
  tells : Tells [.rxError, .converterOverrun] u t
  grows : Grows 0 u t

theorem entryCommon_commons (u : State) : Commons u u.entryCommon := by
  let a := u.whenever u.comms.link.errorMark (fun s => s.raiseNew .rxError)
  have first : OnlyTouches commsParts u a := whenever_raiseNew_touches u _ _
  have firstTells : Tells [.rxError] u a := whenever_raiseNew_tells u _ _
  let b := a.conv.lastOverrun.isSome && !aged a.conv.lastOverrun a.clock (sec 10)
  have lastTells : Tells [.converterOverrun] a u.entryCommon := whenever_raiseNew_tells a b _
  refine ⟨first.trans (whenever_raiseNew_touches a b _), ?_, ?_, firstTells.mono.trans lastTells.mono,
    (whenever_raiseNew_grows u _ _).trans (whenever_raiseNew_grows a b _)⟩
  · rw [lastTells .rxError (by decide) nofun]
    exact whenever_raiseNew_has u _ _
  · have has : u.entryCommon.has .converterOverrun = (a.has .converterOverrun || b) := whenever_raiseNew_has a b _
    rw [has, firstTells .converterOverrun (by decide) nofun]
    show (_ || (a.conv.lastOverrun.isSome && !aged a.conv.lastOverrun a.clock (sec 10))) = _
    rw [first.conv (by decide), first.clock (by decide)]

/-- A moment less than a limit ago. -/
theorem recent_iff (moment : Option Clock) (now : Clock) (limit : Micros) :
    (moment.isSome && !aged moment now limit) = true ↔ ∃ since, moment = some since ∧ elapsed now since < limit := by
  cases moment <;> simp [aged]

theorem Queued.list {w : Waiting} {s t : State} (h : Queued w s t) : t.comms.alerts.list = s.comms.alerts.list :=
  congrArg (·.comms.alerts.list) h

/-- The end of the entry: the repeat timer, the ALERT, and a COUPLING station's standing by. -/
structure Closes (u t : State) : Prop where
  touches : OnlyTouches coupComms u t
  tells : Tells [] u t
  station : t.station = if u.isCoup && u.start.request && !aboveTaut u.coup.cls then .standby else .active
  afresh : t.RepeatsAfresh
  reports : Reports u t
  still : u.isCoup = false → OnlyTouches commsParts u t
  stays : t.station = .active → t.coup = u.coup
  waits : u.load ≤ 5 → t.comms.alerts.list ≠ [] → t.waits .alert = true

theorem closes {u : State} (act : u.station = .active) : Closes u u.entryAlert.judgeCoupStandby := by
  let r := u.restartRepeat
  let a := u.entryAlert
  have acts : u.station.acting = true := by rw [act]; rfl
  have eq : a = r.whenever (!r.comms.alerts.list.isEmpty) State.offerAlert := rfl
  have touches : OnlyTouches commsParts u a := entryAlert_touches u
  have station : a.station = .active := (touches.station (by decide)).trans act
  have afresh : a.comms.alerts.repeatTimer = repeatAfter .active u.clock a.comms.alerts.list none := by
    have begun : r.comms.alerts.repeatTimer = repeatAfter .active u.clock r.comms.alerts.list none := by rw [← act]; rfl
    rw [eq]
    unfold State.whenever
    split
    · have offered := offered_afresh (m := r.comms) ⟨.alert, alertClass r.comms.alerts.list, r.clock, none⟩ begun
      rw [← act] at offered ⊢
      exact offered
    · exact begun
  have alerts : u.load ≤ 5 → (a.comms.alerts.list ≠ [] → a.waits .alert = true) ∧ a.load ≤ 6 := by
    intro room
    have free : r.load ≤ 7 := Nat.le_trans (show r.load ≤ 5 from room) (by decide)
    rw [eq]
    unfold State.whenever
    split
    · obtain ⟨load, waits, -⟩ := offer_loaded (s := r) .alert (alertClass r.comms.alerts.list) acts free
      exact ⟨fun _ => waits, load.trans (Nat.succ_le_succ room)⟩
    next none => exact ⟨fun some => absurd (by simpa using none) some, Nat.le_trans (show r.load ≤ 5 from room) (by decide)⟩
  have coup : a.isCoup = u.isCoup := isCoup_eq (touches.role (by decide))
  have test : (a.isCoup && a.station == .active && a.start.request && !aboveTaut a.coup.cls) =
      (u.isCoup && u.start.request && !aboveTaut u.coup.cls) := by
    rw [coup, station, touches.start (by decide), touches.coup (by decide)]
    simp
  have ends : a.judgeCoupStandby = if u.isCoup && u.start.request && !aboveTaut u.coup.cls then a.coupStandby else a := by
    unfold State.judgeCoupStandby State.whenever
    rw [test]
  have coup' : a.coup = u.coup := touches.coup (by decide)
  have restarted : Tells [] u r := .still
  have told : Tells [] u a := restarted.trans (.whenever r _ (offerAlert_tells r))
  have reports : Reports u a := ⟨by rw [coup'], fun c nt => told c (by simp) nt⟩
  refine ⟨touches.mono.trans (judgeCoupStandby_touches a), told.trans (judgeCoupStandby_tells a), ?_, ?_, ?_, fun other => ?_, fun stands => ?_,
    fun room some => ?_⟩
  · rw [ends]
    split
    · rfl
    · exact station
  · rw [ends]
    split
    · refine (repeatsAfresh_iff rfl).mpr ?_
      let b : State := { a with
        station := .standby, demand := a.demand.pause, coup := { a.coup.rest .idle with interval := none },
        conv := a.conv.restart a.clock (ms 1000) }
      have clock : b.clock = u.clock := touches.clock (by decide)
      exact offered_afresh (m := b.comms) (st := .standby) (now := b.clock) ⟨.strain, b.strainClass, b.clock, none⟩
        (afresh.trans (by rw [clock]; rfl))
    · refine (repeatsAfresh_iff (by rw [station]; rfl)).mpr ?_
      rw [station, touches.clock (by decide)]
      exact afresh
  · rw [ends]
    split
    · exact reports.trans (coupStandby_reports a)
    · exact reports
  · rw [ends, other, Bool.false_and, Bool.false_and]
    exact touches
  · rw [ends] at stands ⊢
    split at stands
    · exact nomatch stands
    next stays =>
      rw [if_neg stays]
      exact coup'
  · obtain ⟨waits, load⟩ := alerts room
    rw [ends] at some ⊢
    split at some
    next stands =>
      rw [if_pos stands]
      let b : State := { a with
        station := .standby, demand := a.demand.pause, coup := { a.coup.rest .idle with interval := none },
        conv := a.conv.restart a.clock (ms 1000) }
      have free : b.load ≤ 7 := Nat.le_trans (show b.load ≤ 6 from load) (by decide)
      have queued := offer_queued (s := b) .strain b.strainClass rfl (queueFree_of_load free)
      have list : a.coupStandby.comms.alerts.list = a.comms.alerts.list := queued.list
      rw [list] at some
      exact (offer_loaded (s := b) .strain b.strainClass rfl free).2.2 .alert (waits some)
    next stays =>
      rw [if_neg stays]
      exact waits some

end Sys2Proof.Machine
end

section
/-! SUPPORT. The entry to ACTIVE from JOINING: a HELM station's units (O7). -/

namespace Sys2Proof.Machine

-- As in Laws/Touches.lean: one theorem at a time.
set_option Elab.async false

/-! ## What taking the con up leaves of the link, the queue and the account -/

theorem setHolderLow_account (s : State) (l : Option (Tab 4 Bool)) :
    (s.setHolderLow l).account = { s.account with holderLow := l } := judgeTankLow_account _

theorem setHolderLow_keepsLink (s : State) (l : Option (Tab 4 Bool)) : KeepsLink s (s.setHolderLow l) :=
  KeepsLink.trans (t := { s with account := { s.account with holderLow := l } }) (.refl s)
    (.whenever _ _ (follow_keepsLink _ _ _))

theorem setHolderLow_grows (s : State) (l : Option (Tab 4 Bool)) : Grows 0 s (s.setHolderLow l) :=
  Loaded.grows (setHolderLow_loaded l)

theorem lagAll_keepsLink (s : State) : KeepsLink s s.lagAll :=
  KeepsLink.trans (t := { s with helm := { s.helm with lag := zipTab (lagOf s.clock s.helm.number) s.peers.entries s.helm.lag } })
    (.refl s) (.whenever _ _ (clear_keepsLink _ _))

theorem switchOn_keepsLink (s : State) : KeepsLink s s.switchOn :=
  .ite (KeepsLink.trans (t := { s with helm := { s.helm with switchPending := false, standbyQueued := true } }) (.refl s)
    (offerWith_keepsLink _ _ _)) (.refl s)

theorem switchOn_grows (s : State) : Grows 1 s s.switchOn :=
  .ite (Grows.trans (t := { s with helm := { s.helm with switchPending := false, standbyQueued := true } }) .of_comms
    (offerWith_grows _ _ _)).mono (Grows.of_comms (s := s)
      (t := { s with helm := { s.helm with switchPending := true, standbyQueued := false } })).mono

theorem reportedUp_keepsLink (s : State) : KeepsLink s s.reportedUp := by
  let u := s.tookUp
  have begun : KeepsLink s u := .refl s
  have found : KeepsLink u u.foundDemand := .whenever u _ (clear_keepsLink u _)
  exact begun.trans (found.trans ((clear_keepsLink _ _).trans ((setHolderLow_keepsLink _ _).trans
    ((offer_keepsLink _ _ _).trans (lagAll_keepsLink _)))))

theorem reportedUp_grows (s : State) : Grows 1 s s.reportedUp := by
  let u := s.tookUp
  have begun : Grows 0 s u := .of_comms
  have found : Grows 0 u u.foundDemand := Loaded.grows foundDemand_loaded
  exact begun.trans (found.trans ((clear_grows _ _).trans ((setHolderLow_grows _ _).trans
    ((offer_grows _ _ _).trans (Loaded.grows lagAll_loaded)))))

theorem reportedUp_account (s : State) : s.reportedUp.account = { s.account with holderLow := none } := by
  let u := s.tookUp
  let v := (u.foundDemand.clear .conLost).setHolderLow none
  have before : OnlyTouches commsParts u (u.foundDemand.clear .conLost) := (foundDemand_touches u).mono.trans (clear_touches _ _).mono
  have after : OnlyTouches (.helm :: commsParts) v s.reportedUp := (offer_touches v _ _).mono.trans (lagAll_touches _).mono
  rw [after.account (by decide), setHolderLow_account, before.account (by decide)]
  rfl

theorem enterHolding_keepsLink (s : State) : KeepsLink s s.enterHolding :=
  (reportedUp_keepsLink s).trans (.whenever _ _ (switchOn_keepsLink _))

theorem enterHolding_grows (s : State) : Grows 2 s s.enterHolding :=
  (reportedUp_grows s).trans (.whenever _ _ (switchOn_grows _))

theorem enterHolding_account (s : State) : s.enterHolding.account = { s.account with holderLow := none } := by
  have switched : OnlyTouches (.helm :: commsParts) s.reportedUp s.enterHolding :=
    whenever_touches s.reportedUp _ (switchOn_touches_helm _)
  rw [switched.account (by decide), reportedUp_account]

/-- A claim by TAKE: the frame, the own candidate, the entry to HOLDING. -/
theorem takeCon_eq {s : State} (helm : s.isHelm = true) : s.takeCon =
    (((s.offerWith 1 (.con .take (conFields s.address (s.demand.view.epoch + 1) s.helm.live.thrust s.helm.live.turn))).viewing
      s.address (s.demand.view.epoch + 1)).setHolderLow none).enterHolding := by
  let a := s.offerWith 1 (.con .take (conFields s.address (s.demand.view.epoch + 1) s.helm.live.thrust s.helm.live.turn))
  have offered : OnlyTouches commsParts s a := offerWith_touches s 1 _
  have address : a.address = s.address := offered.address (by decide)
  have pref : preferred a.demand.view a.address (s.demand.view.epoch + 1) = true := by
    rw [offered.demand (by decide)]
    exact preferred_next _ _
  have viewed := offerView_own (s := a) pref ((isHelm_eq (offered.role (by decide))).trans helm)
  rw [address] at viewed
  exact congrArg State.enterHolding viewed

/-- What a claim or an entry to HOLDING leaves besides the con. -/
structure Upheld (s t : State) : Prop where
  touches : OnlyTouches (.helm :: .demand :: .account :: commsParts) s t
  account : t.account = { s.account with holderLow := none }
  link : KeepsLink s t
  grows : Grows 3 s t

theorem enterHolding_upheld (s : State) : Upheld s s.enterHolding :=
  ⟨(enterHolding_takes s).touches, enterHolding_account s, enterHolding_keepsLink s, (enterHolding_grows s).mono⟩

theorem takeCon_upheld {s : State} (helm : s.isHelm = true) : Upheld s s.takeCon := by
  let p : Payload := .con .take (conFields s.address (s.demand.view.epoch + 1) s.helm.live.thrust s.helm.live.turn)
  let a := s.offerWith 1 p
  let v := a.viewing s.address (s.demand.view.epoch + 1)
  let u := v.setHolderLow none
  have offered : OnlyTouches commsParts s a := offerWith_touches s 1 _
  have viewed : OnlyTouches [.demand] a v := demand_touches a _
  have flagged : OnlyTouches (.account :: commsParts) v u := setHolderLow_touches v none
  rw [takeCon_eq helm]
  refine ⟨offered.mono.trans (viewed.mono.trans (flagged.mono.trans (enterHolding_takes u).touches)), ?_, ?_, ?_⟩
  · rw [enterHolding_account, show u.account = _ from setHolderLow_account v none, viewed.account (by decide), offered.account (by decide)]
  · exact (offerWith_keepsLink s 1 p).trans (viewed.keepsLink.trans ((setHolderLow_keepsLink v none).trans (enterHolding_keepsLink u)))
  · exact (offerWith_grows s 1 p).trans (viewed.grows.trans ((setHolderLow_grows v none).trans (enterHolding_grows u)))

end Sys2Proof.Machine
end

section
/-! SUPPORT. The entry to ACTIVE from JOINING: the con, the account and the view of a HELM station (O7). -/

namespace Sys2Proof.Machine

-- As in Laws/Touches.lean: one theorem at a time.
set_option Elab.async false

/-! ## The con at the entry (R24, R32, R33) -/

/-- The lever judgement of the entry. -/
def State.leversJudged (s : State) : State :=
  s.whenever (s.helm.thrustFault || s.helm.turnFault) (fun s => s.raiseNew .leverSignal)

/-- What the con unit leaves at the entry. -/
structure HelmUp (s t : State) : Prop where
  touches : OnlyTouches (.helm :: .demand :: .account :: commsParts) s t
  tells : Tells (.leverSignal :: holdingCodes) s t
  lever : t.has .leverSignal = (s.has .leverSignal || (s.helm.thrustFault || s.helm.turnFault))
  takes : s.demand.view.holder = none → s.param Param.primaryHelm = 1 → t.helm.con = .holding ∧ t.has .demandLost = false ∧
    t.demand.view = { holder := some s.address, epoch := s.demand.view.epoch + 1 }
  holds : s.demand.view.holder = some s.address → t.helm.con = .holding ∧ t.has .demandLost = false ∧
    t.demand.view = s.demand.view
  stands : s.demand.view.holder ≠ some s.address → s.demand.view.holder ≠ none ∨ s.param Param.primaryHelm ≠ 1 →
    t.helm = s.helm ∧ t.demand = s.demand ∧ t.has .demandLost = s.has .demandLost
  low : t.account.low = s.account.low
  disc : t.account.lastDisc = s.account.lastDisc
  link : KeepsLink s t
  grows : Grows 3 s t

theorem superviseHelm_up {s : State} (helm : s.isHelm = true) (act : s.station = .active) : HelmUp s s.superviseHelm := by
  let x := s.leversJudged
  have touches : OnlyTouches commsParts s x := whenever_raiseNew_touches s _ _
  have told : Tells [.leverSignal] s x := whenever_raiseNew_tells s _ _
  have lever : x.has .leverSignal = (s.has .leverSignal || (s.helm.thrustFault || s.helm.turnFault)) := whenever_raiseNew_has s _ _
  have lost : x.has .demandLost = s.has .demandLost := told .demandLost (by decide) nofun
  have link : KeepsLink s x := whenever_raiseNew_keepsLink s _ _
  have grows : Grows 0 s x := whenever_raiseNew_grows s _ _
  have demand : x.demand = s.demand := touches.demand (by decide)
  have address : x.address = s.address := touches.address (by decide)
  have station : x.station = .active := (touches.station (by decide)).trans act
  have param : ∀ q, x.param q = s.param q := fun q => by
    unfold State.param
    rw [touches.start (by decide)]
  have upheld {t : State} (up : Upheld x t) (tells : Tells holdingCodes x t) :
      OnlyTouches (.helm :: .demand :: .account :: commsParts) s t ∧ Tells (.leverSignal :: holdingCodes) s t ∧
      t.has .leverSignal = (s.has .leverSignal || (s.helm.thrustFault || s.helm.turnFault)) ∧
      t.account.low = s.account.low ∧ t.account.lastDisc = s.account.lastDisc ∧ KeepsLink s t ∧ Grows 3 s t := by
    refine ⟨touches.mono.trans up.touches, told.mono.trans tells.mono, (tells .leverSignal (by decide) nofun).trans lever, ?_, ?_,
      link.trans up.link, grows.trans up.grows⟩
    · rw [up.account, touches.account (by decide)]
    · rw [up.account, touches.account (by decide)]
  have still (n : s.demand.view.holder = none → s.param Param.primaryHelm ≠ 1) (n' : s.demand.view.holder ≠ some s.address) :
      HelmUp s x :=
    ⟨touches.mono, told.mono, lever, fun none one => absurd one (n none), fun own => absurd own n',
      fun _ _ => ⟨touches.helm (by decide), demand, lost⟩, by rw [touches.account (by decide)], by rw [touches.account (by decide)],
      link, grows.mono⟩
  show HelmUp s (match x.demand.view.holder with
    | none => if x.param Param.primaryHelm = 1 then x.takeCon else x
    | some h => if h = x.address then x.enterHolding else x)
  rw [demand, param, address]
  cases holder : s.demand.view.holder with
  | none =>
    dsimp only
    split
    next one =>
      have own : x.isHelm = true := (isHelm_eq (touches.role (by decide))).trans helm
      have claims := takeCon_claims (s := x) own
      obtain ⟨all, tells, lever, low, disc, link, grows⟩ := upheld (takeCon_upheld own) (takeCon_tells x)
      refine ⟨all, tells, lever, fun _ _ => ⟨claims.con, (claims.reports station).2, ?_⟩, fun own => ?_, fun _ n => ?_, low, disc, link, grows⟩
      · rw [claims.view, address, demand]
      · rw [holder] at own
        exact nomatch own
      · rcases n with n | n
        · exact absurd holder n
        · exact absurd one n
    next other => exact still (fun _ => other) (by rw [holder]; nofun)
  | some h =>
    dsimp only
    split
    next own =>
      have takes := enterHolding_takes x
      obtain ⟨all, tells, lever, low, disc, link, grows⟩ := upheld (enterHolding_upheld x) (enterHolding_tells x)
      refine ⟨all, tells, lever, fun none => ?_, fun _ => ⟨takes.con, takes.found (by rw [station]; rfl), ?_⟩, fun n => ?_, low, disc, link, grows⟩
      · rw [holder] at none
        exact nomatch none
      · rw [takes.demand]
        show x.demand.view = _
        rw [demand]
      · rw [holder, own] at n
        exact absurd rfl n
    next other => exact still (fun none => by rw [holder] at none; exact nomatch none) (by rw [holder]; simpa using other)

/-! ## A HELM station's units (R126, R128, R143) -/

/-- What a HELM station's units leave at the entry. -/
structure HelmEntered (s t : State) : Prop where
  touches : OnlyTouches conParts s t
  tells : Tells ([.leverSignal, .fuelDiscontinuity, .viewFull] ++ holdingCodes) s t
  lever : t.has .leverSignal = (s.has .leverSignal || (s.helm.thrustFault || s.helm.turnFault))
  takes : s.demand.view.holder = none → s.param Param.primaryHelm = 1 → t.helm.con = .holding ∧ t.has .demandLost = false ∧
    t.demand.view = { holder := some s.address, epoch := s.demand.view.epoch + 1 }
  holds : s.demand.view.holder = some s.address → t.helm.con = .holding ∧ t.has .demandLost = false ∧
    t.demand.view = s.demand.view
  stands : s.demand.view.holder ≠ some s.address → s.demand.view.holder ≠ none ∨ s.param Param.primaryHelm ≠ 1 →
    t.helm = s.helm ∧ t.demand = s.demand ∧ t.has .demandLost = s.has .demandLost
  tankLow : t.has .tankLow = t.account.anyLow
  low : t.account.low = s.account.low
  disc : t.has .fuelDiscontinuity =
    (s.has .fuelDiscontinuity || (s.account.lastDisc.isSome && !aged s.account.lastDisc s.clock (sec 60)))
  full : t.has .viewFull = (s.has .viewFull || decide (48 ≤ s.view.items.length))
  interval : t.account.interval = startTimer s.clock (sec (s.param Param.accountInterval))
  link : KeepsLink s t
  grows : Grows 3 s t

theorem entryHelm_entered {s : State} (helm : s.isHelm = true) (act : s.station = .active) : HelmEntered s s.entryHelm := by
  let a := s.superviseHelm
  let disc := a.account.lastDisc.isSome && !aged a.account.lastDisc a.clock (sec 60)
  let b := a.whenever disc (fun s => s.raiseNew .fuelDiscontinuity)
  let c := b.judgeTankLow
  let d : State := { c with account := { c.account with interval := startTimer c.clock (sec (c.param Param.accountInterval)) } }
  let t := d.whenever (decide (48 ≤ d.view.items.length)) (fun t => t.raiseNew .viewFull)
  have up : HelmUp s a := superviseHelm_up helm act
  have ab : OnlyTouches commsParts a b := whenever_raiseNew_touches a _ _
  have bc : OnlyTouches commsParts b c := judgeTankLow_touches b
  have cd : OnlyTouches [.account] c d := account_touches c _
  have dt : OnlyTouches commsParts d t := whenever_raiseNew_touches d _ _
  have ac : OnlyTouches commsParts a c := ab.trans bc
  have ad : OnlyTouches (.account :: commsParts) a d := ac.mono.trans cd.mono
  have abT : Tells [.fuelDiscontinuity] a b := whenever_raiseNew_tells a _ _
  have bcT : Tells [.tankLow] b c := judgeTankLow_tells b
  have dtT : Tells [.viewFull] d t := whenever_raiseNew_tells d _ _
  have adT : Tells [.fuelDiscontinuity, .tankLow] a d := abT.mono.trans (bcT.mono.trans cd.tells)
  have atT : Tells [.fuelDiscontinuity, .tankLow, .viewFull] a t := adT.mono.trans dtT.mono
  have sc : OnlyTouches (.helm :: .demand :: .account :: commsParts) s c := up.touches.mono.trans ac.mono
  have account : t.account = { a.account with interval := startTimer c.clock (sec (c.param Param.accountInterval)) } := by
    have own : d.account = { c.account with interval := startTimer c.clock (sec (c.param Param.accountInterval)) } := rfl
    rw [dt.account (by decide), own, ac.account (by decide)]
  have clock : a.clock = s.clock := up.touches.clock (by decide)
  show HelmEntered s t
  have bStation : b.station = .active := (ab.station (by decide)).trans ((up.touches.station (by decide)).trans act)
  have bHelm : b.isHelm = true := (isHelm_eq ((ab.role (by decide)).trans (up.touches.role (by decide)))).trans helm
  refine ⟨up.touches.mono.trans (ad.mono.trans dt.mono), up.tells.mono.trans atT.mono, ?_, fun none one => ?_, fun own => ?_,
    fun n n' => ?_, ?_, ?_, ?_, ?_, ?_, ?_, ?_⟩
  · exact (atT .leverSignal (by decide) nofun).trans up.lever
  · obtain ⟨con, lost, view⟩ := up.takes none one
    rw [dt.helm (by decide), ad.helm (by decide), atT .demandLost (by decide) nofun, dt.demand (by decide), ad.demand (by decide)]
    exact ⟨con, lost, view⟩
  · obtain ⟨con, lost, view⟩ := up.holds own
    rw [dt.helm (by decide), ad.helm (by decide), atT .demandLost (by decide) nofun, dt.demand (by decide), ad.demand (by decide)]
    exact ⟨con, lost, view⟩
  · obtain ⟨unit, demand, lost⟩ := up.stands n n'
    rw [dt.helm (by decide), ad.helm (by decide), atT .demandLost (by decide) nofun, dt.demand (by decide), ad.demand (by decide)]
    exact ⟨unit, demand, lost⟩
  · have low := judgeTankLow_has (s := b) bHelm (by rw [bStation]; rfl)
    rw [dtT .tankLow (by decide) nofun, dt.account (by decide)]
    show c.has .tankLow = c.account.anyLow
    rw [bc.account (by decide)]
    exact low
  · rw [account]
    exact up.low
  · have has : b.has .fuelDiscontinuity = (a.has .fuelDiscontinuity || disc) := whenever_raiseNew_has a _ _
    rw [dtT .fuelDiscontinuity (by decide) nofun]
    show c.has .fuelDiscontinuity = _
    rw [bcT .fuelDiscontinuity (by decide) nofun, has, up.tells .fuelDiscontinuity (by decide) nofun]
    show (_ || (a.account.lastDisc.isSome && !aged a.account.lastDisc a.clock (sec 60))) = _
    rw [up.disc, clock]
  · have has : t.has .viewFull = (d.has .viewFull || decide (48 ≤ d.view.items.length)) := whenever_raiseNew_has d _ _
    rw [has, adT .viewFull (by decide) nofun, up.tells .viewFull (by decide) nofun, ad.view (by decide), up.touches.view (by decide)]
  · rw [account]
    have param : c.param Param.accountInterval = s.param Param.accountInterval := by
      unfold State.param
      rw [sc.start (by decide)]
    show startTimer c.clock (sec (c.param Param.accountInterval)) = _
    rw [param, sc.clock (by decide)]
  · exact up.link.trans ((whenever_raiseNew_keepsLink a _ _).trans ((KeepsLink.whenever b _ (follow_keepsLink b _ _)).trans
      ((KeepsLink.of_comms (s := c) (t := d)).trans (whenever_raiseNew_keepsLink d _ _))))
  · exact up.grows.trans ((whenever_raiseNew_grows a _ _).trans ((Loaded.grows judgeTankLow_loaded).trans
      ((Grows.of_comms (s := c) (t := d)).trans (whenever_raiseNew_grows d _ _))))

end Sys2Proof.Machine
end

section
/-! SUPPORT. The entry to ACTIVE from JOINING: the gear, the governor and the steering of a PROPULSION station (O7). -/

namespace Sys2Proof.Machine

-- As in Laws/Touches.lean: one theorem at a time.
set_option Elab.async false

/-! ## What a change of the drive leaves of the governor and of the trim's series -/

/-- The governor's pulses and the series of the trim stand. -/
structure PowerKept (s t : State) : Prop where
  pulse : PulseKept s t
  economy : t.thrust.economy = s.thrust.economy

theorem PowerKept.refl (s : State) : PowerKept s s := ⟨.of_gov rfl, rfl⟩

theorem PowerKept.trans {s t u : State} (h : PowerKept s t) (k : PowerKept t u) : PowerKept s u :=
  ⟨h.pulse.trans k.pulse, k.economy.trans h.economy⟩

theorem OnlyTouches.powerKept {ps : List Part} {s t : State} (h : OnlyTouches ps s t) (n : Part.gov ∉ ps := by decide)
    (m : Part.thrust ∉ ps := by decide) : PowerKept s t := ⟨.of_gov (h.gov n), by rw [h.thrust m]⟩

theorem setDrive_powerKept (s : State) (x : Int) (g : GearState) : PowerKept s (s.setDrive x g) := by
  have either : ∀ (same : Bool) (d : Nat) (t : State), t.gov = (if same then s.gov else s.govAfterDuty d) → PulseKept s t := by
    intro same d t gov
    cases same
    · constructor <;> rw [gov] <;> rfl
    · exact .of_gov gov
  exact ⟨either _ _ _ rfl, rfl⟩

theorem refreshAvailability_powerKept (s : State) : PowerKept s s.refreshAvailability := by
  refine ⟨refreshAvailability_pulse s, ?_⟩
  unfold State.refreshAvailability
  split <;> rfl

theorem enterGear_powerKept (s : State) (g : GearState) : PowerKept s (s.enterGear g) := by
  let t : State := { s with gear := s.gear.entry s.clock (ms (s.param Param.neutralDwell)) g }
  have drives := setDrive_powerKept t (if engaged t.gear.state && !engaged g then 0 else t.thrust.x) g
  have begun : PowerKept s t := ⟨.of_gov rfl, rfl⟩
  refine begun.trans ?_
  show PowerKept t (if _ then _ else _)
  split
  · exact drives
  · exact drives.trans (refreshAvailability_powerKept _)

/-- The settle timer as the governor's supervision sets it. -/
def State.Settling (s : State) : Prop := s.gov.settle = if s.line 2 then startTimer s.clock (sec 5) else none

theorem refreshAvailability_settling {s : State} (act : s.station.acting = true) (h : s.Settling) :
    s.refreshAvailability.Settling := by
  have touches := refreshAvailability_touches s
  unfold State.Settling State.line at h ⊢
  rw [touches.lines (by decide), touches.clock (by decide)]
  obtain ⟨-, e⟩ | ⟨-, e⟩ := refreshAvailability_gov s
  · rw [e]
    exact h
  · rw [e]
    unfold State.govAfterDuty State.line
    dsimp only
    rw [act, Bool.true_and]
    split
    · rfl
    next off => rw [h, if_neg off]

theorem OnlyTouches.settling {ps : List Part} {s t : State} (k : OnlyTouches ps s t) (h : s.Settling)
    (gov : Part.gov ∉ ps := by decide) (lines : Part.lines ∉ ps := by decide) (clock : Part.clock ∉ ps := by decide) : t.Settling := by
  unfold State.Settling State.line
  rw [k.gov gov, k.lines lines, k.clock clock]
  exact h

/-! ## The gear (R66, R69) -/

/-- What the gear's supervision leaves. -/
structure GearUp (s t : State) : Prop where
  touches : OnlyTouches driveComms s t
  power : PowerKept s t
  supervised : t.gear.supervised = true
  state : t.gear.state = if s.line 0 && s.line 1 then .gearFault else if s.line 0 || s.line 1 then .disengaging else .neutral
  tells : Tells [.gearInterlock] s t
  interlock : t.has .gearInterlock = (s.has .gearInterlock || s.line 0 && s.line 1)
  link : KeepsLink s t
  grows : Grows 0 s t

theorem superviseGear_up (s : State) : GearUp s s.superviseGear := by
  let t : State := { s with gear := { s.gear with supervised := true } }
  have begun : OnlyTouches [.gear] s t := gear_touches s _
  have entered (g : GearState) : OnlyTouches driveComms s (t.enterGear g) ∧ PowerKept s (t.enterGear g) ∧
      (t.enterGear g).gear.supervised = true ∧ (t.enterGear g).gear.state = g := by
    have gear := enterGear_gear t g
    refine ⟨begun.mono.trans (enterGear_touches t g).mono, begun.powerKept.trans (enterGear_powerKept t g), ?_, ?_⟩
    · rw [gear]; rfl
    · rw [gear]
  have quiet (g : GearState) : Tells [.gearInterlock] s (t.enterGear g) ∧ (t.enterGear g).has .gearInterlock = s.has .gearInterlock ∧
      KeepsLink s (t.enterGear g) ∧ Grows 0 s (t.enterGear g) := by
    have touches := begun.mono.trans (enterGear_touches t g) (ps := driveParts)
    exact ⟨touches.tells, touches.has (by decide) _, touches.keepsLink, touches.grows⟩
  have gear := superviseGear_touches s
  show GearUp s (match s.line 0, s.line 1 with
    | false, false => t.enterGear .neutral
    | true, true => t.faultGear .gearInterlock
    | true, false => t.enterGear .disengaging
    | false, true => t.enterGear .disengaging)
  cases ahead : s.line 0 <;> cases astern : s.line 1
  case true.true =>
    have raised : OnlyTouches commsParts t (t.raise .gearInterlock) := raise_touches t _
    have after : OnlyTouches driveParts (t.raise .gearInterlock) (t.faultGear .gearInterlock) := enterGear_touches _ _
    have state := faultGear_gear t .gearInterlock
    refine ⟨begun.mono.trans (faultGear_touches t _), begun.powerKept.trans (raised.powerKept.trans (enterGear_powerKept _ _)), ?_, ?_,
      begun.tells.trans ((raise_tells t _).trans after.tells), ?_, begun.keepsLink.trans ((raise_keepsLink t _).trans after.keepsLink),
      begun.grows.trans ((raise_grows t _).trans after.grows)⟩
    · rw [state]
    · rw [state, ahead, astern]; rfl
    · rw [faultGear_has, ahead, astern]
      exact (Bool.or_true _).symm
  all_goals
    obtain ⟨touches, power, supervised, state⟩ := entered _
    obtain ⟨tells, interlock, link, grows⟩ := quiet _
    exact ⟨touches, power, supervised, state.trans (by rw [ahead, astern]; rfl), tells,
      interlock.trans (by rw [ahead, astern]; exact (Bool.or_false _).symm), link, grows⟩

/-! ## The governor (R72, R74) -/

/-- What the governor's supervision leaves. -/
structure GovernorUp (s t : State) : Prop where
  touches : OnlyTouches driveComms s t
  gear : t.gear = s.gear
  economy : t.thrust.economy = s.thrust.economy
  rpm : t.gov.rpm = s.gov.rpm
  settling : t.Settling
  tells : Tells [.shaftSignal, .overspeed] s t
  shaft : t.has .shaftSignal = (s.gov.noPulse || (s.caps.get 0).noise)
  speed : t.has .overspeed = (s.has .overspeed || s.overLimit)
  link : KeepsLink s t
  grows : Grows 0 s t

theorem followAvail_parts (s : State) (c : AlertCode) (b : Bool) : (s.followAvail c b).gear = s.gear ∧
    PowerKept s (s.followAvail c b) ∧ KeepsLink s (s.followAvail c b) ∧ Grows 0 s (s.followAvail c b) ∧
    (s.station.acting = true → s.Settling → (s.followAvail c b).Settling) := by
  have followed : OnlyTouches commsParts s (s.follow c b) := follow_touches s c b
  have after := refreshAvailability_touches (s.follow c b)
  unfold State.followAvail
  split
  · exact ⟨rfl, .refl s, .refl s, .refl s, fun _ => id⟩
  · refine ⟨(refreshAvailability_gear _).trans (followed.gear (by decide)), followed.powerKept.trans (refreshAvailability_powerKept _),
      (follow_keepsLink s c b).trans after.keepsLink, (follow_grows s c b).trans after.grows, fun act h => ?_⟩
    exact refreshAvailability_settling (by rw [followed.station (by decide)]; exact act) (followed.settling h)

theorem raiseAvail_parts (s : State) (c : AlertCode) : (s.raiseAvail c).gear = s.gear ∧
    PowerKept s (s.raiseAvail c) ∧ KeepsLink s (s.raiseAvail c) ∧ Grows 0 s (s.raiseAvail c) ∧
    (s.station.acting = true → s.Settling → (s.raiseAvail c).Settling) := by
  have raised : OnlyTouches commsParts s (s.raise c) := raise_touches s c
  have after := refreshAvailability_touches (s.raise c)
  refine ⟨(refreshAvailability_gear _).trans (raised.gear (by decide)), raised.powerKept.trans (refreshAvailability_powerKept _),
    (raise_keepsLink s c).trans after.keepsLink, (raise_grows s c).trans after.grows, fun act h => ?_⟩
  exact refreshAvailability_settling (by rw [raised.station (by decide)]; exact act) (raised.settling h)

theorem superviseGovernor_up {s : State} (prop : s.isProp = true) (act : s.station.acting = true) :
    GovernorUp s s.superviseGovernor := by
  let t : State := { s with gov := { s.gov with
    watch := s.watchStart, settle := if s.line 2 then startTimer s.clock (sec 5) else none } }
  let u := t.judgeShaft
  let test := u.isProp && u.station.acting && u.overLimit && !u.has .overspeed
  have begun : OnlyTouches [.gov] s t := gov_touches s _
  have shaft : u = t.followAvail .shaftSignal (t.gov.noPulse || (t.caps.get 0).noise) := judgeShaft_eq (s := t) prop act
  have judged : OnlyTouches driveComms t u := judgeShaft_touches t
  have station : u.station.acting = true := by rw [judged.station (by decide)]; exact act
  obtain ⟨gear, power, link, grows, settling⟩ := followAvail_parts t .shaftSignal (t.gov.noPulse || (t.caps.get 0).noise)
  rw [← shaft] at gear power link grows settling
  obtain ⟨gear', power', link', grows', settling'⟩ := raiseAvail_parts u .overspeed
  have ended : s.superviseGovernor = u.whenever test (fun s => s.raiseAvail .overspeed) := rfl
  have tells : Tells [.overspeed] u s.superviseGovernor := fun c n nt =>
    judgeOverspeed_has_ne u (fun e => n (e ▸ List.mem_singleton_self _)) nt
  have before : Tells [.shaftSignal] t u := fun c n nt => judgeShaft_has_ne t (fun e => n (e ▸ List.mem_singleton_self _)) nt
  have over' : u.overLimit = s.overLimit := by
    unfold State.overLimit State.param
    rw [power.pulse.rpm, judged.start (by decide)]
  have last : (s.superviseGovernor).gear = u.gear ∧ PowerKept u s.superviseGovernor ∧ KeepsLink u s.superviseGovernor ∧
      Grows 0 u s.superviseGovernor ∧ s.superviseGovernor.Settling := by
    rw [ended]
    unfold State.whenever
    split
    · exact ⟨gear', power', link', grows', settling' station (settling act rfl)⟩
    · exact ⟨rfl, .refl u, .refl u, .refl u, settling act rfl⟩
  obtain ⟨lastGear, lastPower, lastLink, lastGrows, settled⟩ := last
  have all := power.trans lastPower
  refine ⟨superviseGovernor_touches s, lastGear.trans gear, all.economy, all.pulse.rpm, settled,
    begun.tells.trans (before.mono.trans tells.mono), ?_, ?_, begun.keepsLink.trans (link.trans lastLink), begun.grows.trans (grows.trans lastGrows)⟩
  · exact (tells .shaftSignal (by decide) nofun).trans (judgeShaft_has (s := t) prop act)
  · have has : u.has .overspeed = s.has .overspeed := before .overspeed (by decide) nofun
    cases fast : s.overLimit with
    | true =>
      rw [Bool.or_true]
      exact (judgeOverspeed_over (s := u) ((isProp_eq (judged.role (by decide))).trans prop) station (over'.trans fast)).1
    | false =>
      have off : test = false := by
        show (u.isProp && u.station.acting && u.overLimit && !u.has .overspeed) = false
        rw [over', fast, Bool.and_false, Bool.false_and]
      rw [ended, whenever_neg off, has, Bool.or_false]

end Sys2Proof.Machine
end

section
/-! SUPPORT. The entry to ACTIVE from JOINING: the steering and the meter, and a PROPULSION station's units together
(O7). -/

namespace Sys2Proof.Machine

-- As in Laws/Touches.lean: one theorem at a time.
set_option Elab.async false

/-! ## The steering (R86, R88, R92) -/

/-- What the steering's supervision leaves. -/
structure SteeringUp (s t : State) : Prop where
  touches : OnlyTouches steerComms s t
  supervised : t.steer.supervised = true
  tells : Tells [.rudderInterlock, .rudderFeedback] s t
  interlock : t.has .rudderInterlock = (s.has .rudderInterlock || s.line 5 && s.line 6)
  feedback : s.steer.feedback = false → t.has .rudderFeedback = (s.has .rudderFeedback || s.a0Faulted)
  link : KeepsLink s t
  grows : Grows 0 s t

theorem inhibitDrive_steer (s : State) : s.inhibitDrive.steer.supervised = s.steer.supervised ∧
    s.inhibitDrive.steer.feedback = s.steer.feedback := by
  unfold State.inhibitDrive
  split <;> exact ⟨rfl, rfl⟩

/-- An interlock at the entry. -/
theorem valveInterlock_parts (s : State) : s.valveInterlock.steer.supervised = s.steer.supervised ∧
    s.valveInterlock.steer.feedback = s.steer.feedback ∧ Tells [.rudderInterlock] s s.valveInterlock ∧
    s.valveInterlock.has .rudderInterlock = true ∧ KeepsLink s s.valveInterlock ∧ Grows 0 s s.valveInterlock := by
  let a := s.raise .rudderInterlock
  let b : State := { a with steer := { a.steer with interlock := true } }
  have raised : OnlyTouches commsParts s a := raise_touches s _
  have set : OnlyTouches [.steer] a b := steer_touches a _
  have inhibited : OnlyTouches [.outputs, .steer] b b.inhibitDrive := inhibitDrive_touches b
  have after : OnlyTouches [.outputs, .steer] a b.inhibitDrive := set.mono.trans inhibited
  obtain ⟨supervised, feedback⟩ := inhibitDrive_steer b
  have unit : a.steer = s.steer := raised.steer (by decide)
  refine ⟨supervised.trans (congrArg (·.supervised) unit), feedback.trans (congrArg (·.feedback) unit),
    (raise_tells s _).trans after.tells, (after.has (by decide) _).trans (raise_has_self s _),
    (raise_keepsLink s _).trans after.keepsLink, (raise_grows s _).trans after.grows⟩

/-- A first fault of the rudder feedback at the entry. -/
theorem feedbackFault_parts {s : State} : s.feedbackFault.steer.supervised = s.steer.supervised ∧
    Tells [.rudderFeedback] s s.feedbackFault ∧ (s.steer.feedback = false → s.feedbackFault.has .rudderFeedback = true) ∧
    KeepsLink s s.feedbackFault ∧ Grows 0 s s.feedbackFault := by
  unfold State.feedbackFault
  split
  next on => exact ⟨rfl, .refl s, fun off => absurd (on.symm.trans off) nofun, .refl s, .refl s⟩
  · let a := s.raiseNew .rudderFeedback
    let b : State := { a with steer := { a.steer with feedback := true, deviation := none } }
    have raised : OnlyTouches commsParts s a := raiseNew_touches s _
    have set : OnlyTouches [.steer] a b := steer_touches a _
    have after : OnlyTouches [.outputs, .steer] a b.inhibitDrive := set.mono.trans (inhibitDrive_touches b)
    have unit : a.steer = s.steer := raised.steer (by decide)
    exact ⟨(inhibitDrive_steer b).1.trans (congrArg (·.supervised) unit), (raiseNew_tells s _).trans after.tells,
      fun _ => (after.has (by decide) _).trans (raiseNew_has_self s _), (raiseNew_keepsLink s _).trans after.keepsLink,
      (raiseNew_grows s _).trans after.grows⟩

theorem superviseSteering_up (s : State) : SteeringUp s s.superviseSteering := by
  let t : State := { s with steer := { s.steer with
    supervised := true, drive := .stopped, followTimer := none, deviation := none } }
  let u := if t.line 5 && t.line 6 then t.valveInterlock else t
  have begun : OnlyTouches [.steer] s t := steer_touches s _
  have first : u.steer.supervised = true ∧ u.steer.feedback = s.steer.feedback ∧ Tells [.rudderInterlock] t u ∧
      u.has .rudderInterlock = (s.has .rudderInterlock || s.line 5 && s.line 6) ∧ KeepsLink t u ∧ Grows 0 t u ∧
      OnlyTouches steerComms t u := by
    obtain ⟨supervised, feedback, tells, has, link, grows⟩ := valveInterlock_parts t
    cases both : s.line 5 && s.line 6 with
    | true =>
      have eq : u = t.valveInterlock := if_pos both
      rw [eq, Bool.or_true]
      exact ⟨supervised, feedback, tells, has, link, grows, valveInterlock_touches t⟩
    | false =>
      have eq : u = t := if_neg (Bool.eq_false_iff.mp both)
      rw [eq, Bool.or_false]
      exact ⟨rfl, rfl, .refl t, rfl, .refl t, .refl t, .refl _ t⟩
  obtain ⟨supervised, feedback, tells, interlock, link, grows, touches⟩ := first
  have faulted : u.a0Faulted = s.a0Faulted := by
    unfold State.a0Faulted
    rw [touches.conv (by decide)]
  have before : Tells [.rudderInterlock] s u := begun.tells.trans tells
  show SteeringUp s (if u.a0Faulted then u.feedbackFault else u)
  rw [faulted]
  cases fault : s.a0Faulted with
  | true =>
    obtain ⟨supervised', tells', has, link', grows'⟩ := feedbackFault_parts (s := u)
    exact ⟨begun.mono.trans (touches.trans (feedbackFault_touches u)), supervised'.trans supervised, before.mono.trans tells'.mono,
      (tells' .rudderInterlock (by decide) nofun).trans interlock,
      fun off => (has (feedback.trans off)).trans (by rw [fault, Bool.or_true]),
      begun.keepsLink.trans (link.trans link'), begun.grows.trans (grows.trans grows')⟩
  | false =>
    exact ⟨begun.mono.trans touches, supervised, before.mono, interlock,
      fun _ => (before .rudderFeedback (by decide) nofun).trans (by rw [fault, Bool.or_false]),
      begun.keepsLink.trans link, begun.grows.trans grows⟩

/-! ## The meter (R112, R115) -/

/-- What the meter's supervision leaves. -/
structure FuelUp (s t : State) : Prop where
  touches : OnlyTouches (.meter :: commsParts) s t
  tells : Tells [.returnExceeds, .flowSignal] s t
  exceeds : t.has .returnExceeds = (s.has .returnExceeds || s.meter.returnMark)
  flow : t.has .flowSignal = (s.meter.noSupply || (s.caps.get 1).noise || (s.caps.get 2).noise)
  watch : t.meter.flowWatch = if s.param Param.idleSpeed < s.gov.rpm then startTimer s.clock (sec 30) else none
  link : KeepsLink s t
  grows : Grows 0 s t

theorem superviseFuel_up {s : State} (prop : s.isProp = true) (act : s.station.acting = true) : FuelUp s s.superviseFuel := by
  let t := s.whenever s.meter.returnMark (fun s => s.raiseNew .returnExceeds)
  let u : State := { t with meter := { t.meter with flowWatch := t.flowStart } }
  have raised : OnlyTouches commsParts s t := whenever_raiseNew_touches s _ _
  have told : Tells [.returnExceeds] s t := whenever_raiseNew_tells s _ _
  have has : t.has .returnExceeds = (s.has .returnExceeds || s.meter.returnMark) := whenever_raiseNew_has s _ _
  have set : OnlyTouches [.meter] t u := meter_touches t _
  have test : (u.isProp && u.station.acting) = true := by
    rw [isProp_eq (s := s) (t := u) ((set.role (by decide)).trans (raised.role (by decide))), prop,
      set.station (by decide), raised.station (by decide), act]
    rfl
  have judged : s.superviseFuel = u.follow .flowSignal (u.meter.noSupply || (u.caps.get 1).noise || (u.caps.get 2).noise) :=
    whenever_pos (s := u) (f := fun s => s.follow .flowSignal (s.meter.noSupply || (s.caps.get 1).noise || (s.caps.get 2).noise)) test
  have after : OnlyTouches commsParts u s.superviseFuel := by
    rw [judged]
    exact follow_touches u _ _
  have tells : Tells [.flowSignal] u s.superviseFuel := by
    rw [judged]
    exact follow_tells u _ _
  refine ⟨superviseFuel_touches s, told.mono.trans (set.tells.trans tells.mono), ?_, ?_, ?_, ?_, ?_⟩
  · exact (tells .returnExceeds (by decide) nofun).trans has
  · have flow : s.superviseFuel.has .flowSignal = (t.meter.noSupply || (t.caps.get 1).noise || (t.caps.get 2).noise) := by
      rw [judged]
      exact follow_has_self u (c := .flowSignal) _ nofun
    rw [flow, raised.meter (by decide), raised.caps (by decide)]
  · rw [after.meter (by decide)]
    show t.flowStart = _
    unfold State.flowStart State.param
    rw [raised.station (by decide), act, raised.start (by decide), raised.gov (by decide), raised.clock (by decide), Bool.true_and]
    simp only [decide_eq_true_eq]
  · rw [judged]
    exact (whenever_raiseNew_keepsLink s _ _).trans (set.keepsLink.trans (follow_keepsLink u _ _))
  · rw [judged]
    exact (whenever_raiseNew_grows s _ _).trans (set.grows.trans (follow_grows u _ _))

/-! ## A PROPULSION station's units -/

/-- The codes that the units of a PROPULSION station judge at the entry. -/
abbrev propEntryCodes : List AlertCode :=
  [.engineNotReady, .gearInterlock, .shaftSignal, .overspeed, .rudderInterlock, .rudderFeedback, .returnExceeds, .flowSignal]

/-- What a PROPULSION station's units leave at the entry. -/
structure PropEntered (s t : State) : Prop where
  touches : OnlyTouches propEntryParts s t
  tells : Tells propEntryCodes s t
  gear : t.gear.supervised = true
  state : t.gear.state = if s.line 0 && s.line 1 then .gearFault else if s.line 0 || s.line 1 then .disengaging else .neutral
  steer : t.steer.supervised = true
  engine : t.has .engineNotReady = (s.has .engineNotReady || !s.line 2)
  gearLock : t.has .gearInterlock = (s.has .gearInterlock || s.line 0 && s.line 1)
  shaft : t.has .shaftSignal = (s.gov.noPulse || (s.caps.get 0).noise)
  speed : t.has .overspeed = (s.has .overspeed || s.overLimit)
  valves : t.has .rudderInterlock = (s.has .rudderInterlock || s.line 5 && s.line 6)
  feedback : s.steer.feedback = false → t.has .rudderFeedback = (s.has .rudderFeedback || s.a0Faulted)
  exceeds : t.has .returnExceeds = (s.has .returnExceeds || s.meter.returnMark)
  flow : t.has .flowSignal = (s.meter.noSupply || (s.caps.get 1).noise || (s.caps.get 2).noise)
  economy : t.thrust.economy = startTimer s.clock (sec 1)
  settling : t.gov.settle = if s.line 2 then startTimer s.clock (sec 5) else none
  watch : t.meter.flowWatch = if s.param Param.idleSpeed < s.gov.rpm then startTimer s.clock (sec 30) else none
  link : KeepsLink s t
  grows : Grows 0 s t

theorem judgeEngine_has (s : State) (prop : s.isProp = true) :
    s.judgeEngine.has .engineNotReady = (s.has .engineNotReady || !s.line 2) := by
  rw [judgeEngine_eq, prop, Bool.true_and]
  cases s.line 2 with
  | true => exact (Bool.or_false _).symm
  | false => exact (raiseNew_has_self s _).trans (Bool.or_true _).symm

theorem judgeEngine_keepsLink (s : State) : KeepsLink s s.judgeEngine := by
  rw [judgeEngine_eq]
  exact .ite (raiseNew_keepsLink s _) (.refl s)

theorem entryProp_entered {s : State} (prop : s.isProp = true) (act : s.station.acting = true) : PropEntered s s.entryProp := by
  let a := s.judgeEngine
  let b := a.startPropSeries
  let c := b.superviseGear
  let d := c.superviseGovernor
  let e := d.superviseSteering
  let t := e.superviseFuel
  have sa : OnlyTouches commsParts s a := judgeEngine_touches s
  have ab : OnlyTouches [.thrust, .meter] a b := startPropSeries_touches a
  have sb : OnlyTouches [.present, .alerts, .link, .thrust, .meter] s b := sa.mono.trans ab.mono
  have bc : GearUp b c := superviseGear_up b
  have sc : OnlyTouches [.present, .alerts, .link, .thrust, .meter, .gear, .gov, .outputs] s c := sb.mono.trans bc.touches.mono
  have cd : GovernorUp c d := superviseGovernor_up ((isProp_eq (sc.role (by decide))).trans prop) (by rw [sc.station (by decide)]; exact act)
  have sd : OnlyTouches [.present, .alerts, .link, .thrust, .meter, .gear, .gov, .outputs] s d := sc.trans cd.touches.mono
  have de : SteeringUp d e := superviseSteering_up d
  have se : OnlyTouches propEntryParts s e := sd.mono.trans de.touches.mono
  have et : FuelUp e t := superviseFuel_up ((isProp_eq (se.role (by decide))).trans prop) (by rw [se.station (by decide)]; exact act)
  have saT : Tells [.engineNotReady] s a := judgeEngine_tells s
  have sbT : Tells [.engineNotReady] s b := saT.trans ab.tells
  have scT : Tells [.engineNotReady, .gearInterlock] s c := sbT.mono.trans bc.tells.mono
  have sdT : Tells [.engineNotReady, .gearInterlock, .shaftSignal, .overspeed] s d := scT.mono.trans cd.tells.mono
  have seT : Tells [.engineNotReady, .gearInterlock, .shaftSignal, .overspeed, .rudderInterlock, .rudderFeedback] s e :=
    sdT.mono.trans de.tells.mono
  have dt : Tells [.rudderInterlock, .rudderFeedback, .returnExceeds, .flowSignal] d t := de.tells.mono.trans et.tells.mono
  have ct : Tells [.shaftSignal, .overspeed, .rudderInterlock, .rudderFeedback, .returnExceeds, .flowSignal] c t :=
    cd.tells.mono.trans dt.mono
  have bt : Tells [.gearInterlock, .shaftSignal, .overspeed, .rudderInterlock, .rudderFeedback, .returnExceeds, .flowSignal] b t :=
    bc.tells.mono.trans ct.mono
  have line : ∀ i, b.line i = s.line i := fun i => by
    unfold State.line
    rw [sb.lines (by decide)]
  have rpm : e.gov.rpm = s.gov.rpm := by
    rw [de.touches.gov (by decide), cd.rpm, bc.power.pulse.rpm, sb.gov (by decide)]
  have lineD : ∀ i, d.line i = s.line i := fun i => by
    unfold State.line
    rw [sd.lines (by decide)]
  have meter : e.meter = b.meter := by
    rw [de.touches.meter (by decide), cd.touches.meter (by decide), bc.touches.meter (by decide)]
  show PropEntered s t
  refine ⟨se.trans et.touches.mono, seT.mono.trans et.tells.mono, ?_, ?_, ?_, ?_, ?_, ?_, ?_, ?_, fun off => ?_, ?_, ?_, ?_, ?_, ?_, ?_, ?_⟩
  · rw [et.touches.gear (by decide), de.touches.gear (by decide), cd.gear]
    exact bc.supervised
  · rw [et.touches.gear (by decide), de.touches.gear (by decide), cd.gear, bc.state, line, line]
  · rw [et.touches.steer (by decide)]
    exact de.supervised
  · exact (bt .engineNotReady (by decide) nofun).trans ((ab.has (by decide) _).trans (judgeEngine_has s prop))
  · rw [ct .gearInterlock (by decide) nofun, bc.interlock, sbT .gearInterlock (by decide) nofun, line, line]
  · rw [dt .shaftSignal (by decide) nofun, cd.shaft, bc.power.pulse.noPulse, sb.gov (by decide), sc.caps (by decide)]
  · have limit : c.overLimit = s.overLimit := by
      unfold State.overLimit State.param
      rw [bc.power.pulse.rpm, sb.gov (by decide), sc.start (by decide)]
    rw [dt .overspeed (by decide) nofun, cd.speed, scT .overspeed (by decide) nofun, limit]
  · rw [et.tells .rudderInterlock (by decide) nofun, de.interlock, sdT .rudderInterlock (by decide) nofun, lineD, lineD]
  · have faulted : d.a0Faulted = s.a0Faulted := by
      unfold State.a0Faulted
      rw [sd.conv (by decide)]
    rw [et.tells .rudderFeedback (by decide) nofun, de.feedback (by rw [sd.steer (by decide)]; exact off),
      sdT .rudderFeedback (by decide) nofun, faulted]
  · have mark : b.meter.returnMark = s.meter.returnMark := congrArg (·.returnMark) (sa.meter (by decide))
    rw [et.exceeds, seT .returnExceeds (by decide) nofun, meter, mark]
  · have supply : b.meter.noSupply = s.meter.noSupply := congrArg (·.noSupply) (sa.meter (by decide))
    rw [et.flow, meter, supply, se.caps (by decide)]
  · rw [et.touches.thrust (by decide), de.touches.thrust (by decide), cd.economy, bc.power.economy]
    show startTimer a.clock (sec 1) = _
    rw [sa.clock (by decide)]
  · have settling : d.gov.settle = if d.line 2 then startTimer d.clock (sec 5) else none := cd.settling
    rw [et.touches.gov (by decide), de.touches.gov (by decide), settling, lineD, sd.clock (by decide)]
  · have param : e.param Param.idleSpeed = s.param Param.idleSpeed := by
      unfold State.param
      rw [se.start (by decide)]
    rw [et.watch, param, rpm, se.clock (by decide)]
  · exact (judgeEngine_keepsLink s).trans (ab.keepsLink.trans (bc.link.trans (cd.link.trans (de.link.trans et.link))))
  · exact (Loaded.grows judgeEngine_loaded).trans (ab.grows.trans (bc.grows.trans (cd.grows.trans (de.grows.trans et.grows))))

end Sys2Proof.Machine
end

section
/-! SUPPORT. The entry to ACTIVE from JOINING: a COUPLING station's unit (O7). -/

namespace Sys2Proof.Machine

-- As in Laws/Touches.lean: one theorem at a time.
set_option Elab.async false

/-! ## The class and its onset -/

theorem clearClass_tells (s : State) (c : StrainClass) : Tells [.strainHigh, .overload] s (s.clearClass c) := by
  unfold State.clearClass
  cases c with
  | high => exact (clear_tells s .strainHigh).mono
  | overload => exact (clear_tells s .overload).mono
  | slack => exact .refl s
  | taut => exact .refl s
  | parted => exact .refl s

theorem raiseClass_tells (s : State) (c : StrainClass) : Tells [.strainHigh, .overload] s (s.raiseClass c) := by
  unfold State.raiseClass
  cases c with
  | high => exact (raiseNew_tells s .strainHigh).mono
  | overload => exact (raiseNew_tells s .overload).mono
  | slack => exact .refl s
  | taut => exact .refl s
  | parted => exact .refl s

theorem clearClass_keepsLink (s : State) (c : StrainClass) : KeepsLink s (s.clearClass c) := by
  unfold State.clearClass
  split
  · exact clear_keepsLink s _
  · exact .refl s

theorem raiseClass_keepsLink (s : State) (c : StrainClass) : KeepsLink s (s.raiseClass c) := by
  unfold State.raiseClass
  split
  · exact raiseNew_keepsLink s _
  · exact .refl s

theorem markOnset_keepsLink (s : State) : KeepsLink s s.markOnset := ⟨rfl, .inl rfl, rfl⟩

theorem markOnset_tells {cs : List AlertCode} (s : State) : Tells cs s s.markOnset := (markOnset_touches s).tells

/-- What the coupling's judgements touch while the station stays ACTIVE. -/
abbrev coupReports : List Part := [.present, .alerts, .link, .coup]

/-- The class conditions at the entry. -/
structure Classed (s t : State) : Prop where
  touches : OnlyTouches coupReports s t
  coup : t.coup = { s.coup with onset := if s.coup.cls = .overload then some s.clock else s.coup.onset }
  tells : Tells [.strainHigh, .overload] s t
  high : t.has .strainHigh = (s.has .strainHigh || s.coup.cls == .high)
  overload : t.has .overload = (s.has .overload || s.coup.cls == .overload)
  link : KeepsLink s t
  grows : Grows 1 s t

theorem superviseClass_classed (s : State) : Classed s s.superviseClass := by
  let t := s.raiseClass s.coup.cls
  obtain ⟨own, other⟩ := raiseClass_has s s.coup.cls
  have raised : OnlyTouches commsParts s t := raiseClass_touches s _
  have high : t.has .strainHigh = (s.has .strainHigh || s.coup.cls == .high) := by
    cases cls : s.coup.cls == .high with
    | true => rw [Bool.or_true]; exact own _ (by rw [beq_iff_eq.mp cls]; rfl)
    | false =>
      rw [Bool.or_false]
      exact other _ (fun e => by
        have ne := beq_eq_false_iff_ne.mp cls
        cases k : s.coup.cls <;> rw [k] at e ne <;> first | exact absurd rfl ne | cases e) nofun
  have overload : t.has .overload = (s.has .overload || s.coup.cls == .overload) := by
    cases cls : s.coup.cls == .overload with
    | true => rw [Bool.or_true]; exact own _ (by rw [beq_iff_eq.mp cls]; rfl)
    | false =>
      rw [Bool.or_false]
      exact other _ (fun e => by
        have ne := beq_eq_false_iff_ne.mp cls
        cases k : s.coup.cls <;> rw [k] at e ne <;> first | exact absurd rfl ne | cases e) nofun
  have grows : Grows 0 s t := Loaded.grows (raiseClass_loaded _)
  show Classed s (if s.coup.cls = .overload then t.markOnset.offerStrain else t)
  split
  next loaded =>
    have marked : OnlyTouches [.coup, .link] t t.markOnset := markOnset_touches t
    have offered : OnlyTouches commsParts t.markOnset t.markOnset.offerStrain := offerStrain_touches _
    have after : Tells [] t t.markOnset.offerStrain := (markOnset_tells t).trans (offerStrain_tells _)
    refine ⟨raised.mono.trans (marked.mono.trans offered.mono), ?_, (raiseClass_tells s _).trans after.mono,
      (after .strainHigh (by decide) nofun).trans high, (after .overload (by decide) nofun).trans overload,
      (raiseClass_keepsLink s _).trans ((markOnset_keepsLink t).trans (offer_keepsLink _ _ _)),
      grows.trans ((Loaded.grows fun _ => markOnset_loaded t).trans (offer_grows _ _ _))⟩
    · rw [offered.coup (by decide), if_pos loaded]
      show { t.coup with onset := some t.clock } = _
      rw [raised.coup (by decide), raised.clock (by decide)]
  next other =>
    refine ⟨raised.mono, ?_, raiseClass_tells s _, high, overload, raiseClass_keepsLink s _, grows.mono⟩
    rw [raised.coup (by decide), if_neg other]

/-! ## The wire broken at the entry (R100) -/

/-- What a PARTED onset in ACTIVE leaves besides the coupling's own. -/
structure PartedActive (s t : State) : Prop where
  touches : OnlyTouches coupReports s t
  tells : Tells [.strainHigh, .overload, .parted] s t
  link : KeepsLink s t
  grows : Grows 1 s t

theorem partedMarked_keepsLink (s : State) : KeepsLink s s.partedMarked := by
  let t := if s.coup.cls = .parted then s else s.clearClass s.coup.cls
  let u : State := { t with coup := { t.coup with cls := .parted, partedLatch := true } }
  have cleared : KeepsLink s t := .ite (.refl s) (clearClass_keepsLink s _)
  have set : KeepsLink t u := .refl t
  exact cleared.trans (set.trans ((raise_keepsLink u .parted).trans (markOnset_keepsLink _)))

theorem partedMarked_tells (s : State) : Tells [.strainHigh, .overload, .parted] s s.partedMarked := by
  let t := if s.coup.cls = .parted then s else s.clearClass s.coup.cls
  let u : State := { t with coup := { t.coup with cls := .parted, partedLatch := true } }
  have cleared : Tells [.strainHigh, .overload] s t := .ite (.refl s) (clearClass_tells s _)
  have set : Tells [.parted] t u := .still
  exact cleared.mono.trans ((set.trans ((raise_tells u .parted).trans (markOnset_tells _))).mono)

theorem partedOnset_active {s : State} (act : s.station = .active) : PartedActive s s.partedOnset := by
  let m := s.partedMarked
  have touches : OnlyTouches [.present, .alerts, .link, .coup] s m := partedMarked_touches s
  have station : m.station = .active := (touches.station (by decide)).trans act
  have high : aboveTaut m.coup.cls = true := by rw [show m.coup = _ from partedMarked_coup s]; rfl
  have judged : OnlyTouches [.coup] m.offerStrain m.offerStrain.judgeWinch := judgeWinch_touches _
  rw [partedOnset_eq, reportClass_active station (.inr high)]
  exact ⟨touches.trans ((offerStrain_touches m).mono.trans judged.mono), (partedMarked_tells s).trans ((offerStrain_tells m).trans judged.tells),
    (partedMarked_keepsLink s).trans ((offer_keepsLink m _ _).trans judged.keepsLink),
    (Loaded.grows partedMarked_loaded).trans ((offer_grows m _ _).trans judged.grows)⟩

/-! ## The winch by its causes (R110, R111) -/

theorem winchCauses_locks (s : State) : s.winchCauses.coup.winch = .lockedOut ↔ s.line 1 = true ∨ s.has .winchRun = true := by
  unfold State.winchCauses
  split
  next causes => exact ⟨fun _ => by simpa using causes, fun _ => rfl⟩
  next free =>
    have idle : (State.judgeWinch { s with coup := s.coup.rest .idle }).coup.winch = .idle :=
      (judgeWinch_winch { s with coup := s.coup.rest .idle }).elim id id
    rw [idle]
    exact ⟨nofun, fun causes => absurd (by simpa using causes) free⟩

/-- What a COUPLING station's unit leaves at the entry. -/
structure CoupEntered (s t : State) : Prop where
  touches : OnlyTouches coupReports s t
  supervised : t.coup.supervised = true
  tells : Tells [.tensionSignal, .strainHigh, .overload, .parted] s t
  broken : s.line 0 = true → t.coup.cls = .parted ∧ t.has .parted = true
  sound : s.line 0 = false → t.coup.cls = s.coup.cls ∧ t.has .parted = s.has .parted ∧
    t.has .strainHigh = (s.has .strainHigh || s.coup.cls == .high) ∧ t.has .overload = (s.has .overload || s.coup.cls == .overload)
  onset : t.coup.onset = if s.line 0 = true ∨ s.coup.cls = .overload then some s.clock else s.coup.onset
  signal : t.has .tensionSignal = (s.has .tensionSignal || s.a0Faulted)
  winch : t.coup.winch = .lockedOut ↔ s.line 1 = true ∨ s.has .winchRun = true
  link : KeepsLink s t
  grows : Grows 2 s t

theorem superviseCoupling_entered {s : State} (act : s.station = .active) : CoupEntered s s.superviseCoupling := by
  let t : State := { s with coup := { s.coup with
    supervised := true, interval := startTimer s.clock (ms (s.param Param.strainInterval)) } }
  let u := if t.a0Faulted then t.raiseNew .tensionSignal else t
  let v := u.superviseClass
  let w := if v.line 0 then v.partedOnset else v
  have begun : OnlyTouches [.coup] s t := coup_touches s _
  have judged : u = t.whenever s.a0Faulted (fun s => s.raiseNew .tensionSignal) := rfl
  have tu : OnlyTouches commsParts t u := by rw [judged]; exact whenever_raiseNew_touches t _ _
  have tuT : Tells [.tensionSignal] t u := by rw [judged]; exact whenever_raiseNew_tells t _ _
  have signal : u.has .tensionSignal = (s.has .tensionSignal || s.a0Faulted) := by rw [judged]; exact whenever_raiseNew_has t _ _
  have suLink : KeepsLink s u := begun.keepsLink.trans (by rw [judged]; exact whenever_raiseNew_keepsLink t _ _)
  have tuGrows : Grows 0 t u := by rw [judged]; exact whenever_raiseNew_grows t _ _
  have suGrows : Grows 0 s u := begun.grows.trans tuGrows
  have su : OnlyTouches coupReports s u := begun.mono.trans tu.mono
  have suT : Tells [.tensionSignal] s u := begun.tells.trans tuT
  have unit : u.coup = t.coup := tu.coup (by decide)
  have uv : Classed u v := superviseClass_classed u
  have sv : OnlyTouches coupReports s v := su.trans uv.touches
  have station : v.station = .active := (sv.station (by decide)).trans act
  have vcoup : v.coup = { t.coup with onset := if s.coup.cls = .overload then some s.clock else s.coup.onset } := by
    rw [uv.coup, unit, tu.clock (by decide)]
  have line : v.line 0 = s.line 0 := by
    unfold State.line
    rw [sv.lines (by decide)]
  have svT : Tells [.tensionSignal, .strainHigh, .overload] s v := suT.mono.trans uv.tells.mono
  have caused : OnlyTouches [.coup] w w.winchCauses := winchCauses_touches w
  have only := winchCauses_only w
  have high : v.has .strainHigh = (s.has .strainHigh || s.coup.cls == .high) := by
    rw [uv.high, unit, suT .strainHigh (by decide) nofun]
  have overload : v.has .overload = (s.has .overload || s.coup.cls == .overload) := by
    rw [uv.overload, unit, suT .overload (by decide) nofun]
  show CoupEntered s w.winchCauses
  cases broken : s.line 0 with
  | true =>
    have eq : w = v.partedOnset := if_pos (line.trans broken)
    have parts := partedOnset_parts v
    have active := partedOnset_active (s := v) station
    have vw : OnlyTouches coupReports v w := by rw [eq]; exact active.touches
    have vwT : Tells [.strainHigh, .overload, .parted] v w := by rw [eq]; exact active.tells
    have swT : Tells [.tensionSignal, .strainHigh, .overload, .parted] s w := svT.mono.trans vwT.mono
    have sw : OnlyTouches coupReports s w := sv.trans vw
    refine ⟨sw.trans caused.mono, ?_, swT.trans caused.tells, fun _ => ⟨?_, ?_⟩, fun off => absurd (broken.symm.trans off) nofun,
      ?_, ?_, ?_, ?_, ?_⟩
    · rw [only, eq, parts.coup, vcoup]
    · rw [only, eq, parts.coup]
    · rw [caused.has (by decide), eq]
      exact parts.parted
    · rw [only, eq, parts.coup, if_pos (.inl broken), sv.clock (by decide)]
    · rw [caused.has (by decide), vwT .tensionSignal (by decide) nofun, uv.tells .tensionSignal (by decide) nofun, signal]
    · rw [winchCauses_locks, swT .winchRun (by decide) nofun]
      unfold State.line
      rw [sw.lines (by decide)]
    · rw [eq] at caused ⊢
      exact suLink.trans (uv.link.trans (active.link.trans caused.keepsLink))
    · rw [eq] at caused ⊢
      exact suGrows.trans (uv.grows.trans (active.grows.trans caused.grows))
  | false =>
    have eq : w = v := if_neg (Bool.eq_false_iff.mp (line.trans broken))
    rw [eq] at caused only ⊢
    refine ⟨sv.trans caused.mono, ?_, svT.mono.trans caused.tells,
      fun on => absurd (broken.symm.trans on) nofun, fun _ => ⟨?_, ?_, ?_, ?_⟩, ?_, ?_, ?_, ?_, ?_⟩
    · rw [only, vcoup]
    · rw [only, vcoup]
    · rw [caused.has (by decide)]
      exact svT .parted (by decide) nofun
    · rw [caused.has (by decide), high]
    · rw [caused.has (by decide), overload]
    · rw [only, vcoup, broken]
      simp
    · rw [caused.has (by decide), uv.tells .tensionSignal (by decide) nofun, signal]
    · rw [winchCauses_locks, svT .winchRun (by decide) nofun]
      unfold State.line
      rw [sv.lines (by decide)]
    · exact suLink.trans (uv.link.trans caused.keepsLink)
    · exact (suGrows.trans (uv.grows.trans caused.grows)).mono

end Sys2Proof.Machine
end

section
/-! SUPPORT. The join time's expiry (O7). -/

namespace Sys2Proof.Machine

-- As in Laws/Touches.lean: one theorem at a time.
set_option Elab.async false

/-- The codes that the units of some role judge at the entry. -/
abbrev unitEntryCodes : List AlertCode :=
  [.leverSignal, .fuelDiscontinuity, .viewFull] ++ holdingCodes ++ propEntryCodes ++ [.tensionSignal, .strainHigh, .overload, .parted]

/-- What the units of some role touch at the entry. -/
abbrev unitParts : List Part :=
  [.present, .alerts, .link, .thrust, .gear, .gov, .outputs, .steer, .meter, .helm, .demand, .view, .account, .coup]

/-- What the units of any role leave at the entry. -/
structure UnitsEntered (u t : State) : Prop where
  touches : OnlyTouches unitParts u t
  tells : Tells unitEntryCodes u t
  lost : u.isHelm = false → t.has .demandLost = u.has .demandLost
  link : KeepsLink u t
  grows : Grows 3 u t

theorem entryUnits_helm {u : State} (helm : u.isHelm = true) : u.entryUnits = u.entryHelm := by
  unfold State.entryUnits
  rw [(isHelm_iff u).mp helm]

theorem entryUnits_prop {u : State} (prop : u.isProp = true) : u.entryUnits = u.entryProp := by
  unfold State.entryUnits
  rw [(isProp_iff u).mp prop]

theorem entryUnits_coup {u : State} (coup : u.isCoup = true) : u.entryUnits = u.superviseCoupling := by
  unfold State.entryUnits
  rw [(isCoup_iff u).mp coup]

theorem entryUnits_entered {u : State} (act : u.station = .active) : UnitsEntered u u.entryUnits := by
  cases role : u.role with
  | none =>
    have eq : u.entryUnits = u := by
      unfold State.entryUnits
      rw [role]
    rw [eq]
    exact ⟨.refl _ u, .refl u, fun _ => rfl, .refl u, (Grows.refl u).mono⟩
  | some r =>
    cases r with
    | helm =>
      have helm := (isHelm_iff u).mpr role
      have entered := entryHelm_entered helm act
      rw [entryUnits_helm helm]
      exact ⟨entered.touches.mono, entered.tells.mono,
        fun n => absurd (helm.symm.trans n) nofun, entered.link, entered.grows⟩
    | propulsion =>
      have prop := (isProp_iff u).mpr role
      have entered := entryProp_entered prop (by rw [act]; rfl)
      rw [entryUnits_prop prop]
      exact ⟨entered.touches.mono, entered.tells.mono,
        fun _ => entered.tells .demandLost (by decide) nofun, entered.link, entered.grows.mono⟩
    | coupling =>
      have coup := (isCoup_iff u).mpr role
      have entered := superviseCoupling_entered act
      rw [entryUnits_coup coup]
      exact ⟨entered.touches.mono, entered.tells.mono, fun _ => entered.tells .demandLost (by decide) nofun,
        entered.link, entered.grows.mono⟩

/-- A condition raised by a test, as an equivalence. -/
theorem raisedBy_iff {a b c : Bool} {p : Prop} (h : a = (b || c)) (test : c = true ↔ p) : a = true ↔ b = true ∨ p := by
  rw [h, Bool.or_eq_true, test]

theorem load_of_empty {s : State} (h : s.comms.link.queue = []) : s.load = 1 := by
  unfold State.load State.waits
  rw [h]
  rfl

theorem notCoup_of_helm {s : State} (helm : s.isHelm = true) : s.isCoup = false := by
  rw [Bool.eq_false_iff, Ne, isCoup_iff, (isHelm_iff s).mp helm]
  nofun

theorem notCoup_of_prop {s : State} (prop : s.isProp = true) : s.isCoup = false := by
  rw [Bool.eq_false_iff, Ne, isCoup_iff, (isProp_iff s).mp prop]
  nofun

/-- Settles O7: the entry's judgements one after another, each of which leaves the conditions of the others. -/
theorem joinTimeEntersActive : Obligations.JoinTimeEntersActive := by
  unfold Obligations.JoinTimeEntersActive
  intro s dt joining over' recent lost
  let x := s.advance dt
  let u := x.entered
  let v := u.entryUnits
  let w := v.entryCommon
  let t := w.entryAlert.judgeCoupStandby
  have exec : exec (.joinTimeExpiry dt) s = .next t :=
    exec_eq (f := State.enterActive) rfl (by
      show (s.station == .joining && due s.start.joinTimer (s.later dt)) = true
      rw [joining, over']; rfl) (enterActive_eq x)
  have xu : Entered x u := entered_entered x
  have uv : UnitsEntered u v := entryUnits_entered xu.station
  have vw : Commons v w := entryCommon_commons v
  have wStation : w.station = .active := (vw.touches.station (by decide)).trans ((uv.touches.station (by decide)).trans xu.station)
  have wt : Closes w t := closes wStation
  have su : OnlyTouches [.clock, .station, .start, .present, .alerts, .link] s u := (advance_touches s dt).mono.trans xu.touches.mono
  have vt : OnlyTouches coupComms v t := vw.touches.mono.trans wt.touches
  have tells : Tells [.rxError, .converterOverrun] v t := vw.tells.trans wt.tells.mono
  have clockU : u.clock = s.later dt := xu.touches.clock (by decide)
  have clock : t.clock = s.later dt := (vt.clock (by decide)).trans ((uv.touches.clock (by decide)).trans clockU)
  have startV : v.start = u.start := uv.touches.start (by decide)
  have line : ∀ i, u.line i = s.line i := fun i => by
    unfold State.line
    rw [su.lines (by decide)]
  have param : ∀ q, u.param q = s.param q := fun q => by
    unfold State.param
    rw [xu.start]
    rfl
  have helmU : u.isHelm = s.isHelm := isHelm_eq (su.role (by decide))
  have propU : u.isProp = s.isProp := isProp_eq (su.role (by decide))
  have coupU : u.isCoup = s.isCoup := isCoup_eq (su.role (by decide))
  have coupW : w.isCoup = s.isCoup :=
    (isCoup_eq ((vw.touches.role (by decide)).trans (uv.touches.role (by decide)))).trans coupU
  have lostU : u.has .demandLost = true ↔ lost := by
    rw [xu.lost, Bool.or_eq_true, Bool.or_eq_true, beq_iff_eq, beq_iff_eq]
    rfl
  have recentU (c : AlertCode) (moment : Option Clock) (limit : Micros) :
      (moment.isSome && !aged moment (s.later dt) limit) = true ↔ recent moment limit := recent_iff moment _ limit
  have station : t.station = if s.isCoup && s.start.request && !s.line 0 && !aboveTaut s.coup.cls then .standby else .active := by
    rw [wt.station, coupW, vw.touches.start (by decide), startV, xu.start, vw.touches.coup (by decide)]
    cases coup : s.isCoup with
    | false => rfl
    | true =>
      have entered := superviseCoupling_entered xu.station
      have eq : v = u.superviseCoupling := entryUnits_coup (coupU.trans coup)
      cases broken : s.line 0 with
      | true =>
        have cls : v.coup.cls = .parted := by
          rw [eq]
          exact (entered.broken ((line 0).trans broken)).1
        rw [cls]
        simp [aboveTaut]
      | false =>
        have cls : v.coup.cls = s.coup.cls := by
          rw [eq, (entered.sound ((line 0).trans broken)).1, su.coup (by decide)]
        rw [cls]
        simp [x, State.advance]
  refine ⟨t, exec, clock, station, ?_, ?_, ?_, ?_, ?_, fun helm => ?_, wt.afresh, fun empty some => ?_, fun helm => ?_, fun prop => ?_,
    fun coup => ?_⟩
  · rw [vt.start (by decide), startV, xu.start]
    rfl
  · rw [tells .addressConflict (by decide) nofun, uv.tells .addressConflict (by decide) nofun]
    exact raisedBy_iff xu.conflict Iff.rfl
  · rw [tells .peerSilent (by decide) nofun, uv.tells .peerSilent (by decide) nofun]
    exact raisedBy_iff xu.silent (by rw [Bool.and_eq_true, Bool.or_eq_true]; rfl)
  · rw [wt.tells .rxError (by decide) nofun]
    refine raisedBy_iff (vw.error.trans ?_) Iff.rfl
    rw [uv.tells .rxError (by decide) nofun, xu.tells .rxError (by decide) nofun, uv.link.errorMark, xu.link.errorMark]
    rfl
  · rw [wt.tells .converterOverrun (by decide) nofun]
    have conv : v.conv = s.conv := (uv.touches.conv (by decide)).trans (su.conv (by decide))
    refine raisedBy_iff (vw.overrun.trans ?_) (recentU .converterOverrun s.conv.lastOverrun (sec 10))
    rw [uv.tells .converterOverrun (by decide) nofun, xu.tells .converterOverrun (by decide) nofun, conv,
      uv.touches.clock (by decide), clockU]
    rfl
  · rw [tells .demandLost (by decide) nofun, uv.lost (helmU.trans helm)]
    exact lostU
  · have one : u.load ≤ 1 := by
      have load := load_of_empty (s := x) empty
      exact ((xu.grows (by omega)).1).trans (le_of_eq (by rw [load]))
    obtain ⟨load, -⟩ := uv.grows (by omega)
    obtain ⟨load', -⟩ := vw.grows (by omega)
    exact wt.waits (by omega) some
  · have entered := entryHelm_entered (helmU.trans helm) xu.station
    have eq : v = u.entryHelm := entryUnits_helm (helmU.trans helm)
    rw [← eq] at entered
    have other : w.isCoup = false := coupW.trans (notCoup_of_helm helm)
    have after : OnlyTouches commsParts v t := vw.touches.trans (wt.still other)
    have touches : OnlyTouches [.clock, .station, .start, .present, .alerts, .link, .demand, .helm, .account, .view] s t :=
      su.mono.trans (entered.touches.mono.trans after.mono)
    have demandU : u.demand = s.demand := su.demand (by decide)
    have helmKept : u.helm = s.helm := su.helm (by decide)
    have accountU : u.account = s.account := su.account (by decide)
    have addressU : u.address = s.address := su.address (by decide)
    have lostT : t.has .demandLost = v.has .demandLost := tells .demandLost (by decide) nofun
    have helmT : t.helm = v.helm := after.helm (by decide)
    have demandT : t.demand = v.demand := after.demand (by decide)
    have accountT : t.account = v.account := after.account (by decide)
    refine ⟨fun none one => ?_, fun own => ?_, fun n n' => ?_, ?_, ?_, ?_, ?_, ?_, ?_, touches⟩
    · rw [helmT, lostT, demandT]
      have taken := entered.takes (by rw [demandU]; exact none) ((param _).trans one)
      rw [addressU, demandU] at taken
      exact taken
    · rw [helmT, lostT, demandT]
      have held := entered.holds (by rw [demandU, addressU]; exact own)
      rw [demandU] at held
      exact held
    · obtain ⟨unit, demand, kept⟩ := entered.stands (by rw [demandU, addressU]; exact n) (by rw [demandU, param]; exact n')
      rw [helmT, lostT, demandT, unit, demand, kept, helmKept, demandU]
      exact ⟨rfl, rfl, lostU⟩
    · rw [tells .leverSignal (by decide) nofun]
      have lever := entered.lever
      rw [helmKept, xu.tells .leverSignal (by decide) nofun] at lever
      exact raisedBy_iff lever (by rw [Bool.or_eq_true])
    · rw [tells .tankLow (by decide) nofun, accountT]
      exact entered.tankLow
    · rw [accountT, entered.low, accountU]
    · rw [tells .fuelDiscontinuity (by decide) nofun]
      have disc := entered.disc
      rw [accountU, clockU, xu.tells .fuelDiscontinuity (by decide) nofun] at disc
      exact raisedBy_iff disc (recentU .fuelDiscontinuity _ (sec 60))
    · rw [tells .viewFull (by decide) nofun]
      have full := entered.full
      rw [su.view (by decide), xu.tells .viewFull (by decide) nofun] at full
      exact raisedBy_iff full decide_eq_true_iff
    · rw [accountT, entered.interval, clockU, param]
  · have entered := entryProp_entered (propU.trans prop) (by rw [xu.station]; rfl)
    have eq : v = u.entryProp := entryUnits_prop (propU.trans prop)
    rw [← eq] at entered
    have other : w.isCoup = false := coupW.trans (notCoup_of_prop prop)
    have after : OnlyTouches commsParts v t := vw.touches.trans (wt.still other)
    have touches : OnlyTouches [.clock, .station, .start, .present, .alerts, .link, .thrust, .gear, .gov, .steer, .meter, .outputs] s t :=
      su.mono.trans (entered.touches.mono.trans after.mono)
    have gov : u.gov = s.gov := su.gov (by decide)
    have caps : u.caps = s.caps := su.caps (by decide)
    have meter : u.meter = s.meter := su.meter (by decide)
    refine ⟨?_, ?_, ?_, ?_, ?_, ?_, ?_, ?_, fun off => ?_, ?_, ?_, ?_, ?_, ?_, touches⟩
    · rw [after.gear (by decide)]
      exact entered.gear
    · rw [after.steer (by decide)]
      exact entered.steer
    · rw [after.gear (by decide), entered.state, line, line]
    · rw [tells .engineNotReady (by decide) nofun]
      have engine := entered.engine
      rw [line, xu.tells .engineNotReady (by decide) nofun] at engine
      exact raisedBy_iff engine (by rw [Bool.not_eq_true'])
    · rw [tells .gearInterlock (by decide) nofun]
      have lock := entered.gearLock
      rw [line, line, xu.tells .gearInterlock (by decide) nofun] at lock
      exact raisedBy_iff lock Bool.and_eq_true_iff
    · rw [tells .shaftSignal (by decide) nofun, entered.shaft, gov, caps]
    · rw [tells .overspeed (by decide) nofun]
      have speed := entered.speed
      rw [xu.tells .overspeed (by decide) nofun] at speed
      refine raisedBy_iff speed ?_
      unfold State.overLimit
      rw [param, gov]
      exact decide_eq_true_iff
    · rw [tells .rudderInterlock (by decide) nofun]
      have valves := entered.valves
      rw [line, line, xu.tells .rudderInterlock (by decide) nofun] at valves
      exact raisedBy_iff valves Bool.and_eq_true_iff
    · rw [tells .rudderFeedback (by decide) nofun]
      have feedback := entered.feedback (by rw [su.steer (by decide)]; exact off)
      rw [xu.tells .rudderFeedback (by decide) nofun] at feedback
      refine raisedBy_iff feedback ?_
      unfold State.a0Faulted
      rw [su.conv (by decide), beq_iff_eq]
    · rw [tells .returnExceeds (by decide) nofun]
      have exceeds := entered.exceeds
      rw [meter, xu.tells .returnExceeds (by decide) nofun] at exceeds
      exact raisedBy_iff exceeds Iff.rfl
    · rw [tells .flowSignal (by decide) nofun, entered.flow, meter, caps]
    · rw [after.thrust (by decide), entered.economy, clockU]
    · rw [after.gov (by decide), entered.settling, line, clockU]
    · rw [after.meter (by decide), entered.watch, param, gov, clockU]
  · have entered := superviseCoupling_entered xu.station
    have eq : v = u.superviseCoupling := entryUnits_coup (coupU.trans coup)
    rw [← eq] at entered
    have unitU : u.coup = s.coup := su.coup (by decide)
    have unitW : w.coup = v.coup := vw.touches.coup (by decide)
    have unitT := wt.reports.coup
    rw [unitW] at unitT
    have touches : OnlyTouches [.clock, .station, .start, .present, .alerts, .link, .demand, .coup, .conv] s t :=
      su.mono.trans (entered.touches.mono.trans vt.mono)
    have onset := entered.onset
    rw [line, unitU, clockU] at onset
    refine ⟨?_, fun broken => ?_, fun sound => ?_, fun parts => ?_, fun sound n => ?_, ?_, fun stays => ?_, touches⟩
    · rw [unitT]
      exact entered.supervised
    · obtain ⟨cls, parted⟩ := entered.broken ((line 0).trans broken)
      rw [unitT, tells .parted (by decide) nofun]
      exact ⟨cls, parted⟩
    · obtain ⟨cls, parted, high, overload⟩ := entered.sound ((line 0).trans sound)
      rw [unitT, tells .parted (by decide) nofun, tells .strainHigh (by decide) nofun, tells .overload (by decide) nofun, parted,
        xu.tells .parted (by decide) nofun]
      rw [unitU] at cls high overload
      rw [xu.tells .strainHigh (by decide) nofun] at high
      rw [xu.tells .overload (by decide) nofun] at overload
      exact ⟨cls, rfl, raisedBy_iff high beq_iff_eq, raisedBy_iff overload beq_iff_eq⟩
    · rw [unitT, onset]
      exact if_pos parts
    · rw [unitT, onset]
      exact if_neg (not_or.mpr ⟨Bool.eq_false_iff.mp sound, n⟩)
    · rw [tells .tensionSignal (by decide) nofun]
      have signal := entered.signal
      rw [xu.tells .tensionSignal (by decide) nofun] at signal
      refine raisedBy_iff signal ?_
      unfold State.a0Faulted
      rw [su.conv (by decide), beq_iff_eq]
    · rw [wt.stays stays, unitW, entered.winch, line, xu.tells .winchRun (by decide) nofun]
      rfl

end Sys2Proof.Machine
end

section
/-! SUPPORT. What a frame assembled at send carries (O27). -/

namespace Sys2Proof.Machine

-- As in Laws/Touches.lean: one theorem at a time.
set_option Elab.async false

/-- An item is asked for by a holding helm: an ACK is not void (R146, R163). -/
def State.AsksAck (s : State) : Prop := s.isHelm = true ∧ s.helm.con = .holding ∧ ∃ i ∈ s.view.items, i.requested = true

theorem asksAck_iff (s : State) :
    (s.isHelm && s.helm.con == .holding && s.view.items.any ViewItem.requested) = true ↔ s.AsksAck := by
  simp only [Bool.and_eq_true, beq_iff_eq, List.any_eq_true, and_assoc]
  rfl

theorem assembleAck_asked {s : State} (h : s.AsksAck) : s.assembleAck = some (.ack (ackItems s.view.items)) :=
  if_pos ((asksAck_iff s).mpr h)

theorem assembleAck_void {s : State} (h : ¬ s.AsksAck) : s.assembleAck = none := if_neg fun k => h ((asksAck_iff s).mp k)

theorem tank_byte (s : State) : BitVec.ofNat 8 s.tank.val = BitVec.ofNat 8 (twoLine (s.line 3) (s.line 4)) := by
  unfold State.tank
  cases s.line 3 <;> cases s.line 4 <;> rfl

/-- An entry as R142 carries it. -/
theorem items_of_entries (l : List AlertEntry) :
    (l.map itemOf).map (fun i => (i.code, i.state, i.occ)) = l.map fun e => (e.code, e.state, e.occ) := by
  rw [List.map_map]
  rfl

/-- The ALERT of a station that keeps reporting. -/
theorem assembleAlert_reports {s : State} (h : s.station ≠ .halted) : s.assembleAlert = .alert
    { part1 := s.comms.alerts.part1Due, last := s.comms.alerts.part1Due || decide (s.comms.alerts.list.length ≤ 8),
      items := (if s.comms.alerts.part1Due then s.comms.alerts.list.drop 8 else s.comms.alerts.list.take 8).map itemOf } := by
  unfold State.assembleAlert
  dsimp only
  rw [if_neg h]
  cases s.comms.alerts.part1Due <;> rfl

theorem haltedItems_fields (l : List AlertEntry) :
    (haltedItems l).map (fun i => (i.code, i.state, i.occ)) =
      (if l.length ≤ 8 then l else
        (l.filter (fun e => tripClass e.code) ++ l.filter (fun e => !tripClass e.code)).take 8).map
        fun e => (e.code, e.state, e.occ) := by
  unfold haltedItems
  split <;> exact items_of_entries _

/-- Settles O27: each kind's assembly read off its rule. -/
theorem framesCarryLiveState : Obligations.FramesCarryLiveState := by
  intro s content
  refine ⟨?_, ⟨speedField s.gov.rpm, rfl, fun fits => ?_⟩, rfl, ?_, ⟨_, rfl, fun k => ?_⟩, fun act => ?_, fun halted => ?_,
    fun n => assembleAck_void n, fun helm con some => assembleAck_asked ⟨helm, con, some⟩, rfl, rfl, rfl, rfl⟩
  · show s.assembleDemand = _
    unfold State.assembleDemand
    simp only [Bool.and_eq_true, beq_iff_eq]
    rfl
  · unfold speedField
    rw [if_pos fits]
    exact Nat.mod_eq_of_lt (Nat.lt_succ_of_le fits)
  · show some s.assembleFuel = _
    unfold State.assembleFuel
    rw [tank_byte]
    rfl
  · rw [Tab.get_map]
    rfl
  · have reports : s.station ≠ .halted := fun e => by rw [e] at act; exact nomatch act
    refine ⟨_, congrArg some (assembleAlert_reports reports), rfl, items_of_entries _, ?_⟩
    rw [Bool.or_eq_true, decide_eq_true_iff]
  · exact ⟨_, congrArg some (if_pos halted), rfl, decide_eq_true_iff, haltedItems_fields _⟩

end Sys2Proof.Machine
end

section
/-! SUPPORT. The ends of a frame in hand: collision, jam, backoff and fault (O29, O30). -/

namespace Sys2Proof.Machine

-- As in Laws/Touches.lean: one theorem at a time.
set_option Elab.async false

variable {s : State}

/-! ## The owner told of an end (R142, R146, R161) -/

theorem nextAck_asked (asks : s.AsksAck) (act : s.station.acting = true) (free : s.QueueFree) :
    Queued ⟨.ack, 2, s.clock, none⟩ s s.nextAck := by
  have eq : s.nextAck = s.offer .ack 2 := whenever_pos (f := fun s => s.offer .ack 2) ((asksAck_iff s).mpr asks)
  rw [eq]
  exact offer_queued .ack 2 act free

theorem nextAck_idle (none : ¬ s.AsksAck) : s.nextAck = s :=
  whenever_neg (Bool.eq_false_iff.mpr fun k => none ((asksAck_iff s).mp k))

/-- The owners that an unsent end leaves as they are. -/
theorem tellOwner_unsent {h : InHand} (alert : payloadKind h.frame.payload ≠ .alert) (ack : payloadKind h.frame.payload ≠ .ack) :
    s.tellOwner h false = s := by
  unfold State.tellOwner
  cases payload : h.frame.payload <;> rw [payload] at alert ack <;>
    first | rfl | exact absurd rfl alert | exact absurd rfl ack

/-- The alert unit at an unsent end of its frame. -/
theorem alertEnd_unsent (a : AlertFields) : s.alertEnd a false = { s with comms := { s.comms with
    alerts := { s.comms.alerts with part1Due := !a.part1 && s.comms.alerts.part1Due } } } := by
  unfold State.alertEnd
  cases a.part1 <;> rfl

theorem endTold_acting {h : InHand} {sent : Bool} (act : s.station.acting = true) : s.endTold h sent = s.tellOwner h sent :=
  whenever_pos (f := fun s => s.tellOwner h sent) act

theorem endTold_halted {h : InHand} {sent : Bool} (halted : s.station.acting = false) : s.endTold h sent = s :=
  whenever_neg halted

/-- What the owner of an abandoned or discarded frame does. -/
structure Unsent (h : InHand) (v t : State) : Prop where
  other : payloadKind h.frame.payload ≠ .alert → payloadKind h.frame.payload ≠ .ack → t = v
  alert : ∀ a, h.frame.payload = .alert a → t = { v with comms := { v.comms with alerts := { v.comms.alerts with
    part1Due := !a.part1 && v.comms.alerts.part1Due } } }
  ack : ∀ items, h.frame.payload = .ack items → v.QueueFree →
    (v.AsksAck → Queued ⟨.ack, 2, v.clock, none⟩ v t) ∧ (¬ v.AsksAck → t = v)

theorem endTold_unsent {h : InHand} (act : s.station.acting = true) : Unsent h s (s.endTold h false) := by
  rw [endTold_acting act]
  refine ⟨tellOwner_unsent, fun a payload => ?_, fun items payload free => ?_⟩
  · unfold State.tellOwner
    rw [payload]
    exact alertEnd_unsent a
  · unfold State.tellOwner
    rw [payload]
    exact ⟨fun asks => nextAck_asked asks act free, nextAck_idle⟩

/-- A condition of the reports raised or ended at the end, seen by the queue's owners. -/
theorem AsksAck.congr {u v : State} (role : v.role = u.role) (helm : v.helm = u.helm) (view : v.view = u.view) :
    v.AsksAck ↔ u.AsksAck := by
  unfold State.AsksAck
  rw [isHelm_eq role, helm, view]

theorem raiseNew_asksAck (s : State) (c : AlertCode) : (s.raiseNew c).AsksAck ↔ s.AsksAck := by
  have touches := raiseNew_touches s c
  exact AsksAck.congr (touches.role (by decide)) (touches.helm (by decide)) (touches.view (by decide))

theorem restTx_eq (q : List Waiting) : restTx q = if q = [] then .idle else .deferring := by
  cases q <;> rfl

theorem acting_of_sending (act : s.station.acting = true) : s.station.reporting = true ∧ s.station ≠ .halted := by
  cases h : s.station <;> rw [h] at act <;> first | exact ⟨rfl, nofun⟩ | exact nomatch act

/-! ## Collision and jam (R158, R159, R160) -/

theorem exec_collision {dt : Micros} {hand : InHand} (sends : s.transmits = true) (tx : s.comms.link.tx = .sending hand)
    (first : 1 ≤ bitTimeOf (s.later dt) hand.since) (last : bitTimeOf (s.later dt) hand.since ≤ 40) :
    exec (.collision dt) s = .next { s.advance dt with comms := { s.comms with link := { s.comms.link with
      tx := .jamming { hand with collisions := hand.collisions + 1, since := s.later dt },
      txResidue := residueAt hand.frame (bitTimeOf (s.later dt) hand.since) } } } := by
  show Host.Outcome.next (s.advance dt).collide = _
  unfold State.collide
  rw [show (s.advance dt).comms.link.tx = .sending hand from tx]
  dsimp only
  rw [whenever_pos (by
    show (s.transmits && decide (1 ≤ bitTimeOf (s.later dt) hand.since) && decide (bitTimeOf (s.later dt) hand.since ≤ 40)) = true
    rw [sends, decide_eq_true first, decide_eq_true last]; rfl)]
  rfl

/-- The end of a jam that has lasted its 16 bit times. -/
theorem jamEnd_eq {dt : Micros} {hand : InHand} (sends : s.transmits = true) (tx : s.comms.link.tx = .jamming hand)
    (ended : 128 ≤ elapsed (s.later dt) hand.since) : (s.advance dt).jamEnd =
      if hand.collisions < 10 then (s.advance dt).releaseLine.drawBackoff hand else (s.advance dt).releaseLine.discardHand hand := by
  unfold State.jamEnd
  rw [show (s.advance dt).comms.link.tx = .jamming hand from tx]
  exact whenever_pos (f := fun s => if hand.collisions < 10 then s.releaseLine.drawBackoff hand else s.releaseLine.discardHand hand) (by
    show (s.transmits && decide (bitTimes 16 ≤ elapsed (s.later dt) hand.since)) = true
    rw [sends]
    exact decide_eq_true ended)

/-- The link after a tenth collision, its loss not yet reported. -/
def State.discarded (s : State) : State :=
  { s with comms := { s.comms with link := { s.comms.link with
    tx := if s.comms.link.queue = [] then .idle else .deferring, lastLoss := some s.clock, lastChange := some s.clock } } }

theorem discardHand_eq (s : State) (hand : InHand) : s.releaseLine.discardHand hand =
    (s.discarded.whenever s.station.reporting (fun t => t.raiseNew .txLoss)).endTold hand false := by
  unfold State.discardHand State.lose State.handOver State.releaseLine State.discarded
  dsimp only
  rw [restTx_eq]

end Sys2Proof.Machine
end

section
/-! SUPPORT. An attempt begun, and what a collision and a backoff lead to (O29). -/

namespace Sys2Proof.Machine

-- As in Laws/Touches.lean: one theorem at a time.
set_option Elab.async false

/-! ## An attempt (R103, R142, R152, R158) -/

/-- What the start of an attempt leaves. -/
structure Attempted (p : Payload) (cls : Fin 4) (n : Nat) (role : Role) (s t : State) : Prop where
  touches : OnlyTouches [.coup, .alerts, .link] s t
  link : t.comms.link = { s.comms.link with
    tx := .sending
      { frame := { start := s.comms.link.startMark, source := s.address, role := role, cls := cls, payload := p },
        collisions := n, since := s.clock, assembled := s.clock, echo := false },
    txResidue := 0xFFFF, quietSince := none, lastChange := none, receiver := .receiving }
  coup : t.coup = if payloadKind p = .strain then { s.coup with peakSince := none } else s.coup
  list : t.comms.alerts.list = s.comms.alerts.list
  part : t.comms.alerts.part1Due = s.comms.alerts.part1Due

theorem noteAssembly_parts (s : State) (p : Payload) : (s.noteAssembly p).comms.link = s.comms.link ∧
    (s.noteAssembly p).coup = (if payloadKind p = .strain then { s.coup with peakSince := none } else s.coup) ∧
    (s.noteAssembly p).comms.alerts.list = s.comms.alerts.list ∧
    (s.noteAssembly p).comms.alerts.part1Due = s.comms.alerts.part1Due := by
  cases p with
  | alert a =>
    unfold State.noteAssembly
    dsimp only
    split <;> exact ⟨rfl, rfl, rfl, rfl⟩
  | _ => exact ⟨rfl, rfl, rfl, rfl⟩

theorem attempt_attempted {s : State} {role : Role} (p : Payload) (cls : Fin 4) (n : Nat) (h : s.role = some role) :
    Attempted p cls n role s (s.attempt p cls n) := by
  have touches := attempt_touches s p cls n
  obtain ⟨link, coup, list, part⟩ := noteAssembly_parts s p
  refine ⟨touches, ?_, ?_, ?_, ?_⟩
  all_goals
    unfold State.attempt
    rw [h]
    dsimp only
  · rw [link]
    rfl
  · exact coup
  · exact list
  · exact part

/-- Selecting a tank moves its lines alone. -/
theorem selected_touches (s : State) (dt : Micros) (tank : BitVec 2) :
    OnlyTouches [.clock, .lines] s ((s.advance dt).selectTank tank) :=
  (advance_touches s dt).mono.trans (selectTank_touches _ tank).mono

end Sys2Proof.Machine
end

section
/-! SUPPORT. Collision, jam and backoff (O29). -/

namespace Sys2Proof.Machine

-- As in Laws/Touches.lean: one theorem at a time.
set_option Elab.async false

variable {s : State}

/-! ## The backoff (R159, R163) -/

theorem quietFor_eq {quiet : Clock} (l : LinkUnit) (now : Clock) (t : Micros) (h : l.quietSince = some quiet) :
    l.quietFor now t = decide (t ≤ elapsed now quiet) := by
  unfold LinkUnit.quietFor aged
  rw [h]

theorem backoffEnd_eq {hand : InHand} {slots : Nat} {quiet : Clock} (sends : s.transmits = true)
    (tx : s.comms.link.tx = .backingOff hand slots) (since : s.comms.link.quietSince = some quiet) : s.backoffEnd =
      if gapOf hand.frame.cls + bitTimes (40 * slots) ≤ elapsed s.clock quiet then s.retry hand else s := by
  unfold State.backoffEnd
  rw [tx]
  dsimp only
  unfold State.whenever
  rw [sends, quietFor_eq _ _ _ since, Bool.true_and]
  simp only [decide_eq_true_eq]

theorem gap_eq (c : Fin 4) (slots : Nat) : gapOf c + bitTimes (40 * slots) = 8 * (12 + 8 * c.val + 40 * slots) := by
  unfold gapOf bitTimes
  ring

theorem retry_void {hand : InHand} (h : s.assemble (payloadKind hand.frame.payload) (some hand.frame.payload) = none) :
    s.retry hand = s.handOver := by
  unfold State.retry
  rw [h]

theorem retry_again {hand : InHand} {p : Payload}
    (h : s.assemble (payloadKind hand.frame.payload) (some hand.frame.payload) = some p) :
    s.retry hand = s.attempt p hand.frame.cls hand.collisions := by
  unfold State.retry
  rw [h]

theorem selected_comms (s : State) (dt : Micros) (tank : BitVec 2) : ((s.advance dt).selectTank tank).comms = s.comms := by
  unfold State.selectTank
  split <;> rfl

theorem handOver_eq (s : State) : s.handOver = { s with comms := { s.comms with link := { s.comms.link with
    tx := if s.comms.link.queue = [] then .idle else .deferring } } } := by
  unfold State.handOver
  rw [restTx_eq]

/-- A station that has released the line begins to jam no more: the discarded frame's owner is told last. -/
theorem discardHand_acting {hand : InHand} (act : s.station.acting = true) : ∃ v, Raised .txLoss s.discarded v ∧
    v.station.acting = true ∧ v.clock = s.clock ∧ (v.AsksAck ↔ s.AsksAck) ∧ s.releaseLine.discardHand hand = v.endTold hand false := by
  let v := s.discarded.raiseNew .txLoss
  have touches : OnlyTouches commsParts s.discarded v := raiseNew_touches _ _
  refine ⟨v, raiseNew_raised _ _, ?_, touches.clock (by decide), raiseNew_asksAck _ _, ?_⟩
  · rw [touches.station (by decide)]
    exact act
  · rw [discardHand_eq, whenever_pos (f := fun t => t.raiseNew .txLoss) (acting_of_sending act).1]

theorem discardHand_halted {hand : InHand} (halted : s.station = .halted) : s.releaseLine.discardHand hand = s.discarded := by
  rw [discardHand_eq, whenever_neg (by rw [halted]; rfl)]
  exact endTold_halted (by show s.station.acting = false; rw [halted]; rfl)

/-- Settles O29. -/
theorem collisionAndBackoff : Obligations.CollisionAndBackoff := by
  unfold Obligations.CollisionAndBackoff
  refine ⟨?_, ?_, ?_⟩
  · intro s dt hand sends tx bit first last
    exact exec_collision sends tx first last
  · intro s dt hand sends tx ended r u
    have jam := jamEnd_eq (dt := dt) sends tx ended
    refine ⟨(s.advance dt).jamEnd, rfl, fun few => ?_, fun ten halted => ?_, fun ten act => ?_⟩
    · rw [jam, if_pos few]
      rfl
    · rw [jam, if_neg (Nat.not_lt.mpr ten)]
      exact discardHand_halted (s := s.advance dt) halted
    · obtain ⟨v, raised, acts, clock, asks, eq⟩ := discardHand_acting (s := s.advance dt) (hand := hand) act
      obtain ⟨other, alert, ack⟩ := endTold_unsent (s := v) (h := hand) acts
      rw [jam, if_neg (Nat.not_lt.mpr ten), eq]
      refine ⟨v, raised, other, alert, fun items payload free => ?_⟩
      obtain ⟨queued, idle⟩ := ack items payload free
      rw [clock] at queued
      exact ⟨fun k => queued (asks.mpr k), fun n => idle fun k => n (asks.mp k)⟩
  · intro s dt tank hand slots quiet role sends own tx since u quietFor gap again
    have touches := selected_touches s dt tank
    have comms : u.comms = s.comms := selected_comms s dt tank
    have clock : u.clock = s.later dt := selectTank_touches (s.advance dt) tank |>.clock (by decide)
    have sendsU : u.transmits = true := by
      unfold State.transmits
      rw [touches.station (by decide)]
      exact sends
    have eq := backoffEnd_eq (s := u) sendsU (by rw [comms]; exact tx) (by rw [comms]; exact since)
    rw [gap_eq, clock] at eq
    refine ⟨u.backoffEnd, rfl, fun early => ?_, fun late void => ?_, fun p late full => ?_⟩
    · rw [eq]
      exact if_neg (Nat.not_le.mpr early)
    · rw [eq, if_pos late, retry_void void, handOver_eq, comms]
    · rw [eq, if_pos late, retry_again full]
      have attempted := attempt_attempted (s := u) p hand.frame.cls hand.collisions ((touches.role (by decide)).trans own)
      have link := attempted.link
      rw [comms, clock, touches.address (by decide)] at link
      exact ⟨(attempted.touches.clock (by decide)).trans clock, attempted.touches.lines (by decide), link,
        touches.mono.trans attempted.touches.mono⟩

end Sys2Proof.Machine
end

section
/-! SUPPORT. A transmit fault and a sent end, with what the owner of the frame does (O30). -/

namespace Sys2Proof.Machine

-- As in Laws/Touches.lean: one theorem at a time.
set_option Elab.async false

variable {s : State}

/-! ## The owner told of a sent frame (R13, R103, R104, R142, R146) -/

theorem offerAlert_queued (act : s.station.acting = true) (free : s.QueueFree) :
    Queued ⟨.alert, if tripUnack s.comms.alerts.list then 2 else 3, s.clock, none⟩ s s.offerAlert :=
  offer_queued .alert (alertClass s.comms.alerts.list) act free

/-- The part-1-due mark after a sent ALERT, and whether the next part is due at once (R142). -/
def partDueAfter (a : AlertFields) (due : Bool) : Bool := !a.part1 && (!a.last || due)

@[inherit_doc partDueAfter] def partMoreAfter (a : AlertFields) (changed : Bool) : Bool :=
  (a.part1 && changed) || (!a.part1 && !a.last)

/-- The alert unit with another part-1-due mark. -/
def State.withPart (s : State) (due : Bool) : State :=
  { s with comms := { s.comms with alerts := { s.comms.alerts with part1Due := due } } }

theorem alertEnd_sent (a : AlertFields) : s.alertEnd a true =
    if partMoreAfter a s.comms.alerts.changed then (s.withPart (partDueAfter a s.comms.alerts.part1Due)).offerAlert
    else s.withPart (partDueAfter a s.comms.alerts.part1Due) := by
  unfold State.alertEnd partMoreAfter partDueAfter
  cases a.part1 <;> cases a.last <;> cases s.comms.alerts.changed <;> rfl

theorem sent_filter (c : CouplingUnit) (now assembled : Clock) : c.sent now assembled = { c with
    peak := c.peakSince,
    onset := c.onset.filter (fun mark => decide (elapsed now mark ≤ elapsed now assembled)) } := by
  unfold CouplingUnit.sent after
  cases c.onset with
  | none => rfl
  | some mark =>
    by_cases later : elapsed now assembled < elapsed now mark
    · simp [Option.filter, later]
    · simp [Option.filter, later]

theorem carriedBy_eq (items : List AckItem) (i : ViewItem) : carriedBy items i =
    items.any (fun r => r.station.toNat == i.station.val && r.code == i.code && r.occ == i.occ) := by
  unfold carriedBy
  congr 1
  funext r
  have station : (r.station == BitVec.ofNat 8 i.station.val) = (r.station.toNat == i.station.val) := by
    have small := i.station.isLt
    rw [Bool.eq_iff_iff, beq_iff_eq, beq_iff_eq]
    constructor
    · intro e
      rw [e]
      exact Nat.mod_eq_of_lt (by omega)
    · intro e
      exact BitVec.eq_of_toNat_eq (e.trans (Nat.mod_eq_of_lt (by omega)).symm)
  rw [station]

/-- What the owner of a sent frame does. -/
structure Sent (h : InHand) (v t : State) : Prop where
  other : payloadKind h.frame.payload ∉ [.strain, .alert, .ack, .roster] → t = v
  strain : payloadKind h.frame.payload = .strain → t = { v with coup := v.coup.sent v.clock h.assembled }
  alert : ∀ a, h.frame.payload = .alert a →
    (partMoreAfter a v.comms.alerts.changed = true → v.QueueFree →
      Queued ⟨.alert, if tripUnack v.comms.alerts.list then 2 else 3, v.clock, none⟩
        (v.withPart (partDueAfter a v.comms.alerts.part1Due)) t) ∧
    (partMoreAfter a v.comms.alerts.changed = false → t = v.withPart (partDueAfter a v.comms.alerts.part1Due))
  ack : ∀ items, h.frame.payload = .ack items → t = State.nextAck { v with view := v.view.acked items }
  roster : payloadKind h.frame.payload = .roster → t = v.forget

theorem endTold_sent {h : InHand} (act : s.station.acting = true) : Sent h s (s.endTold h true) := by
  rw [endTold_acting act]
  unfold State.tellOwner
  cases payload : h.frame.payload with
  | strain p => exact ⟨fun n => absurd (by rw [payload]; simp [payloadKind]) n, fun _ => rfl, by rw [payload]; nofun, by rw [payload]; nofun, by rw [payload]; nofun⟩
  | alert a =>
    refine ⟨fun n => absurd (by rw [payload]; simp [payloadKind]) n, by rw [payload]; nofun, fun b e => ?_, by rw [payload]; nofun, by rw [payload]; nofun⟩
    cases payload.symm.trans e
    dsimp only
    rw [alertEnd_sent]
    refine ⟨fun more free => ?_, fun none => if_neg (Bool.eq_false_iff.mp none)⟩
    rw [if_pos more]
    exact offerAlert_queued (s := s.withPart (partDueAfter a s.comms.alerts.part1Due)) act free
  | ack items =>
    refine ⟨fun n => absurd (by rw [payload]; simp [payloadKind]) n, by rw [payload]; nofun, by rw [payload]; nofun, fun b e => ?_, by rw [payload]; nofun⟩
    cases payload.symm.trans e
    rfl
  | roster e => exact ⟨fun n => absurd (by rw [payload]; simp [payloadKind]) n, by rw [payload]; nofun, by rw [payload]; nofun, by rw [payload]; nofun, fun _ => rfl⟩
  | _ => exact ⟨fun _ => rfl, by rw [payload]; nofun, by rw [payload]; nofun, by rw [payload]; nofun, by rw [payload]; nofun⟩

/-! ## A fault (R160, R167) -/

/-- The link after a fault, TX_FAULT not yet raised. -/
def State.abandoned (s : State) (hand : InHand) : State :=
  { s with comms := { s.comms with link := { s.comms.link with
    tx := if s.comms.link.queue = [] then .idle else .deferring,
    txResidue := residueAt hand.frame (bitTimeOf s.clock hand.since) } } }

theorem transmitFault_eq {hand : InHand} (sends : s.transmits = true) (tx : s.comms.link.tx = .sending hand)
    (late : 40 < bitTimeOf s.clock hand.since) (inside : bitTimeOf s.clock hand.since ≤ frameBitTimes hand.frame) :
    s.transmitFault = ((s.abandoned hand).whenever s.station.reporting (fun t => t.raiseNew .txFault)).endTold hand false := by
  unfold State.transmitFault
  rw [tx]
  dsimp only
  rw [whenever_pos (by rw [sends, decide_eq_true late, decide_eq_true inside]; rfl)]
  unfold State.handOver State.abandoned
  rw [restTx_eq]

/-! ## A sent end (R161, R167) -/

/-- The link after a sent end, TX_FAULT not yet cleared. -/
def State.sentOut (s : State) (f : Frame) : State :=
  { s with comms := { s.comms with link := { s.comms.link with
    startMark := false, txResidue := frameCheck f,
    tx := if s.comms.link.queue = [] then .idle else .deferring } } }

theorem sentEnd_eq {hand : InHand} (sends : s.transmits = true) (tx : s.comms.link.tx = .sending hand)
    (echo : hand.echo = true) (out : bitTimes (frameBitTimes hand.frame) ≤ elapsed s.clock hand.since) :
    s.sentEnd = ((s.sentOut hand.frame).whenever s.station.reporting (fun t => t.clear .txFault)).endTold hand true := by
  unfold State.sentEnd
  rw [tx]
  dsimp only
  rw [whenever_pos (by rw [sends, echo, decide_eq_true out]; rfl)]
  unfold State.sentLink State.handOver State.sentOut
  rw [restTx_eq]

/-- Settles O30. -/
theorem transmissionEnds : Obligations.TransmissionEnds := by
  unfold Obligations.TransmissionEnds
  refine ⟨?_, ?_⟩
  · intro s dt hand sends tx bit late inside u
    have eq := transmitFault_eq (s := s.advance dt) sends tx late inside
    refine ⟨(s.advance dt).transmitFault, rfl, fun halted => ?_, fun act => ?_⟩
    · rw [eq, whenever_neg (by show s.station.reporting = false; rw [halted]; rfl)]
      exact endTold_halted (by show s.station.acting = false; rw [halted]; rfl)
    · let v := u.raiseNew .txFault
      have touches : OnlyTouches commsParts u v := raiseNew_touches u _
      have reports : (s.advance dt).station.reporting = true := (acting_of_sending (s := s.advance dt) act).1
      have acts : v.station.acting = true := by rw [touches.station (by decide)]; exact act
      obtain ⟨other, alert, ack⟩ := endTold_unsent (s := v) (h := hand) acts
      rw [eq, whenever_pos (f := fun t => t.raiseNew .txFault) reports]
      refine ⟨v, raiseNew_raised u _, other, alert, fun items payload free => ?_⟩
      obtain ⟨queued, idle⟩ := ack items payload free
      rw [touches.clock (by decide)] at queued
      have asks : v.AsksAck ↔ s.AsksAck := raiseNew_asksAck u _
      exact ⟨fun k => queued (asks.mpr k), fun n => idle fun k => n (asks.mp k)⟩
  · intro s dt hand sends tx echo out u
    have eq := sentEnd_eq (s := s.advance dt) sends tx echo (by
      show (58 + 8 * (payloadBytes hand.frame.payload).length) * 8 ≤ _
      rw [Nat.mul_comm]
      exact out)
    refine ⟨(s.advance dt).sentEnd, rfl, fun halted => ?_, fun act => ?_⟩
    · rw [eq, whenever_neg (by show s.station.reporting = false; rw [halted]; rfl)]
      exact endTold_halted (by show s.station.acting = false; rw [halted]; rfl)
    · let v := u.clear .txFault
      have touches : OnlyTouches commsParts u v := clear_touches u _
      have reports : (s.advance dt).station.reporting = true := (acting_of_sending (s := s.advance dt) act).1
      have acts : v.station.acting = true := by rw [touches.station (by decide)]; exact act
      have clock : v.clock = s.later dt := touches.clock (by decide)
      have coup : v.coup = s.coup := touches.coup (by decide)
      have view : v.view = s.view := touches.view (by decide)
      have peers : v.peers = s.peers := touches.peers (by decide)
      obtain ⟨other, strain, alert, ack, roster⟩ := endTold_sent (s := v) (h := hand) acts
      have last : (s.advance dt).sentEnd = v.endTold hand true := by
        rw [eq, whenever_pos (f := fun t => t.clear .txFault) reports]
        rfl
      rw [last]
      refine ⟨v, clear_ended u _, other, fun k => ?_, fun a payload => ?_, fun items payload => ?_, fun k => ?_⟩
      · have sent := strain k
        rw [sent_filter, coup, clock] at sent
        exact sent
      · obtain ⟨queued, still⟩ := alert a payload
        rw [clock] at queued
        exact ⟨queued, still⟩
      · let w : State := { v with view := v.view.acked items }
        have sent : v.endTold hand true = w.nextAck := ack items payload
        have marked : v.view.acked items = { s.view with items := s.view.items.map (fun i =>
            if items.any (fun r => r.station.toNat == i.station.val && r.code == i.code && r.occ == i.occ)
            then { i with requested := false, sent := true } else i) } := by
          unfold ViewUnit.acked
          rw [view]
          simp only [carriedBy_eq]
        have asks : w.AsksAck ↔ s.isHelm = true ∧ s.helm.con = .holding ∧ ∃ i ∈ (v.view.acked items).items, i.requested = true := by
          unfold State.AsksAck
          rw [show w.isHelm = s.isHelm from isHelm_eq (touches.role (by decide)), show w.helm = s.helm from touches.helm (by decide)]
        have queued : w.AsksAck → v.QueueFree → Queued ⟨.ack, 2, s.later dt, none⟩ w w.nextAck := fun k free => by
          have offered := nextAck_asked k (s := w) acts free
          rw [show w.clock = s.later dt from clock] at offered
          exact offered
        have idle : ¬ w.AsksAck → w.nextAck = w := nextAck_idle
        have same : w = { v with view := { s.view with items := s.view.items.map (fun i =>
            if items.any (fun r => r.station.toNat == i.station.val && r.code == i.code && r.occ == i.occ)
            then { i with requested := false, sent := true } else i) } } := congrArg (fun u : ViewUnit => { v with view := u }) marked
        rw [asks, marked] at queued idle
        rw [sent]
        rw [same] at queued idle ⊢
        exact ⟨queued, idle⟩
      · rw [roster k]
        refine ⟨forget_conflictJudged v, forget_silenceJudged v, fun a e stored silent => ?_, fun a loud => ?_⟩
        · have gone := forget_drops (s := v) (a := a) (by rw [peers, stored]; exact beq_iff_eq.mpr silent)
          exact ⟨gone.1, gone.2.1⟩
        · have kept := forget_keeps (s := v) (a := a) (by
            rw [peers]
            cases stored : s.peers.entries.get a with
            | none => rfl
            | some e => exact beq_eq_false_iff_ne.mpr (loud e stored))
          rw [peers] at kept
          exact kept

end Sys2Proof.Machine
end

section
/-! SUPPORT. The oldest frame of the least class (O28). -/

namespace Sys2Proof.Machine

-- As in Laws/Touches.lean: one theorem at a time.
set_option Elab.async false

/-! ## The head of the queue (R162) -/

theorem leastClass_le (c : Fin 4) (q : List Waiting) : leastClass c q ≤ c ∧ ∀ v ∈ q, leastClass c q ≤ v.cls := by
  induction q generalizing c with
  | nil =>
    unfold leastClass
    exact ⟨le_refl c, fun v m => absurd m List.not_mem_nil⟩
  | cons w q ih =>
    have either : (if w.cls < c then w.cls else c) ≤ c ∧ (if w.cls < c then w.cls else c) ≤ w.cls := by
      split
      next less => exact ⟨le_of_lt less, le_rfl⟩
      next more => exact ⟨le_rfl, not_lt.mp more⟩
    unfold leastClass
    generalize (if w.cls < c then w.cls else c) = d at either
    obtain ⟨start, rest⟩ := ih d
    refine ⟨start.trans either.1, fun v m => ?_⟩
    rcases List.mem_cons.mp m with rfl | m
    · exact start.trans either.2
    · exact rest v m

theorem leastClass_mem (c : Fin 4) (q : List Waiting) : leastClass c q = c ∨ ∃ v ∈ q, v.cls = leastClass c q := by
  induction q generalizing c with
  | nil => exact .inl rfl
  | cons w q ih =>
    rcases ih (if w.cls < c then w.cls else c) with e | ⟨v, m, e⟩
    · unfold leastClass
      split at e
      next less => exact .inr ⟨w, List.mem_cons_self, by rw [if_pos less]; exact e.symm⟩
      next more => exact .inl (by rw [if_neg more]; exact e)
    · exact .inr ⟨v, List.mem_cons_of_mem _ m, e⟩

theorem leastClass_eq {w : Waiting} {q : List Waiting} (m : w ∈ q) (least : ∀ v ∈ q, w.cls ≤ v.cls) : leastClass 3 q = w.cls := by
  obtain ⟨-, below⟩ := leastClass_le 3 q
  refine le_antisymm (below w m) ?_
  rcases leastClass_mem 3 q with e | ⟨v, n, e⟩
  · rw [e]
    exact Fin.le_last w.cls
  · rw [← e]
    exact least v n

theorem dropFirst_append {p : Waiting → Bool} {w : Waiting} (on : p w = true) (behind : List Waiting) :
    ∀ before : List Waiting, (∀ v ∈ before, p v = false) → dropFirst p (before ++ w :: behind) = before ++ behind
  | [], _ => if_pos on
  | v :: before, off => by
    show (if p v then _ else _) = _
    rw [off v List.mem_cons_self, if_neg nofun]
    exact congrArg (v :: ·) (dropFirst_append on behind before fun x m => off x (List.mem_cons_of_mem _ m))

/-- The head and the tail where a frame is the oldest of the least class. -/
theorem queue_split {q before behind : List Waiting} {w : Waiting} (eq : q = before ++ w :: behind)
    (above : ∀ v ∈ before, w.cls < v.cls) (least : ∀ v ∈ behind, w.cls ≤ v.cls) :
    queueHead q = some w ∧ queueTail q = before ++ behind := by
  have least' : leastClass 3 q = w.cls := by
    refine leastClass_eq (by rw [eq]; simp) fun v m => ?_
    rw [eq, List.mem_append, List.mem_cons] at m
    rcases m with m | rfl | m
    · exact le_of_lt (above v m)
    · exact le_rfl
    · exact least v m
  have off : ∀ v ∈ before, (v.cls == w.cls) = false := fun v m => beq_eq_false_iff_ne.mpr (ne_of_gt (above v m))
  unfold queueHead queueTail
  rw [least', eq]
  constructor
  · rw [List.find?_append, List.find?_eq_none.mpr fun v m => by rw [off v m]; exact Bool.false_ne_true, Option.none_or]
    exact List.find?_cons_of_pos (beq_self_eq_true _)
  · exact dropFirst_append (p := fun v => v.cls == w.cls) (beq_self_eq_true _) behind before off

/-! ## The start (R157, R158, R163) -/

section
variable {s : State} {w : Waiting} {quiet : Clock}

theorem startHead_early (n : Nat) (head : queueHead s.comms.link.queue = some w) (since : s.comms.link.quietSince = some quiet)
    (early : elapsed s.clock quiet < gapOf w.cls) : s.startHead (n + 1) = s := by
  rw [State.startHead.eq_2, head]
  dsimp only
  rw [quietFor_eq _ _ _ since, if_neg (by simpa using early)]

theorem startHead_void (n : Nat) (head : queueHead s.comms.link.queue = some w) (since : s.comms.link.quietSince = some quiet)
    (late : gapOf w.cls ≤ elapsed s.clock quiet) (void : s.assemble w.kind w.content = none) :
    s.startHead (n + 1) = s.dropHead.startHead n := by
  rw [State.startHead.eq_2, head]
  dsimp only
  rw [quietFor_eq _ _ _ since, if_pos (by simpa using late), void]

theorem startHead_full {p : Payload} (n : Nat) (head : queueHead s.comms.link.queue = some w)
    (since : s.comms.link.quietSince = some quiet) (late : gapOf w.cls ≤ elapsed s.clock quiet)
    (full : s.assemble w.kind w.content = some p) : s.startHead (n + 1) = s.dropHead.attempt p w.cls 0 := by
  rw [State.startHead.eq_2, head]
  dsimp only
  rw [quietFor_eq _ _ _ since, if_pos (by simpa using late), full]

end

theorem startHead_empty {s : State} (n : Nat) (h : s.comms.link.queue = []) : s.startHead n = s := by
  cases n with
  | zero => rfl
  | succ n =>
    have none : queueHead s.comms.link.queue = none := by
      rw [h]
      rfl
    unfold State.startHead
    rw [none]

theorem transmitStart_eq {s : State} (sends : s.transmits = true) (tx : s.comms.link.tx = .deferring) :
    s.transmitStart = s.startHead (s.comms.link.queue.length + 1) :=
  whenever_pos (f := fun s => s.startHead (s.comms.link.queue.length + 1)) (by rw [sends, tx]; rfl)

theorem selected_with (s : State) (dt : Micros) (tank : BitVec 2) (m : Comms) :
    (State.advance { s with comms := m } dt).selectTank tank = { (s.advance dt).selectTank tank with comms := m } := by
  unfold State.selectTank
  rw [show (State.advance { s with comms := m } dt).isProp = (s.advance dt).isProp from rfl]
  split <;> rfl

/-- Settles O28. -/
theorem transmitStartSendsTheHead : Obligations.TransmitStartSendsTheHead := by
  unfold Obligations.TransmitStartSendsTheHead
  intro s dt tank before behind w quiet role sends tx own queue above least since u left quietFor
  have touches := selected_touches s dt tank
  have comms : u.comms = s.comms := selected_comms s dt tank
  have clock : u.clock = s.later dt := selectTank_touches (s.advance dt) tank |>.clock (by decide)
  obtain ⟨head, tail⟩ := queue_split queue above least
  have sendsU : u.transmits = true := by
    unfold State.transmits
    rw [touches.station (by decide)]
    exact sends
  have start := transmitStart_eq (s := u) sendsU (by rw [comms]; exact tx)
  have gap : gapOf w.cls = 8 * (12 + 8 * w.cls.val) := by
    unfold gapOf bitTimes
    ring
  have headU : queueHead u.comms.link.queue = some w := by rw [comms]; exact head
  have sinceU : u.comms.link.quietSince = some quiet := by rw [comms]; exact since
  have lateU : 8 * (12 + 8 * w.cls.val) ≤ quietFor → gapOf w.cls ≤ elapsed u.clock quiet := fun late => by
    rw [gap, clock]
    exact late
  have dropped : u.dropHead = { u with comms := { s.comms with link := { s.comms.link with
      queue := left, tx := if left = [] then .idle else .deferring } } } := by
    unfold State.dropHead
    rw [comms, tail, restTx_eq]
  have dropLink : u.dropHead.comms.link = { s.comms.link with
      queue := left, tx := if left = [] then .idle else .deferring } := by rw [dropped]
  have len : u.comms.link.queue.length = left.length + 1 := by
    rw [comms, queue]
    show (before ++ w :: behind).length = (before ++ behind).length + 1
    rw [List.length_append, List.length_append, List.length_cons]
    rfl
  refine ⟨u.transmitStart, rfl, fun early => ?_, fun p late full => ?_, fun late void alone => ?_, fun late void some => ?_⟩
  · rw [start]
    exact startHead_early _ headU sinceU (by rw [gap, clock]; exact early)
  · rw [start, startHead_full _ headU sinceU (lateU late) full]
    have dropTouches : OnlyTouches [.link] u u.dropHead := dropHead_touches u
    have attempted := attempt_attempted (s := u.dropHead) p w.cls 0
      ((dropTouches.role (by decide)).trans ((touches.role (by decide)).trans own))
    have link := attempted.link
    have coup := attempted.coup
    rw [dropTouches.coup (by decide), touches.coup (by decide)] at coup
    rw [dropTouches.clock (by decide), clock, dropTouches.address (by decide), touches.address (by decide), dropLink] at link
    refine ⟨(attempted.touches.clock (by decide)).trans ((dropTouches.clock (by decide)).trans clock),
      (attempted.touches.lines (by decide)).trans (dropTouches.lines (by decide)), link, coup, ?_, ?_,
      touches.mono.trans (dropTouches.mono.trans attempted.touches.mono)⟩
    · rw [attempted.list, dropped]
    · rw [attempted.part, dropped]
  · rw [start, startHead_void _ headU sinceU (lateU late) void, startHead_empty _ (by rw [dropped]; exact alone), dropped, if_pos alone, alone]
  · rw [start, startHead_void _ headU sinceU (lateU late) void]
    let s' : State := { s with comms := { s.comms with link := { s.comms.link with queue := left } } }
    let u' := (s'.advance dt).selectTank tank
    have touches' := selected_touches s' dt tank
    have same : u' = u.dropHead := by
      rw [dropped, if_neg some, ← tx]
      exact selected_with s dt tank s'.comms
    have run : exec (.transmitStart dt tank) s' = .next u'.transmitStart := rfl
    have sends' : u'.transmits = true := by
      unfold State.transmits
      rw [touches'.station (by decide)]
      exact sends
    have queue' : u'.comms.link.queue = left := congrArg (fun m : Comms => m.link.queue) (selected_comms s' dt tank)
    rw [run, transmitStart_eq sends' (by rw [selected_comms s' dt tank]; exact tx), queue', same, len]

end Sys2Proof.Machine
end

section
/-! SUPPORT. A frame offered to a full queue (O32). -/

namespace Sys2Proof.Machine

-- As in Laws/Touches.lean: one theorem at a time.
set_option Elab.async false

/-! ## The place taken (R164) -/

theorem le_greatestClass (c : Fin 4) (q : List Waiting) : ∀ v ∈ q, v.cls ≤ greatestClass c q := by
  induction q generalizing c with
  | nil => exact fun v m => absurd m List.not_mem_nil
  | cons w q ih =>
    have either : w.cls ≤ if c < w.cls then w.cls else c := by
      split
      · exact le_refl _
      next more => exact not_lt.mp more
    intro v m
    unfold greatestClass
    generalize (if c < w.cls then w.cls else c) = d at either
    rcases List.mem_cons.mp m with rfl | m
    · exact either.trans (greatestClass_ge d q)
    · exact ih d v m

/-- The youngest frame of a class removed. -/
theorem dropLastOf_split {v : Waiting} (a b : List Waiting) (young : ∀ x ∈ b, x.cls ≠ v.cls) :
    dropLastOf v.cls (a ++ v :: b) = a ++ b := by
  unfold dropLastOf
  rw [List.reverse_append, List.reverse_cons, List.append_assoc, List.singleton_append,
    dropFirst_append (p := fun w => w.cls == v.cls) (beq_self_eq_true _) a.reverse b.reverse
      fun x m => beq_eq_false_iff_ne.mpr (young x (List.mem_reverse.mp m)),
    List.reverse_append, List.reverse_reverse, List.reverse_reverse]

/-- A frame that is not coalesced, offered to a full queue. -/
theorem offerQueue_full {w : Waiting} {q : List Waiting} (fresh : coalesced w q = false) (full : q.length = 8) :
    FullOffer w q (offerQueue w q) ∧ (offerQueue w q).length = 8 := by
  have eq : offerQueue w q =
      if w.cls < greatestClass 0 q then dropLastOf (greatestClass 0 q) q ++ [w] else q := by
    unfold offerQueue
    rw [if_neg (Bool.eq_false_iff.mp fresh), if_neg (by omega)]
  rw [eq]
  refine ⟨⟨fun below => if_neg fun less => ?_, fun a v b split' less before behind => ?_⟩, ?_⟩
  · rcases greatestClass_mem 0 q with e | ⟨v, m, e⟩
    · rw [e] at less
      exact absurd less (Fin.not_lt_zero _)
    · rw [← e] at less
      exact absurd less (not_lt.mpr (below v m))
  · have greatest : greatestClass 0 q = v.cls := by
      refine le_antisymm ?_ (le_greatestClass 0 q v (by rw [split']; simp))
      rcases greatestClass_mem 0 q with e | ⟨x, m, e⟩
      · rw [e]
        exact Fin.zero_le _
      · rw [← e]
        rw [split', List.mem_append, List.mem_cons] at m
        rcases m with m | rfl | m
        · exact before x m
        · exact le_refl _
        · exact le_of_lt (behind x m)
    rw [greatest, if_pos less, split', dropLastOf_split a b fun x m => ne_of_lt (behind x m)]
  · split
    next less =>
      have shorter := dropLastOf_length (greatest_waits less)
      rw [List.length_append, List.length_singleton]
      omega
    · exact full



/-! ## The first loss (R132, R140, R141, R167) -/

theorem offer_coalescedQueue {s : State} {w : Waiting} (act : s.station.acting = true) (h : coalesced w s.comms.link.queue = true) :
    let t : State := { s with comms := s.comms.offer s.station s.clock w }
    t.comms.link.queue = s.comms.link.queue ∧ t.comms.present = s.comms.present ∧ t.comms.alerts = s.comms.alerts ∧
      t.comms.link.lastLoss = s.comms.link.lastLoss := by
  have kept : offerLoses w s.comms.link.queue = false := by
    unfold offerLoses
    rw [h]
    rfl
  have queue : offerQueue w s.comms.link.queue = s.comms.link.queue := if_pos h
  dsimp only
  unfold Comms.offer
  rw [if_pos act, kept, afterLoss_false]
  unfold LinkUnit.put
  rw [queue, kept]
  exact ⟨rfl, rfl, rfl, rfl⟩

/-- The reports with a frame put to the queue that loses one. -/
def Comms.lossPut (m : Comms) (now : Clock) (w : Waiting) : Comms := { m with link := m.link.put now w }

theorem offer_loses {s : State} {w : Waiting} (act : s.station.acting = true) (fresh : coalesced w s.comms.link.queue = false)
    (full : s.comms.link.queue.length = 8) : s.comms.offer s.station s.clock w =
      if s.has .txLoss then s.comms.lossPut s.clock w
      else (s.comms.lossPut s.clock w).raiseOnce s.station s.clock .txLoss := by
  have loses : offerLoses w s.comms.link.queue = true := by
    unfold offerLoses
    rw [fresh, full]
    rfl
  unfold Comms.offer Comms.afterLoss
  rw [if_pos act, loses, (acting_of_sending act).1]
  unfold State.has
  cases h : s.comms.has .txLoss with
  | true => exact if_neg (by rw [show Comms.has { s.comms with link := s.comms.link.put s.clock w } .txLoss = true from h]; decide)
  | false => exact if_pos (by rw [show Comms.has { s.comms with link := s.comms.link.put s.clock w } .txLoss = false from h]; rfl)

/-- The queue once the list has changed at a full queue. -/
theorem setList_changed_queue {m : Comms} {st : StationState} {now : Clock} {l : List AlertEntry} (act : st.acting = true)
    (changed : l ≠ m.alerts.list) : (m.setList st now l).link.queue = offerQueue (alertFrame now l) (promoteAlert l m.link.queue) := by
  unfold Comms.setList
  rw [if_neg changed]
  dsimp only
  rw [if_pos act]
  rfl

theorem setList_same {m : Comms} {st : StationState} {now : Clock} {l : List AlertEntry} (same : l = m.alerts.list) :
    m.setList st now l = m := if_pos same

theorem setList_lastLoss {m : Comms} {st : StationState} {now : Clock} (l : List AlertEntry)
    (h : m.link.lastLoss = some now) : (m.setList st now l).link.lastLoss = some now := by
  unfold Comms.setList
  split
  · exact h
  · dsimp only
    split
    · show (if _ then some now else m.link.lastLoss) = some now
      rw [h, ite_self]
    · exact h

theorem promoteAlert_none {l : List AlertEntry} {q : List Waiting} (h : q.any (fun w => w.kind == .alert) = false) :
    promoteAlert l q = q := by
  unfold promoteAlert
  split
  · refine (List.map_congr_left fun w m => if_neg fun k => ?_).trans (List.map_id q)
    exact (List.any_eq_false.mp h w m) (Bool.and_eq_true_iff.mp k).1
  · rfl

theorem promoteAlert_map (l : List AlertEntry) (q : List Waiting) : promoteAlert l q =
    q.map (fun x => if tripUnack l && x.kind == .alert && x.cls == 3 then { x with cls := 2 } else x) := by
  unfold promoteAlert
  cases tripUnack l
  · exact (List.map_id' q).symm
  · simp

/-- Settles O32: the first loss raises TX_LOSS, whose change of the list meets a queue that is still full. -/
theorem fullQueueLosesAFrame : Obligations.FullQueueLosesAFrame := by
  unfold Obligations.FullQueueLosesAFrame
  intro s w act full q t
  refine ⟨fun ⟨kind, waits⟩ => offer_coalescedQueue act (by unfold coalesced; rw [kind]; exact waits), fun n => ?_⟩
  have fresh : coalesced w q = false := by
    unfold coalesced
    rw [Bool.eq_false_iff]
    exact fun k => n (Bool.and_eq_true_iff.mp k)
  let r := offerQueue w q
  let m := s.comms.lossPut s.clock w
  obtain ⟨offers, length⟩ := offerQueue_full fresh full
  have eq : t.comms = if s.has .txLoss then m else m.raiseOnce s.station s.clock .txLoss := offer_loses act fresh full
  have loses : offerLoses w q = true := by
    unfold offerLoses
    rw [fresh, full]
    rfl
  have loss : m.link.lastLoss = some s.clock := if_pos loses
  refine ⟨r, offers, ?_, ?_, fun d nt => ?_, fun on => ?_, fun off => ?_⟩
  · rw [eq]
    split
    · exact loss
    · exact setList_lastLoss _ loss
  · show t.comms.has _ = true
    rw [eq]
    split
    next on => exact on
    · exact raiseOnce_has_self m _ _ _
  · show t.comms.has d = s.comms.has d
    rw [eq]
    split
    · rfl
    · exact raiseOnce_has_ne m _ _ nt
  · rw [eq, if_pos on]
    exact ⟨rfl, rfl⟩
  · let l := raiseList .txLoss s.comms.alerts.list
    have raised : t.comms = m.raiseOnce s.station s.clock .txLoss := by rw [eq, if_neg (Bool.eq_false_iff.mp off)]
    have queue : t.comms.link.queue = (m.setList s.station s.clock l).link.queue := by rw [raised]; rfl
    have changes : l ≠ s.comms.alerts.list → t.comms.link.queue = offerQueue (alertFrame s.clock l) (promoteAlert l r) :=
      fun changed => queue.trans (setList_changed_queue (m := m) act changed)
    refine ⟨?_, ?_, fun same => ?_, fun changed waits => ?_, fun changed none => ?_⟩
    · rw [raised]
      exact raiseOnce_list m _ _ _
    · rw [raised]
      exact (raiseOnce_kept m s.station s.clock .txLoss).part
    · rw [queue, setList_same (m := m) same]
      rfl
    · rw [changes changed]
      refine Eq.trans (if_pos ?_) (promoteAlert_map l r)
      show (true && (promoteAlert l r).any (fun v => v.kind == .alert)) = true
      rw [promoteAlert_waits, waits]
      rfl
    · rw [changes changed, promoteAlert_none none]
      exact (offerQueue_full (w := alertFrame s.clock l) (by show (true && r.any (fun v => v.kind == .alert)) = false; rw [none]; rfl)
        length).1

end Sys2Proof.Machine
end

section
/-! SUPPORT. The entry of a code in the alert list: what each change of the list leaves of it, and what a frame's way
to its unit leaves of the list. -/

namespace Sys2Proof.Machine

-- As in Laws/Touches.lean: one theorem at a time.
set_option Elab.async false

/-! ## The entry of a code (R132 to R135) -/

theorem entryOf_code {c : AlertCode} {l : List AlertEntry} {e : AlertEntry} (h : entryOf c l = some e) : e.code = c := by
  have found := List.find?_some h
  exact beq_iff_eq.mp found

theorem entryOf_map (c : AlertCode) (l : List AlertEntry) (f : AlertEntry → AlertEntry) (same : ∀ e, (f e).code = e.code) :
    entryOf c (l.map f) = (entryOf c l).map f := by
  unfold entryOf
  rw [List.find?_map]
  congr 2
  funext e
  show ((f e).code == c) = _
  rw [same]

/-- A change of the entries of one code alone. -/
theorem entryOf_mapped {c d : AlertCode} (l : List AlertEntry) (f : AlertEntry → AlertEntry) (same : ∀ e, (f e).code = e.code) :
    entryOf c (l.map fun e => if e.code == d then f e else e) = if c = d then (entryOf c l).map f else entryOf c l := by
  rw [entryOf_map c l _ fun e => by split; exacts [same e, rfl]]
  cases found : entryOf c l with
  | none => rw [Option.map_none, Option.map_none, ite_self]
  | some e =>
    rw [Option.map_some, Option.map_some, entryOf_code found]
    by_cases this : c = d
    · rw [if_pos this, if_pos (beq_iff_eq.mpr this)]
    · rw [if_neg this, if_neg fun h => this (beq_iff_eq.mp h)]

theorem entryOf_filter {c : AlertCode} {l : List AlertEntry} {p : AlertEntry → Bool} (keeps : ∀ e, e.code = c → p e = true) :
    entryOf c (l.filter p) = entryOf c l := by
  unfold entryOf
  rw [List.find?_filter]
  congr 1
  funext e
  by_cases h : e.code = c
  · rw [keeps e h, beq_iff_eq.mpr h]; rfl
  · rw [beq_eq_false_iff_ne.mpr h]
    simp

theorem entryOf_none_iff {c : AlertCode} {l : List AlertEntry} :
    entryOf c l = none ↔ l.any (fun e => e.code == c) = false := by
  unfold entryOf
  rw [List.find?_eq_none, List.any_eq_false]

theorem entryOf_removed (c : AlertCode) (l : List AlertEntry) : entryOf c (removeEntry c l) = none := by
  refine List.find?_eq_none.mpr fun e m same => ?_
  have other : (e.code != c) = true := (List.mem_filter.mp m).2
  exact absurd (beq_iff_eq.mp same) (bne_iff_ne.mp other)

theorem entryOf_acked {c : AlertCode} {l : List AlertEntry} {e : AlertEntry} (h : entryOf c l = some e) :
    entryOf c (markAcked c l) = some { e with state := .activeAcked } := by
  refine (entryOf_mapped (c := c) (d := c) l (fun e => { e with state := .activeAcked }) fun _ => rfl).trans ?_
  rw [if_pos rfl, h]
  rfl

theorem entryOf_renewed {c : AlertCode} {l : List AlertEntry} {e : AlertEntry} (h : entryOf c l = some e) :
    entryOf c (raiseList c l) = some { e with state := .activeUnack, occ := nextOcc e.occ } := by
  have listed : l.any (fun e => e.code == c) = true := by
    rw [← Bool.not_eq_false, ← entryOf_none_iff, h]
    exact nofun
  refine (congrArg (entryOf c) (if_pos listed)).trans ?_
  refine (entryOf_mapped (c := c) (d := c) l (fun e => { e with state := .activeUnack, occ := nextOcc e.occ }) fun _ => rfl).trans ?_
  rw [if_pos rfl, h]
  rfl

theorem entryOf_raised_other {c d : AlertCode} {l : List AlertEntry} (other : c ≠ d) (room : l.length < 16) :
    entryOf c (raiseList d l) = entryOf c l := by
  unfold raiseList
  split
  · refine (entryOf_mapped (c := c) (d := d) l (fun e => { e with state := .activeUnack, occ := nextOcc e.occ }) fun _ => rfl).trans ?_
    exact if_neg other
  · unfold appendEntry entryOf
    rw [if_pos room, List.find?_append]
    have new : List.find? (fun e => e.code == c) [({ code := d, state := .activeUnack, occ := 1 } : AlertEntry)] = none :=
      List.find?_cons_of_neg fun h => other (beq_iff_eq.mp h).symm
    rw [new, Option.or_none]

theorem entryOf_cleared_other {c d : AlertCode} (l : List AlertEntry) (other : c ≠ d) :
    entryOf c (clearList d l) = entryOf c l := by
  refine (entryOf_mapped (c := c) (d := d) _ (fun e => { e with state := .clearedUnack }) fun _ => rfl).trans ?_
  rw [if_neg other]
  refine entryOf_filter fun e h => ?_
  rw [h, beq_eq_false_iff_ne.mpr other]
  rfl

theorem raiseList_length_le {l : List AlertEntry} (c : AlertCode) (room : l.length < 16) :
    (raiseList c l).length ≤ l.length + 1 := by
  unfold raiseList
  split
  · rw [List.length_map]; exact Nat.le_succ _
  · unfold appendEntry
    rw [if_pos room, List.length_append]
    exact le_rfl

theorem clearList_length_le (c : AlertCode) (l : List AlertEntry) : (clearList c l).length ≤ l.length := by
  unfold clearList
  rw [List.length_map]
  exact List.length_filter_le _ _

/-! ## The entry of a code while other conditions come and go -/

/-- The entry of a code stands while the list gains at most some entries, where list and queue have room. -/
def Spares (c : AlertCode) (n : Nat) (s t : State) : Prop :=
  s.load ≤ 7 → s.comms.alerts.list.length + n ≤ 16 →
    t.load ≤ s.load ∧ t.comms.alerts.list.length ≤ s.comms.alerts.list.length + n ∧
      entryOf c t.comms.alerts.list = entryOf c s.comms.alerts.list

variable {c : AlertCode}

theorem Spares.refl (s : State) : Spares c 0 s s := fun _ _ => ⟨le_rfl, le_rfl, rfl⟩

theorem Spares.mono {m n : Nat} {s t : State} (h : Spares c m s t) (le : m ≤ n := by decide) : Spares c n s t :=
  fun room few =>
    have ⟨load, length, entry⟩ := h room (by omega)
    ⟨load, by omega, entry⟩

theorem Spares.trans {m n : Nat} {s t u : State} (h : Spares c m s t) (k : Spares c n t u) : Spares c (m + n) s u :=
  fun room few =>
    have ⟨load, length, entry⟩ := h room (by omega)
    have ⟨load', length', entry'⟩ := k (load.trans room) (by omega)
    ⟨load'.trans load, by omega, entry'.trans entry⟩

theorem Spares.ite {n : Nat} {s t u : State} {p : Prop} [Decidable p] (h : Spares c n s t) (k : Spares c n s u) :
    Spares c n s (if p then t else u) := by
  split <;> assumption

theorem Spares.whenever {n : Nat} {f : State → State} (s : State) (p : Bool) (h : Spares c n s (f s)) :
    Spares c n s (s.whenever p f) := by
  unfold State.whenever
  split
  · exact h
  · exact (Spares.refl s).mono (Nat.zero_le n)

/-- A change that leaves the list and the queue. -/
theorem Spares.still {s t : State} (list : t.comms.alerts = s.comms.alerts := by rfl)
    (queue : t.comms.link.queue = s.comms.link.queue := by rfl) : Spares c 0 s t := fun _ _ => by
  rw [list]
  refine ⟨le_of_eq ?_, le_rfl, rfl⟩
  unfold State.load State.waits
  rw [queue]

theorem OnlyTouches.spares {ps : List Part} {s t : State} (h : OnlyTouches ps s t) (a : Part.alerts ∉ ps := by decide)
    (l : Part.link ∉ ps := by decide) : Spares c 0 s t :=
  .still (h.alerts a) (by rw [h.link l])

theorem Clears.spares {d : AlertCode} {s t : State} (h : Clears d s t) (other : c ≠ d) : Spares c 0 s t := fun room _ => by
  obtain ⟨only, -, -, list⟩ := h
  have free := queueFree_of_load room
  have cleared : t.comms.alerts.list = clearList d s.comms.alerts.list := list.resolve_right fun h => h.1 free
  rw [cleared]
  exact ⟨(only.loaded room).load, clearList_length_le d _, entryOf_cleared_other _ other⟩

theorem Raises.list {d : AlertCode} {s t : State} (h : Raises d s t) (room : s.load ≤ 7) :
    t.comms.alerts.list = raiseList d s.comms.alerts.list :=
  h.2.2.2.resolve_right fun h => h.1 (queueFree_of_load room)

theorem Raises.spares {d : AlertCode} {s t : State} (h : Raises d s t) (other : c ≠ d) : Spares c 1 s t := fun room few => by
  rw [h.list room]
  exact ⟨(h.1.loaded room).load, raiseList_length_le d (by omega), entryOf_raised_other other (by omega)⟩

theorem clear_spares {d : AlertCode} (s : State) (other : c ≠ d) : Spares c 0 s (s.clear d) := by
  have ended := clear_ended s d
  unfold Ended at ended
  split at ended
  · exact ended.spares other
  · rw [ended]; exact .refl s

theorem raiseNew_spares {d : AlertCode} (s : State) (other : c ≠ d) : Spares c 1 s (s.raiseNew d) := by
  have raised := raiseNew_raised s d
  unfold Raised at raised
  split at raised
  · rw [raised]; exact (Spares.refl s).mono
  · exact raised.spares other

theorem follow_spares {d : AlertCode} (s : State) (b : Bool) (other : c ≠ d) : Spares c 1 s (s.follow d b) :=
  .ite (raiseNew_spares s other) (clear_spares s other).mono

theorem judgeLagEnd_spares (s : State) (other : c ≠ .stationLag) : Spares c 0 s s.judgeLagEnd :=
  .whenever s _ (clear_spares s other)

theorem pruneLag_spares (s : State) (other : c ≠ .stationLag) : Spares c 0 s s.pruneLag :=
  .whenever s _ (Spares.trans .still (judgeLagEnd_spares _ other))

theorem judgeSilent_spares (s : State) (was : Bool) (other : c ≠ .peerSilent) : Spares c 1 s (s.judgeSilent was) := by
  unfold State.judgeSilent
  split
  · exact Spares.trans (n := 0) (.ite (Spares.refl s).mono (follow_spares s _ other)) .still
  · exact Spares.mono (m := 0) .still

theorem heard_spares (s : State) (dt : Micros) (other : c ≠ .rxError) : Spares c 0 s (s.heard dt) := by
  have noted : Spares c 0 ((s.advance dt).endReception 0) (s.heard dt) :=
    .ite .still (.whenever _ _ (clear_spares _ other))
  exact Spares.trans (s := s) (m := 0) .still noted

theorem tableChanged_spares (s : State) (was : Bool) (silent : c ≠ .peerSilent) (lag : c ≠ .stationLag) :
    Spares c 1 s (s.tableChanged was) :=
  (judgeSilent_spares s was silent).trans ((pruneLag_spares _ lag).trans ((refreshStrain_touches _).spares.trans
    (judgeWinch_touches _).spares))

/-- What a frame leaves of an entry on its way to its unit. -/
theorem tabled_spares (s : State) (dt : Micros) (f : Frame) (error : c ≠ .rxError) (silent : c ≠ .peerSilent)
    (lag : c ≠ .stationLag) : Spares c 1 s ((s.heard dt).tabled f) :=
  ((heard_spares s dt error).trans ((written_touches _ f).spares.trans (tableChanged_spares _ _ silent lag))).mono

end Sys2Proof.Machine
end

section
/-! SUPPORT. The owners' answers to the end of a condition, as the alert list and the queue see them. -/

namespace Sys2Proof.Machine

-- As in Laws/Touches.lean: one theorem at a time.
set_option Elab.async false

/-! ## Frames queued apart from the list -/

/-- The list stands while at most some places of the queue are taken besides one for an ALERT. -/
def Posts (n : Nat) (s t : State) : Prop :=
  s.load + n ≤ 7 → t.load ≤ s.load + n ∧ (∀ k, s.waits k = true → t.waits k = true) ∧
    t.comms.alerts.list = s.comms.alerts.list

theorem Posts.refl (s : State) : Posts 0 s s := fun _ => ⟨le_rfl, fun _ => id, rfl⟩

theorem Posts.trans {m n : Nat} {s t u : State} (h : Posts m s t) (k : Posts n t u) : Posts (m + n) s u := fun room => by
  obtain ⟨load, waits, list⟩ := h (by omega)
  obtain ⟨load', waits', list'⟩ := k (by omega)
  exact ⟨by omega, fun j w => waits' j (waits j w), list'.trans list⟩

theorem Posts.mono {m n : Nat} {s t : State} (h : Posts m s t) (le : m ≤ n := by decide) : Posts n s t := fun room => by
  obtain ⟨load, rest⟩ := h (by omega)
  exact ⟨by omega, rest⟩

theorem Posts.ite {n : Nat} {s t u : State} {p : Prop} [Decidable p] (h : Posts n s t) (k : Posts n s u) :
    Posts n s (if p then t else u) := by
  split <;> assumption

theorem Posts.whenever {n : Nat} {f : State → State} (s : State) (p : Bool) (h : Posts n s (f s)) :
    Posts n s (s.whenever p f) := by
  unfold State.whenever
  split
  · exact h
  · exact (Posts.refl s).mono (Nat.zero_le n)

/-- A change that leaves the list and the queue. -/
theorem Posts.still {s t : State} (list : t.comms.alerts.list = s.comms.alerts.list := by rfl)
    (queue : t.comms.link.queue = s.comms.link.queue := by rfl) : Posts 0 s t := fun _ => by
  have waits (k : FrameKind) : t.waits k = s.waits k := by
    unfold State.waits
    rw [queue]
  refine ⟨le_of_eq ?_, fun k h => (waits k).trans h, list⟩
  unfold State.load
  rw [waits, queue]
  rfl

theorem OnlyTouches.posts {ps : List Part} {s t : State} (h : OnlyTouches ps s t) (a : Part.alerts ∉ ps := by decide)
    (l : Part.link ∉ ps := by decide) : Posts 0 s t :=
  .still (by rw [h.alerts a]) (by rw [h.link l])

theorem markOnset_posts (s : State) : Posts 0 s s.markOnset := fun _ =>
  have loaded := markOnset_loaded s
  ⟨loaded.load, loaded.waits, rfl⟩

theorem offer_posts (s : State) (k : FrameKind) (c : Fin 4) : Posts 1 s (s.offer k c) := fun room => by
  by_cases act : s.station.acting = true
  · have free : s.load ≤ 7 := by omega
    obtain ⟨load, -, waits⟩ := offer_loaded k c act free
    exact ⟨load, waits, (offer_queued k c act (queueFree_of_load free)).list⟩
  · have still : s.offer k c = s := by
      unfold State.offer Comms.offer
      rw [if_neg act]
    rw [still]
    exact ⟨Nat.le_succ _, fun _ => id, rfl⟩

/-- A frame of a kind that waits already (R162). -/
theorem offer_posts_again {s : State} {k : FrameKind} (c : Fin 4) (kind : coalescing k = true) (waits : s.waits k = true) :
    Posts 0 s (s.offer k c) := by
  have again : coalesced ⟨k, c, s.clock, none⟩ s.comms.link.queue = true := Bool.and_eq_true_iff.mpr ⟨kind, waits⟩
  by_cases act : s.station.acting = true
  · obtain ⟨queue, -, alerts, -⟩ := offer_coalescedQueue act again
    exact .still (congrArg (·.list) alerts) queue
  · have still : s.offer k c = s := by
      unfold State.offer Comms.offer
      rw [if_neg act]
    rw [still]
    exact .refl s

/-- An ALERT has its place. -/
theorem offerAlert_posts (s : State) : Posts 0 s s.offerAlert := fun room => by
  by_cases act : s.station.acting = true
  · have queued := offerAlert_queued act (queueFree_of_load room)
    obtain ⟨-, waiting, waits⟩ := offer_loaded .alert (alertClass s.comms.alerts.list) act room
    have queue : s.offerAlert.comms.link.queue =
        if s.waits .alert then s.comms.link.queue else s.comms.link.queue ++ [_] := congrArg (·.comms.link.queue) queued
    refine ⟨?_, waits, queued.list⟩
    unfold State.load
    rw [show s.offerAlert.waits .alert = true from waiting, if_pos rfl, queue]
    split
    · exact le_rfl
    · rw [List.length_append]; exact le_rfl
  · have still : s.offerAlert = s := by
      unfold State.offerAlert State.offer Comms.offer
      rw [if_neg act]
    rw [still]
    exact Posts.refl s room

/-! ## A report of the class -/

theorem coupStandby_posts {s : State} (waits : s.waits .strain = true) : Posts 0 s s.coupStandby := by
  let t : State := { s with
    station := .standby, demand := s.demand.pause, coup := { s.coup.rest .idle with interval := none },
    conv := s.conv.restart s.clock (ms 1000) }
  have begun : Posts 0 s t := .still rfl rfl
  have offered : Posts 0 t t.offerStrain := offer_posts_again _ rfl waits
  exact begun.trans offered

theorem coupReturn_posts {s : State} (waits : s.waits .strain = true) : Posts 0 s s.coupReturn := by
  let t := State.restartRepeat { s with
    station := .active, demand := s.resumeDemand,
    coup := { s.coup with interval := startTimer s.clock (ms (s.param Param.strainInterval)) },
    conv := s.conv.restart s.clock (ms 50) }
  have begun : Posts 0 s t := .still rfl rfl
  have offered : Posts 0 t t.offerStrain := offer_posts_again _ rfl waits
  have judged : Posts 0 t.offerStrain s.coupReturn := (winchCauses_touches t.offerStrain).posts
  exact begun.trans (offered.trans judged)

theorem judgeCoupStandby_posts {s : State} (waits : s.waits .strain = true) : Posts 0 s s.judgeCoupStandby :=
  .whenever s _ (coupStandby_posts waits)

theorem standbyByClass_posts {s : State} (waits : s.waits .strain = true) : Posts 0 s s.standbyByClass :=
  .ite (coupReturn_posts waits) (judgeCoupStandby_posts waits)

/-- A station that may not send neither stands by nor returns. -/
theorem standbyByClass_silent {s : State} (off : s.station.acting = false) : s.standbyByClass = s := by
  unfold State.standbyByClass State.judgeCoupStandby State.whenever
  have active : (s.station == .active) = false := beq_eq_false_iff_ne.mpr fun h => by rw [h] at off; cases off
  have standby : (s.station == .standby) = false := beq_eq_false_iff_ne.mpr fun h => by rw [h] at off; cases off
  simp [active, standby]

theorem reportClass_posts (s : State) : Posts 1 s s.reportClass := fun room => by
  let t := s.offerStrain.judgeWinch
  have offered : Posts 1 s t := (offer_posts s _ _).trans (judgeWinch_touches _).posts
  have station : t.station = s.station :=
    ((judgeWinch_touches _).station (by decide)).trans ((offerStrain_touches s).station (by decide))
  show _ ∧ _
  cases act : s.station.acting with
  | false =>
    have still : s.reportClass = t := standbyByClass_silent (station ▸ act)
    rw [still]
    exact offered room
  | true =>
    have waits : t.waits .strain = true :=
      ((judgeWinch_touches _).waits .strain).trans (offer_loaded .strain s.strainClass act (by omega)).2.1
    exact (offered.trans (standbyByClass_posts waits)) room

/-! ## The answers (R70, R74, R88, R102, R111) -/

/-- What the answer to the end of a condition leaves: the code raised again or not present, and room for one frame
less. -/
structure Answered (c : AlertCode) (s t : State) : Prop where
  load : s.load ≤ 6 → t.load ≤ 7
  raised : s.load ≤ 6 → t.has c = true → t.comms.alerts.list = raiseList c s.comms.alerts.list

variable {c : AlertCode}

theorem Answered.still {s : State} (gone : s.has c = false) : Answered c s s :=
  ⟨fun room => room.trans (by decide), fun _ on => by rw [gone] at on; cases on⟩

/-- The answer followed by what changes neither the condition nor the list. -/
theorem Answered.then {s t u : State} {n : Nat} (h : Answered c s t) (le : s.load ≤ 6 → t.load + n ≤ 7) (posts : Posts n t u)
    (has : u.has c = t.has c) : Answered c s u :=
  ⟨fun room => (posts (le room)).1.trans (le room),
   fun room on => (posts (le room)).2.2.trans (h.raised room (has.symm.trans on))⟩

theorem Answered.touched {ps : List Part} {s t u : State} (h : Answered c s t) (touches : OnlyTouches ps t u)
    (a : Part.alerts ∉ ps := by decide) (l : Part.link ∉ ps := by decide) (p : Part.present ∉ ps := by decide) :
    Answered c s u :=
  h.then (n := 0) h.load (touches.posts a l) (touches.has p _)

theorem raise_answered {s : State} (d : AlertCode) (real : c ≠ .txLoss) (gone : s.has c = false) :
    Answered c s (s.raise d) := by
  refine ⟨fun room => (raise_loaded d (room.trans (by decide))).load.trans (room.trans (by decide)), fun room on => ?_⟩
  by_cases this : c = d
  · subst this
    exact (raise_raises s c).list (room.trans (by decide))
  · rw [raise_has_ne s this real, gone] at on
    cases on

theorem gearAnswer_answered {s : State} (real : c ≠ .txLoss) (gone : s.has c = false) : Answered c s s.gearAnswer := by
  unfold State.gearAnswer
  split
  · split
    · exact (Answered.still gone).touched (enterGear_touches s _)
    · exact raise_answered _ real gone
    · exact raise_answered _ real gone
    · exact raise_answered _ real gone
  · exact .still gone

theorem overspeedAnswer_answered {s : State} (real : c ≠ .txLoss) (gone : s.has c = false) :
    Answered c s s.overspeedAnswer := by
  unfold State.overspeedAnswer
  split
  · exact (raise_answered _ real gone).touched (refreshAvailability_touches _)
  · exact (Answered.still gone).touched (refreshAvailability_touches s)

theorem interlockAnswer_answered {s : State} (real : c ≠ .txLoss) (gone : s.has c = false) :
    Answered c s s.interlockAnswer := by
  unfold State.interlockAnswer
  split
  · exact raise_answered _ real gone
  · exact (Answered.still gone).then (n := 0) (fun room => room.trans (by decide)) .still rfl

theorem partedAnswer_answered {s : State} (gone : s.has .parted = false) : Answered .parted s s.partedAnswer := by
  unfold State.partedAnswer
  split
  · have raised : Answered .parted s (s.raise .parted) := raise_answered .parted (by decide) gone
    have load : s.load ≤ 6 → (s.raise .parted).markOnset.load + 1 ≤ 7 := fun room =>
      Nat.succ_le_succ (((markOnset_loaded _).load.trans (raise_loaded .parted (room.trans (by decide))).load).trans room)
    exact (raised.then (n := 0) raised.load (markOnset_posts _) rfl).then load (offer_posts _ _ _)
      (offerStrain_tells (cs := []) _ .parted (by decide) (by decide))
  · let u : State := { s with coup := { s.coup with partedLatch := false } }
    have told : (u.changeClass (s.classAfresh s.coup.filtered)).has .parted = false :=
      (changeClass_tells u _ .parted (by decide) (by decide)).trans gone
    refine ⟨fun room => ?_, fun _ on => by rw [told] at on; cases on⟩
    by_cases same : s.classAfresh s.coup.filtered = u.coup.cls
    · have still : u.changeClass (s.classAfresh s.coup.filtered) = u := if_pos same
      rw [still]
      exact room.trans (by decide)
    · rw [changeClass_eq same]
      have marked := (classMarked_loaded (s := u) (s.classAfresh s.coup.filtered) (room.trans (by decide))).load.trans room
      exact (reportClass_posts _ (Nat.succ_le_succ marked)).1.trans (Nat.succ_le_succ marked)

theorem answer_answered {s : State} (ends : endsByAck c = true) (gone : s.has c = false) : Answered c s (s.answer c) := by
  cases c with
  | gearInterlock => exact gearAnswer_answered (by decide) gone
  | gearTimeout => exact gearAnswer_answered (by decide) gone
  | overspeed => exact overspeedAnswer_answered (by decide) gone
  | rudderInterlock => exact interlockAnswer_answered (by decide) gone
  | parted => exact partedAnswer_answered gone
  | winchRun => exact (Answered.still gone).touched (unlockWinch_touches s)
  | configClamped => exact .still gone
  | _ => exact nomatch ends

/-- The end of a condition by acknowledgement. -/
theorem endCondition_answered (s : State) (ends : endsByAck c = true) : Answered c (s.without c) (s.endCondition c) := by
  have gone : (s.without c).has c = false := Tab.get_set_self _ _ _
  exact answer_answered ends gone

end Sys2Proof.Machine
end

section
/-! SUPPORT. An ACK's item at the entry it names (O23). -/

namespace Sys2Proof.Machine

-- As in Laws/Touches.lean: one theorem at a time.
set_option Elab.async false

/-! ## Which conditions an owner raises again (R74, R88, R102, R111) -/

theorem overspeedAnswer_has {s : State} (gone : s.has .overspeed = false) :
    s.overspeedAnswer.has .overspeed = s.overLimit := by
  unfold State.overspeedAnswer
  split
  next above => rw [above]; exact ((refreshAvailability_touches _).has (by decide) _).trans (raise_has_self s _)
  next below => rw [Bool.eq_false_iff.mpr below]; exact ((refreshAvailability_touches s).has (by decide) _).trans gone

theorem interlockAnswer_has {s : State} (gone : s.has .rudderInterlock = false) :
    s.interlockAnswer.has .rudderInterlock = (s.line 5 && s.line 6) := by
  unfold State.interlockAnswer
  split
  next both => rw [both]; exact raise_has_self s _
  next one => rw [Bool.eq_false_iff.mpr one]; exact gone

theorem partedAnswer_has {s : State} (gone : s.has .parted = false) : s.partedAnswer.has .parted = s.line 0 := by
  unfold State.partedAnswer
  split
  next on =>
    rw [on]
    exact (offerStrain_tells (cs := []) _ .parted (by decide) (by decide)).trans (raise_has_self s .parted)
  next off =>
    rw [Bool.eq_false_iff.mpr off]
    exact (changeClass_tells _ _ .parted (by decide) (by decide)).trans gone

theorem without_has (s : State) (c : AlertCode) : (s.without c).has c = false := Tab.get_set_self _ _ _

/-! ## The end of a condition by acknowledgement (R135) -/

variable {s : State} {c : AlertCode}

theorem endsByAck_real (ends : endsByAck c = true) : c ≠ .txLoss := by
  rintro rfl
  cases ends

theorem endByAck_eq (s : State) (c : AlertCode) : s.endByAck c = if (s.endCondition c).has c then s.endCondition c
    else (s.endCondition c).relist (removeEntry c (s.endCondition c).comms.alerts.list) := rfl

theorem endByAck_has (s : State) (ends : endsByAck c = true) : (s.endByAck c).has c = (s.endCondition c).has c := by
  rw [endByAck_eq]
  split
  · rfl
  · exact relist_tells (cs := []) _ _ c nofun (endsByAck_real ends)

theorem Relisted.list {l : List AlertEntry} {s t : State} (h : Relisted l s t) (room : s.load ≤ 7) :
    t.comms.alerts.list = l := h.2.2.resolve_right fun h => h.1 (queueFree_of_load room)

theorem relist_relists (l : List AlertEntry) (room : s.load ≤ 7) : (s.relist l).comms.alerts.list = l :=
  (relist_relisted s l).list room

theorem endByAck_removes (ends : endsByAck c = true) (room : s.load ≤ 6) (gone : (s.endByAck c).has c = false) :
    entryOf c (s.endByAck c).comms.alerts.list = none := by
  rw [endByAck_has s ends] at gone
  rw [endByAck_eq, gone]
  show entryOf c (State.relist _ _).comms.alerts.list = none
  rw [relist_relists _ ((endCondition_answered s ends).load room)]
  exact entryOf_removed c _

theorem endByAck_renews {e : AlertEntry} (ends : endsByAck c = true) (room : s.load ≤ 6) (on : (s.endByAck c).has c = true)
    (entry : entryOf c s.comms.alerts.list = some e) :
    entryOf c (s.endByAck c).comms.alerts.list = some { e with state := .activeUnack, occ := nextOcc e.occ } := by
  rw [endByAck_has s ends] at on
  rw [endByAck_eq, on, if_pos rfl, (endCondition_answered s ends).raised room on]
  exact entryOf_renewed entry

/-! ## One item -/

theorem ackItem_named {e : AlertEntry} (o : Byte) (entry : entryOf c s.comms.alerts.list = some e) :
    s.ackItem c o = if e.occ = o then s.ackEntry e else s.offerAlert := by
  unfold State.ackItem
  rw [entry]

theorem ackItem_stale {e : AlertEntry} {o : Byte} (entry : entryOf c s.comms.alerts.list = some e) (room : s.load ≤ 7)
    (stale : o ≠ e.occ) : entryOf c (s.ackItem c o).comms.alerts.list = some e ∧
      (s.station.acting = true → (s.ackItem c o).waits .alert = true) := by
  rw [ackItem_named o entry, if_neg (Ne.symm stale)]
  refine ⟨?_, fun act => (offer_loaded .alert _ act room).2.1⟩
  rw [(offerAlert_posts s room).2.2]
  exact entry

theorem ackItem_cleared {e : AlertEntry} (entry : entryOf c s.comms.alerts.list = some e) (room : s.load ≤ 7)
    (state : e.state = .clearedUnack) : entryOf c (s.ackItem c e.occ).comms.alerts.list = none := by
  rw [ackItem_named _ entry, if_pos rfl]
  unfold State.ackEntry
  rw [state, entryOf_code entry]
  show entryOf c (s.relist _).comms.alerts.list = none
  rw [relist_relists _ room]
  exact entryOf_removed c _

theorem ackItem_acked {e : AlertEntry} (entry : entryOf c s.comms.alerts.list = some e) (state : e.state = .activeAcked) :
    s.ackItem c e.occ = s := by
  rw [ackItem_named _ entry, if_pos rfl]
  unfold State.ackEntry
  rw [state]

theorem ackItem_marks {e : AlertEntry} (entry : entryOf c s.comms.alerts.list = some e) (room : s.load ≤ 7)
    (state : e.state = .activeUnack) (real : c ≠ .txLoss) (stays : endsByAck c = false ∨ s.station = .listenOnly) :
    entryOf c (s.ackItem c e.occ).comms.alerts.list = some { e with state := .activeAcked } ∧
      (s.ackItem c e.occ).has c = s.has c := by
  have stands : (endsByAck c && s.station != .listenOnly && s.station != .halted) = false := by
    rcases stays with h | h <;> rw [h] <;> simp
  rw [ackItem_named _ entry, if_pos rfl]
  unfold State.ackEntry
  rw [state, entryOf_code entry]
  dsimp only
  rw [stands]
  refine ⟨?_, relist_tells (cs := []) _ _ c nofun real⟩
  show entryOf c (s.relist _).comms.alerts.list = _
  rw [relist_relists _ room, entryOf_acked entry, ← entryOf_code entry]

theorem ackItem_ends {e : AlertEntry} (entry : entryOf c s.comms.alerts.list = some e)
    (state : e.state = .activeUnack) (ends : endsByAck c = true) (awake : s.station ≠ .listenOnly) (up : s.station ≠ .halted) :
    s.ackItem c e.occ = s.endByAck c := by
  rw [ackItem_named _ entry, if_pos rfl]
  unfold State.ackEntry
  rw [state, entryOf_code entry]
  dsimp only
  rw [ends, if_pos (by simp [awake, up])]

/-! ## The way of an ACK -/

theorem refreshStrain_rpm (s : State) : s.refreshStrain.gov.rpm = s.gov.rpm := by
  unfold State.refreshStrain
  split
  · dsimp only
    split
    · exact setDrive_rpm _ _ _
    · rfl
  · rfl

theorem tabled_rpm (s : State) (dt : Micros) (f : Frame) : ((s.heard dt).tabled f).gov.rpm = s.gov.rpm := by
  let v := (s.noted dt f).judgeSilent s.anySilentWorker
  have lagged : v.pruneLag.gov = s.gov :=
    ((pruneLag_touches v).gov (by decide)).trans (((judgeSilent_touches _ _).gov (by decide)).trans
      ((noted_touches s dt f).gov (by decide)))
  rw [tabled_eq]
  show v.pruneLag.refreshStrain.judgeWinch.gov.rpm = _
  rw [(judgeWinch_touches _).gov (by decide), refreshStrain_rpm, lagged]

theorem takeAck_one (s : State) (a : Addr) (i : AckItem) : s.takeAck a [i] =
    if s.demand.view.holder = some a ∧ i.station.toNat = s.address.val then s.ackItem i.code i.occ else s := by
  unfold State.takeAck State.whenever
  by_cases holder : s.demand.view.holder = some a
  · rw [beq_iff_eq.mpr holder, if_pos rfl]
    exact if_congr (and_iff_right holder).symm rfl rfl
  · rw [beq_eq_false_iff_ne.mpr holder]
    exact (if_neg fun h => holder h.1).symm

theorem tabled_has_kept (s : State) (dt : Micros) (f : Frame) {c : AlertCode} (error : c ≠ .rxError) (silent : c ≠ .peerSilent)
    (lag : c ≠ .stationLag) (loss : c ≠ .txLoss) : ((s.heard dt).tabled f).has c = s.has c := by
  rw [tabled_eq, tableChanged_tells _ _ c (fun m => lag (List.mem_singleton.mp m)) loss,
    judgeSilent_tells _ _ c (fun m => silent (List.mem_singleton.mp m)) loss]
  exact noted_has s dt f error loss

/-- The limit of the speed after an ACK's way to its unit. -/
theorem tabled_overLimit (s : State) (dt : Micros) (f : Frame) :
    ((s.heard dt).tabled f).overLimit = decide (s.param Param.maxSpeed * 11 / 10 < s.gov.rpm) := by
  unfold State.overLimit State.param
  rw [tabled_rpm, (tabled_touches s dt f).start (by decide)]
  rfl

/-- Which condition its owner raises again at its end (R74, R88, R102, R111). -/
theorem endByAck_raises (s : State) :
    (s.endByAck .overspeed).has .overspeed = s.overLimit ∧
    (s.endByAck .rudderInterlock).has .rudderInterlock = (s.line 5 && s.line 6) ∧
    (s.endByAck .parted).has .parted = s.line 0 ∧
    (s.endByAck .winchRun).has .winchRun = false ∧ (s.endByAck .configClamped).has .configClamped = false := by
  refine ⟨?_, ?_, ?_, ?_, ?_⟩ <;> rw [endByAck_has s rfl]
  · exact overspeedAnswer_has (without_has s .overspeed)
  · exact interlockAnswer_has (without_has s .rudderInterlock)
  · exact partedAnswer_has (without_has s .parted)
  · exact ((unlockWinch_touches (s.without .winchRun)).has (by decide) _).trans (without_has s .winchRun)
  · exact without_has s .configClamped

/-- Settles O23: the frame's way to the alert unit spares the entry, and the item then finds it as it stood. -/
theorem ackOfAnEntry : Obligations.AckOfAnEntry := by
  unfold Obligations.AckOfAnEntry
  intro s dt h it e admits occ inv few short entry error silent lag loss
  let f : Frame := ⟨h.start, h.source, .helm, 2, .ack [it]⟩
  have frame : frameOf (.ack dt h [it]) = some (dt, f) := rfl
  have ok : payloadOk f.payload = true := by
    show (true && (occOk it.occ && true)) = true
    rw [occ]
    rfl
  let u := (s.heard dt).tabled f
  let x := u.takeAck h.source [it]
  have touches := tabled_touches s dt f
  have begun : s.load ≤ 6 := (load_le s).trans (Nat.succ_le_succ short)
  obtain ⟨loaded, -, kept⟩ := tabled_spares s dt f error silent lag (begun.trans (by decide)) (by omega)
  have room : u.load ≤ 6 := loaded.trans begun
  have free : u.load ≤ 7 := room.trans (by decide)
  have listed : entryOf it.code u.comms.alerts.list = some e := kept.trans entry
  have has : u.has it.code = s.has it.code := tabled_has_kept s dt f error silent lag loss
  have station : u.station = s.station := touches.station (by decide)
  have lines : u.lines = s.lines := touches.lines (by decide)
  have winch : OnlyTouches [.coup] x (s.applied dt f) := judgeWinch_touches x
  have list : (s.applied dt f).comms.alerts.list = x.comms.alerts.list := congrArg (·.list) (winch.alerts (by decide))
  have told (c : AlertCode) : (s.applied dt f).has c = x.has c := winch.has (by decide) c
  have one : x = if s.demand.view.holder = some h.source ∧ it.station.toNat = s.address.val then u.ackItem it.code it.occ
      else u := by
    rw [← show u.demand = s.demand from touches.demand (by decide), ← show u.address = s.address from touches.address (by decide)]
    exact takeAck_one u h.source it
  refine ⟨s.applied dt f, exec_applied frame ok admits, applied_clock s dt f, fun other => ?_, fun holder own => ?_⟩
  · have still : x = u := one.trans (if_neg fun both => other.elim (· both.1) (· both.2))
    rw [list, told, still]
    exact ⟨listed, has⟩
  · have item : x = u.ackItem it.code it.occ := one.trans (if_pos ⟨holder, own⟩)
    rw [list, item]
    refine ⟨fun stale => ?_, fun same cleared => ?_, fun same acked => ?_, fun same unack stays => ?_,
      fun same unack ends awake => ?_⟩
    · obtain ⟨stands, alert⟩ := ackItem_stale listed free stale
      exact ⟨stands, fun act => (winch.waits .alert).trans (item ▸ alert (station ▸ act))⟩
    · rw [same]
      exact ackItem_cleared listed free cleared
    · rw [same, ackItem_acked listed acked]
      exact listed
    · have marks := ackItem_marks listed free unack loss (by rw [station]; exact stays.imp (by unfold endsByAck; simp_all) id)
      rw [told, item, same, ← has]
      exact marks
    · have latched : endsByAck it.code = true := by
        unfold endsByAck
        rcases ends with h | h <;> rw [h] <;> simp
      have ended : x = u.endByAck it.code := by
        rw [item, same]
        exact ackItem_ends listed unack latched (by rw [station]; exact awake)
          (by rw [station]; intro off; have taking := admits.2.1; rw [off] at taking; cases taking)
      obtain ⟨overspeed, interlock, parted, run, clamped⟩ := endByAck_raises u
      rw [← item, ended]
      simp only [told, ended]
      refine ⟨endByAck_removes latched room, fun on => ?_, fun code => ?_, fun code => ?_, fun code => ?_, fun code => ?_⟩
      · rw [endByAck_renews latched room on listed, ← unack]
        rfl
      · rw [code, overspeed, tabled_overLimit, decide_eq_true_eq]
      · rw [code, interlock, Bool.and_eq_true_iff]
        unfold State.line
        rw [lines]
      · rw [code, parted]
        unfold State.line
        rw [lines]
      · rcases code with h | h <;> rw [h]
        · exact run
        · exact clamped

end Sys2Proof.Machine
end

section
/-! SUPPORT. Acknowledgements that end no condition: the list once the entries of some codes are acknowledged. -/

namespace Sys2Proof.Machine

-- As in Laws/Touches.lean: one theorem at a time.
set_option Elab.async false

/-! ## A queue with room for an ALERT (R163) -/

/-- A change of the list can lose no frame: the ALERT waits already or the queue has a place for it. -/
def State.Roomy (s : State) : Prop := s.station.acting = true → s.load ≤ 8

theorem QueueFree.roomy {s : State} (h : s.QueueFree) : s.Roomy := fun _ => (load_le s).trans h

theorem Loaded.roomy {s t : State} (h : Loaded s t) (room : s.Roomy) (station : t.station = s.station) : t.Roomy :=
  fun act => h.load.trans (room (station ▸ act))

theorem setList_roomy {s : State} {m : Comms} (link : m.link = s.comms.link) (alerts : m.alerts = s.comms.alerts)
    (room : s.Roomy) (l : List AlertEntry) : m.setListLoses s.station s.clock l = false ∧
      (m.setList s.station s.clock l).link.queue = s.queueAfter l := by
  by_cases free : s.QueueFree
  · exact ⟨loses_of_free (by rw [link]; exact free), (setList_queue link alerts free l).1⟩
  · unfold Comms.setListLoses Comms.setList State.queueAfter
    rw [alerts, link]
    cases act : s.station.acting with
    | false =>
      refine ⟨by rw [Bool.and_false]; rfl, ?_⟩
      split
      · rw [link]
      · exact promoteAlert_eq l _
    | true =>
      have waits : s.waits .alert = true := by
        cases h : s.waits .alert with
        | true => rfl
        | false =>
          have load := room act
          unfold State.load at load
          rw [h] at load
          exact absurd (Nat.succ_le_succ_iff.mp load) (fun le => free (Nat.lt_succ_of_le le))
      have again : coalesced (alertFrame s.clock l) (promoteAlert l s.comms.link.queue) = true := by
        show (true && (promoteAlert l s.comms.link.queue).any (fun w => w.kind == .alert)) = true
        rw [promoteAlert_waits]
        exact waits
      refine ⟨?_, ?_⟩
      · unfold offerLoses
        rw [again]
        simp
      · split
        · rw [link]
        · show offerQueue _ _ = _
          rw [waits]
          exact (if_pos again).trans (promoteAlert_eq l _)

/-- A change of the list that loses no frame. -/
structure Relists (l : List AlertEntry) (s t : State) : Prop where
  list : t.comms.alerts.list = l
  present : t.comms.present = s.comms.present
  loaded : Loaded s t
  touches : OnlyTouches commsParts s t

theorem relist_roomy {s : State} (room : s.Roomy) (l : List AlertEntry) : Relists l s (s.relist l) := by
  obtain ⟨kept, queue⟩ := setList_roomy (m := s.comms) rfl rfl room l
  have eq : (s.relist l).comms = s.comms.setList s.station s.clock l := by
    show Comms.relist _ _ _ _ = _
    unfold Comms.relist
    rw [kept, afterLoss_false]
  exact ⟨by rw [eq]; exact setList_list _ _ _ _, by rw [eq]; exact setList_present _ _ _ _,
    queueAfter_loaded l (by rw [eq]; exact queue), relist_touches s l⟩

theorem raise_roomy {s : State} (room : s.Roomy) (c : AlertCode) :
    (s.raise c).comms.alerts.list = raiseList c s.comms.alerts.list ∧ Loaded s (s.raise c) := by
  obtain ⟨kept, queue⟩ := setList_roomy (m := s.comms) rfl rfl room (raiseList c s.comms.alerts.list)
  have eq : (s.raise c).comms = s.comms.raiseOnce s.station s.clock c := by
    show Comms.raise _ _ _ _ = _
    unfold Comms.raise
    rw [kept, afterLoss_false]
  exact ⟨by rw [eq]; exact raiseOnce_list _ _ _ _, queueAfter_loaded _ (by rw [eq]; exact queue)⟩

/-! ## Entries acknowledged (R135, R136, R137) -/

/-- What an acknowledgement that ends no condition makes of the entry of an acknowledged code. -/
def settleEntry (cs : List AlertCode) (e : AlertEntry) : Option AlertEntry :=
  if e.code ∈ cs then (if e.state = .clearedUnack then none else some { e with state := .activeAcked }) else some e

/-- The list once the entries of codes are acknowledged. -/
def settle (cs : List AlertCode) (l : List AlertEntry) : List AlertEntry := l.filterMap (settleEntry cs)

theorem settle_nil (l : List AlertEntry) : settle [] l = l := by
  unfold settle settleEntry
  simp

theorem settle_cons (c : AlertCode) (cs : List AlertCode) (l : List AlertEntry) :
    settle (c :: cs) l = settle cs (settle [c] l) := by
  unfold settle
  rw [List.filterMap_filterMap]
  refine List.filterMap_congr fun e _ => ?_
  unfold settleEntry
  by_cases this : e.code = c
  · by_cases cleared : e.state = .clearedUnack
    · simp [this, cleared]
    · by_cases again : c ∈ cs <;> simp [this, cleared, again]
  · simp [this]

theorem settleEntry_some {cs : List AlertCode} {e d : AlertEntry} (h : settleEntry cs e = some d) :
    d.code = e.code ∧ (d.state = .activeUnack → d = e) := by
  unfold settleEntry at h
  split at h
  · split at h
    · cases h
    · cases h
      exact ⟨rfl, nofun⟩
  · cases h
    exact ⟨rfl, fun _ => rfl⟩

/-- The codes of a list differ. -/
abbrev Distinct (l : List AlertEntry) : Prop := (l.map AlertEntry.code).Nodup

theorem settle_distinct {l : List AlertEntry} (cs : List AlertCode) (h : Distinct l) : Distinct (settle cs l) := by
  induction l with
  | nil => exact h
  | cons e l ih =>
    obtain ⟨new, rest⟩ := List.nodup_cons.mp h
    unfold settle
    rw [List.filterMap_cons]
    split
    · exact ih rest
    next d found =>
      refine List.nodup_cons.mpr ⟨fun m => new ?_, ih rest⟩
      obtain ⟨x, mem, code⟩ := List.mem_map.mp m
      obtain ⟨y, listed, made⟩ := List.mem_filterMap.mp mem
      exact List.mem_map.mpr ⟨y, listed, (settleEntry_some made).1.symm.trans (code.trans (settleEntry_some found).1)⟩

theorem entry_unique {l : List AlertEntry} {c : AlertCode} {e d : AlertEntry} (h : Distinct l) (entry : entryOf c l = some e)
    (mem : d ∈ l) (code : d.code = c) : d = e :=
  List.inj_on_of_nodup_map h mem (entryOf_mem entry) (code.trans (entryOf_code entry).symm)

theorem settle_absent {l : List AlertEntry} {c : AlertCode} (h : entryOf c l = none) : settle [c] l = l := by
  refine (List.filterMap_congr fun e m => ?_).trans List.filterMap_some
  exact if_neg fun mem => List.find?_eq_none.mp h e m (beq_iff_eq.mpr (List.mem_singleton.mp mem))

theorem settle_acked {l : List AlertEntry} {c : AlertCode} {e : AlertEntry} (h : Distinct l) (entry : entryOf c l = some e)
    (acked : e.state = .activeAcked) : settle [c] l = l := by
  refine (List.filterMap_congr fun d m => ?_).trans List.filterMap_some
  unfold settleEntry
  split
  next this =>
    rw [entry_unique h entry m (List.mem_singleton.mp this), acked, if_neg nofun, ← acked]
  · rfl

theorem settle_unack {l : List AlertEntry} {c : AlertCode} {e : AlertEntry} (h : Distinct l) (entry : entryOf c l = some e)
    (unack : e.state = .activeUnack) : settle [c] l = markAcked c l := by
  unfold markAcked
  rw [← List.filterMap_eq_map]
  refine List.filterMap_congr fun d m => ?_
  unfold settleEntry
  by_cases this : d.code = c
  · rw [entry_unique h entry m this, unack, if_pos (List.mem_singleton.mpr (entryOf_code entry)), if_neg nofun]
    show _ = some (if e.code == c then _ else e)
    rw [beq_iff_eq.mpr (entryOf_code entry)]
    rfl
  · rw [if_neg fun mem => this (List.mem_singleton.mp mem)]
    show _ = some (if d.code == c then _ else d)
    rw [beq_eq_false_iff_ne.mpr this]
    rfl

theorem settle_cleared {l : List AlertEntry} {c : AlertCode} {e : AlertEntry} (h : Distinct l) (entry : entryOf c l = some e)
    (cleared : e.state = .clearedUnack) : settle [c] l = removeEntry c l := by
  unfold removeEntry
  rw [← List.filterMap_eq_filter]
  refine List.filterMap_congr fun d m => ?_
  unfold settleEntry
  by_cases this : d.code = c
  · rw [entry_unique h entry m this, cleared, if_pos (List.mem_singleton.mpr (entryOf_code entry)), if_pos rfl]
    simp [Option.guard, entryOf_code entry]
  · rw [if_neg fun mem => this (List.mem_singleton.mp mem)]
    simp [Option.guard, this]

/-- Every unacknowledged entry acknowledged. -/
theorem settle_all (l : List AlertEntry) : settle (unackCodes l) l =
    (l.filter (fun e => e.state != .clearedUnack)).map (fun e => { e with state := .activeAcked }) := by
  rw [← List.filterMap_eq_map, ← List.filterMap_eq_filter, List.filterMap_filterMap]
  refine List.filterMap_congr fun e m => ?_
  have named : isUnack e.state = true → e.code ∈ unackCodes l := fun u =>
    List.mem_map.mpr ⟨e, List.mem_filter.mpr ⟨m, u⟩, rfl⟩
  unfold settleEntry
  cases state : e.state with
  | activeAcked =>
    have same : ({ e with state := .activeAcked } : AlertEntry) = e := by rw [← state]
    split <;> simp [Option.guard, state, same]
  | activeUnack => simp [Option.guard, named (by rw [state]; rfl), state]
  | clearedUnack => simp [Option.guard, named (by rw [state]; rfl), state]

/-! ## Codes acknowledged one after another -/

/-- No unacknowledged entry is of a condition that its acknowledgement would end. -/
def State.Plain (s : State) : Prop := ∀ e ∈ s.comms.alerts.list, e.state = .activeUnack →
  (endsByAck e.code && s.station != .listenOnly && s.station != .halted) = false

theorem ackCode_settles {s : State} (c : AlertCode) (room : s.Roomy) (once : Distinct s.comms.alerts.list) (plain : s.Plain) :
    Relists (settle [c] s.comms.alerts.list) s (s.ackCode c) := by
  have still (same : settle [c] s.comms.alerts.list = s.comms.alerts.list) : Relists (settle [c] s.comms.alerts.list) s s :=
    ⟨same.symm, rfl, .refl s, .refl _ s⟩
  unfold State.ackCode
  split
  next none => exact still (settle_absent none)
  next e entry =>
    unfold State.ackEntry
    cases state : e.state with
    | activeAcked => exact still (settle_acked once entry state)
    | activeUnack =>
      show Relists _ s (if (endsByAck e.code && s.station != .listenOnly && s.station != .halted) = true then _ else s.relist _)
      rw [plain e (entryOf_mem entry) state, settle_unack once entry state, entryOf_code entry]
      exact relist_roomy room _
    | clearedUnack =>
      show Relists _ s (s.relist _)
      rw [settle_cleared once entry state, entryOf_code entry]
      exact relist_roomy room _

theorem ackCodes_settle (cs : List AlertCode) : ∀ {s : State}, s.Roomy → Distinct s.comms.alerts.list → s.Plain →
    Relists (settle cs s.comms.alerts.list) s (s.ackCodes cs) := by
  induction cs with
  | nil => exact fun {s} _ _ _ => ⟨(settle_nil _).symm, rfl, .refl s, .refl _ s⟩
  | cons c cs ih =>
    intro s room once plain
    have first := ackCode_settles c room once plain
    have station : (s.ackCode c).station = s.station := first.touches.station (by decide)
    have still : (s.ackCode c).Plain := fun d m unack => by
      rw [first.list] at m
      obtain ⟨e, mem, made⟩ := List.mem_filterMap.mp m
      have same := (settleEntry_some made).2 unack
      rw [station, same]
      exact plain e mem (same ▸ unack)
    have rest := ih (first.loaded.roomy room station) (by rw [first.list]; exact settle_distinct [c] once) still
    rw [first.list, ← settle_cons] at rest
    exact ⟨rest.list, rest.present.trans first.present, first.loaded.trans rest.loaded, first.touches.trans rest.touches⟩

end Sys2Proof.Machine
end

section
/-! SUPPORT. The local acknowledge input: what a press leaves of the list, of the view and of the rest, and the end of
the one condition that a station has. -/

namespace Sys2Proof.Machine

-- As in Laws/Touches.lean: one theorem at a time.
set_option Elab.async false

variable {s : State} {c : AlertCode}

/-! ## A press -/

/-- The station once a press has acknowledged its entries and ended what stood without one. -/
def State.pressed (s : State) : State :=
  let t := s.ackCodes (unackCodes s.comms.alerts.list)
  if s.station = .listenOnly || s.station = .halted then t else t.endEntryless (allAlertCodes.filter s.entryless)

theorem pressAck_eq (s : State) : s.pressAck = s.pressed.judgeWinch.requestView := rfl

theorem pressed_touches (s : State) : OnlyTouches answerParts s s.pressed :=
  (ackCodes_touches _ s).trans (.ite (.refl _ _) (endEntryless_touches _ _))

/-- No condition that stands alone is ended. -/
theorem pressed_listed (h : s.station = .listenOnly ∨ s.station = .halted ∨
    ∀ c, latchedCode c = true → s.has c = true → ∃ e ∈ s.comms.alerts.list, e.code = c) :
    s.pressed = s.ackCodes (unackCodes s.comms.alerts.list) := by
  unfold State.pressed
  by_cases stopped : s.station = .listenOnly ∨ s.station = .halted
  · exact if_pos (by simpa using stopped)
  · have none : allAlertCodes.filter s.entryless = [] := List.filter_eq_nil_iff.mpr fun c _ alone => by
      unfold State.entryless at alone
      rw [Bool.and_eq_true, Bool.and_eq_true, Option.isNone_iff_eq_none] at alone
      obtain ⟨⟨latched, on⟩, missing⟩ := alone
      obtain ⟨e, mem, code⟩ := (h.resolve_left fun h => stopped (.inl h)).resolve_left (fun h => stopped (.inr h)) c latched on
      exact List.find?_eq_none.mp missing e mem (beq_iff_eq.mpr code)
    dsimp only
    rw [if_neg (by simpa using stopped), none]
    rfl

theorem offer_leaves (k : FrameKind) (p : Fin 4) (room : s.station.acting = true → s.load ≤ 7) :
    (s.offer k p).comms.alerts.list = s.comms.alerts.list ∧ (s.offer k p).comms.present = s.comms.present := by
  by_cases act : s.station.acting = true
  · have queued := offer_queued k p act (queueFree_of_load (room act))
    exact ⟨queued.list, congrArg (·.comms.present) queued⟩
  · have still : s.offer k p = s := by
      unfold State.offer Comms.offer
      rw [if_neg act]
    rw [still]
    exact ⟨rfl, rfl⟩

theorem requestView_leaves (room : s.station.acting = true → s.load ≤ 7) :
    s.requestView.comms.alerts.list = s.comms.alerts.list ∧ s.requestView.comms.present = s.comms.present := by
  unfold State.requestView State.whenever
  split
  · dsimp only
    split
    · exact offer_leaves (s := { s with view := { s.view with items := requestItems s.view.items } }) .ack 2 room
    · exact ⟨rfl, rfl⟩
  · exact ⟨rfl, rfl⟩

/-- A press that ends no condition (R136, R137). -/
theorem pressAck_settles (once : Distinct s.comms.alerts.list) (plain : s.Plain) (room : s.station.acting = true → s.load ≤ 7)
    (listed : s.station = .listenOnly ∨ s.station = .halted ∨
      ∀ c, latchedCode c = true → s.has c = true → ∃ e ∈ s.comms.alerts.list, e.code = c) :
    s.pressAck.comms.alerts.list = (s.comms.alerts.list.filter (fun e => e.state != .clearedUnack)).map
      (fun e => { e with state := .activeAcked }) ∧ s.pressAck.comms.present = s.comms.present := by
  have settled := ackCodes_settle (unackCodes s.comms.alerts.list) (fun act => (room act).trans (by decide)) once plain
  rw [settle_all, ← pressed_listed listed] at settled
  have winch := judgeWinch_touches s.pressed
  have station : s.pressed.judgeWinch.station = s.station :=
    (winch.station (by decide)).trans (settled.touches.station (by decide))
  have load : s.pressed.judgeWinch.load ≤ s.load := ((winch.loaded).load).trans settled.loaded.load
  obtain ⟨list, present⟩ := requestView_leaves (s := s.pressed.judgeWinch) fun act => load.trans (room (station ▸ act))
  rw [pressAck_eq, list, present, winch.alerts (by decide), winch.present (by decide), settled.list, settled.present]
  exact ⟨rfl, rfl⟩

/-! ## A press at a HELM station (R145) -/

/-- The view with every unacknowledged item requested. -/
def State.requested (s : State) : State := { s with view := { s.view with items := requestItems s.view.items } }

theorem requestView_holding (helm : s.isHelm = true) (con : s.helm.con = .holding) :
    s.requestView = s.requested.whenever (s.view.items.any fun i => isUnack i.state) fun t => t.offer .ack 2 := by
  unfold State.requestView
  rw [whenever_pos (by rw [helm, con]; rfl)]
  rfl

theorem pressAck_view (helm : s.isHelm = true) (con : s.helm.con = .holding) :
    s.pressAck.view.items = requestItems s.view.items := by
  let w := s.pressed.judgeWinch
  have touches : OnlyTouches answerParts s w := (pressed_touches s).trans (judgeWinch_touches _).mono
  have offered : OnlyTouches commsParts w.requested w.requestView := by
    rw [requestView_holding ((isHelm_eq (touches.role (by decide))).trans helm) ((congrArg (·.con) (touches.helm (by decide))).trans con)]
    exact whenever_touches (f := fun t => t.offer .ack 2) w.requested _ (offer_touches _ _ _)
  rw [pressAck_eq, offered.view (by decide)]
  show requestItems w.view.items = _
  rw [touches.view (by decide)]

theorem requestItems_eq (l : List ViewItem) : requestItems l =
    l.map (fun it => if it.state = .activeAcked then it else { it with requested := true, sent := false }) := by
  refine List.map_congr_left fun it _ => ?_
  cases h : it.state <;> simp [isUnack]

/-- The acknowledgement of an entry of a code that is not latched tells no owner. -/
theorem ackCode_mute (s : State) (plain : latchedCode c = false) :
    OnlyTouches commsParts s (s.ackCode c) ∧ Grows 0 s (s.ackCode c) := by
  have relisted (t : State) (l : List AlertEntry) : OnlyTouches commsParts t (t.relist l) ∧ Grows 0 t (t.relist l) :=
    ⟨relist_touches t l, Loaded.grows fun room => (relist_roomy (fun _ => room.trans (by decide)) l).loaded⟩
  have still : OnlyTouches commsParts s s ∧ Grows 0 s s := ⟨.refl _ s, .refl s⟩
  unfold State.ackCode
  split
  · exact still
  next e entry =>
    split
    · unfold State.ackEntry
      split
      · rw [entryOf_code entry]
        split
        next ends =>
          have code : c = .configClamped := by
            rw [Bool.and_eq_true, Bool.and_eq_true] at ends
            exact beq_iff_eq.mp ((Bool.or_eq_true_iff.mp ends.1.1).resolve_left (by rw [plain]; exact nofun))
          subst code
          have ended : OnlyTouches commsParts s (s.without .configClamped) :=
            .of fun p => by cases p <;> first | exact .inl (by decide) | exact .inr rfl
          have eq : s.endByAck .configClamped = (s.without .configClamped).relist
              (removeEntry .configClamped s.comms.alerts.list) := if_neg (Bool.eq_false_iff.mp (without_has s .configClamped))
          rw [eq]
          obtain ⟨touches, grows⟩ := relisted (s.without .configClamped) (removeEntry .configClamped s.comms.alerts.list)
          have begun : Grows 0 s (s.without .configClamped) := fun _ => ⟨le_rfl, fun _ => id⟩
          exact ⟨ended.trans touches, begun.trans grows⟩
        · exact relisted s _
      · exact still
      · exact relisted s _
    · exact still

theorem ackCodes_mute (cs : List AlertCode) : ∀ s : State, (∀ c ∈ cs, latchedCode c = false) →
    OnlyTouches commsParts s (s.ackCodes cs) ∧ Grows 0 s (s.ackCodes cs) := by
  induction cs with
  | nil => exact fun s _ => ⟨.refl _ s, .refl s⟩
  | cons c cs ih =>
    intro s plain
    obtain ⟨touches, grows⟩ := ackCode_mute s (plain c List.mem_cons_self)
    obtain ⟨touches', grows'⟩ := ih (s.ackCode c) fun d m => plain d (List.mem_cons_of_mem c m)
    exact ⟨touches.trans touches', grows.trans grows'⟩

/-- A station that neither has a latched condition nor lists one. -/
def State.Unlatched (s : State) : Prop :=
  ∀ c, latchedCode c = true → s.has c = false ∧ ∀ e ∈ s.comms.alerts.list, e.code ≠ c

theorem pressed_mute (h : s.Unlatched) : OnlyTouches commsParts s s.pressed ∧ Grows 0 s s.pressed := by
  rw [pressed_listed (.inr (.inr fun c latched on => by rw [(h c latched).1] at on; cases on))]
  refine ackCodes_mute _ s fun c m => ?_
  obtain ⟨e, mem, code⟩ := List.mem_map.mp m
  cases latched : latchedCode c with
  | false => rfl
  | true => exact absurd code ((h c latched).2 e (List.mem_filter.mp mem).1)

theorem pressAck_helm (helm : s.isHelm = true) (h : s.Unlatched) :
    OnlyTouches [.present, .alerts, .link, .view] s s.pressAck ∧
      (s.helm.con = .holding → s.station.acting = true → s.load ≤ 7 → (∃ it ∈ s.view.items, it.state ≠ .activeAcked) →
        s.pressAck.waits .ack = true) := by
  obtain ⟨touches, grows⟩ := pressed_mute h
  have isHelm : s.pressed.isHelm = true := (isHelm_eq (touches.role (by decide))).trans helm
  rw [pressAck_eq, judgeWinch_other (notCoup_of_helm isHelm)]
  refine ⟨touches.mono.trans (requestView_touches _).mono, fun con act room ⟨it, mem, waiting⟩ => ?_⟩
  have any : (s.pressed.view.items.any fun i => isUnack i.state) = true := by
    rw [touches.view (by decide)]
    exact List.any_eq_true.mpr ⟨it, mem, (isUnack_iff_ne _).mpr waiting⟩
  rw [requestView_holding isHelm ((congrArg (·.con) (touches.helm (by decide))).trans con),
    whenever_pos (f := fun t => t.offer .ack 2) any]
  exact (offer_loaded (s := s.pressed.requested) .ack 2 ((congrArg StationState.acting (touches.station (by decide))).trans act)
    ((grows room).1.trans room)).2.1

end Sys2Proof.Machine
end

section
/-! SUPPORT. The one condition of a station ended by its acknowledgement: the owner's answer and what is left of the
list (O38). -/

namespace Sys2Proof.Machine

-- As in Laws/Touches.lean: one theorem at a time.
set_option Elab.async false

variable {s : State} {c : AlertCode} {occ : Byte}

/-- A station that has one condition, which is its one entry, unacknowledged. -/
structure Single (c : AlertCode) (occ : Byte) (s : State) : Prop where
  only : ∀ d, s.has d = true ↔ d = c
  list : s.comms.alerts.list = [{ code := c, state := .activeUnack, occ := occ }]

theorem Single.absent (h : Single c occ s) {d : AlertCode} (other : d ≠ c) : s.has d = false :=
  Bool.eq_false_iff.mpr fun on => other ((h.only d).mp on)

theorem Single.entry (h : Single c occ s) :
    entryOf c s.comms.alerts.list = some { code := c, state := .activeUnack, occ := occ } := by
  rw [h.list]
  exact List.find?_cons_of_pos (beq_self_eq_true c)

theorem ackCode_unack {e : AlertEntry} (entry : entryOf c s.comms.alerts.list = some e) (unack : e.state = .activeUnack) :
    s.ackCode c = if endsByAck e.code && s.station != .listenOnly && s.station != .halted then s.endByAck e.code
      else s.relist (markAcked e.code s.comms.alerts.list) := by
  unfold State.ackCode State.ackEntry
  rw [entry]
  dsimp only
  rw [unack]
  rfl

/-- The next occurrence of the one entry. -/
abbrev again (c : AlertCode) (occ : Byte) : List AlertEntry := [{ code := c, state := .activeUnack, occ := nextOcc occ }]

theorem raiseList_single (c : AlertCode) (occ : Byte) :
    raiseList c [{ code := c, state := .activeUnack, occ := occ }] = again c occ := by
  unfold raiseList
  simp

theorem raiseList_second {c d : AlertCode} (occ : Byte) (other : c ≠ d) :
    raiseList d [{ code := c, state := .activeUnack, occ := occ }] =
      [{ code := c, state := .activeUnack, occ := occ }, { code := d, state := .activeUnack, occ := 1 }] := by
  unfold raiseList appendEntry
  simp [other]

theorem removeEntry_single (c : AlertCode) (occ : Byte) :
    removeEntry c [{ code := c, state := .activeUnack, occ := occ }] = [] := by
  unfold removeEntry
  simp

theorem removeEntry_second {c d : AlertCode} (occ : Byte) (other : c ≠ d) :
    removeEntry c [{ code := c, state := .activeUnack, occ := occ }, { code := d, state := .activeUnack, occ := 1 }] =
      [{ code := d, state := .activeUnack, occ := 1 }] := by
  unfold removeEntry
  simp [Ne.symm other]

theorem awake_of_acting {st : StationState} (act : st.acting = true) : (st != .listenOnly && st != .halted) = true := by
  cases st <;> first | rfl | exact nomatch act

/-- A press where one condition stands is its end. -/
theorem Single.pressAck (h : Single c occ s) (ends : endsByAck c = true) (act : s.station.acting = true)
    (other : s.isHelm = false) : s.pressAck = (s.endByAck c).judgeWinch := by
  have pressed : s.pressed = s.endByAck c := by
    rw [pressed_listed (.inr (.inr fun d _ on =>
      ⟨_, by rw [h.list]; exact List.mem_singleton_self _, ((h.only d).mp on).symm⟩)), h.list]
    show s.ackCode c = _
    rw [ackCode_unack h.entry rfl]
    exact if_pos (by rw [Bool.and_assoc, ends]; exact awake_of_acting act)
  have quiet : (s.endByAck c).judgeWinch.isHelm = false := by
    rw [isHelm_eq ((judgeWinch_touches _).role (by decide)), isHelm_eq ((endByAck_touches s c).role (by decide))]
    exact other
  rw [pressAck_eq, pressed]
  refine whenever_neg ?_
  rw [quiet]
  rfl

/-- The code raised again by its owner. -/
theorem endByAck_stands (on : (s.endCondition c).has c = true) : s.endByAck c = s.endCondition c := if_pos on

/-- The entry leaves. -/
theorem endByAck_drops (off : (s.endCondition c).has c = false) (room : (s.endCondition c).Roomy) :
    Relists (removeEntry c (s.endCondition c).comms.alerts.list) (s.endCondition c) (s.endByAck c) := by
  rw [show s.endByAck c = _ from if_neg (Bool.eq_false_iff.mp off)]
  exact relist_roomy room _

theorem Relists.has {l : List AlertEntry} {s t : State} (h : Relists l s t) (d : AlertCode) : t.has d = s.has d := by
  unfold State.has Comms.has
  rw [h.present]

theorem without_roomy (room : s.Roomy) : (s.without c).Roomy := room

theorem without_touches (s : State) (c : AlertCode) : OnlyTouches [.present] s (s.without c) :=
  .of fun p => by cases p <;> first | exact .inl (by decide) | exact .inr rfl

theorem without_has_ne (s : State) {d : AlertCode} (other : d ≠ c) : (s.without c).has d = s.has d :=
  has_set_ne s.comms false other

/-! ## GEAR_INTERLOCK (R70) -/

/-- The feedbacks at the end of GEAR_INTERLOCK in GEAR_FAULT. -/
theorem gearAnswer_single (h : Single .gearInterlock occ s) (up : s.gear.supervised = true) (fault : s.gear.state = .gearFault) :
    (s.line 0 = false → s.line 1 = false → s.endCondition .gearInterlock = (s.without .gearInterlock).enterGear .neutral) ∧
    (s.line 0 = true → s.line 1 = true → s.endCondition .gearInterlock = (s.without .gearInterlock).raise .gearInterlock) ∧
    (s.line 0 ≠ s.line 1 → s.endCondition .gearInterlock = (s.without .gearInterlock).raise .gearTimeout) := by
  let u := s.without .gearInterlock
  have test : (u.gear.supervised && u.gear.state == .gearFault && !u.has .gearInterlock && !u.has .gearTimeout) = true := by
    rw [without_has, without_has_ne s (by decide), h.absent (by decide), show u.gear = s.gear from rfl, up, fault]
    rfl
  have lines (i : Fin 16) : u.line i = s.line i := rfl
  have answers : s.endCondition .gearInterlock = u.gearAnswer := rfl
  rw [answers]
  unfold State.gearAnswer
  rw [if_pos test, lines, lines]
  refine ⟨fun a b => by rw [a, b], fun a b => by rw [a, b], fun n => ?_⟩
  cases a : s.line 0 <;> cases b : s.line 1 <;> first | rfl | exact absurd (a.trans b.symm) n

theorem gearInterlock_pressed (h : Single .gearInterlock occ s) (up : s.gear.supervised = true) (fault : s.gear.state = .gearFault)
    (room : s.Roomy) :
    let t := s.endByAck .gearInterlock
    (s.line 0 = false → s.line 1 = false →
      t.gear.state = .neutral ∧ t.has .gearInterlock = false ∧ t.comms.alerts.list = []) ∧
    (s.line 0 = true → s.line 1 = true →
      t.gear = s.gear ∧ t.has .gearInterlock = true ∧ t.comms.alerts.list = again .gearInterlock occ) ∧
    (s.line 0 ≠ s.line 1 → t.gear = s.gear ∧ t.has .gearInterlock = false ∧ t.has .gearTimeout = true ∧
      t.comms.alerts.list = [{ code := .gearTimeout, state := .activeUnack, occ := 1 }]) := by
  let u := s.without .gearInterlock
  have gone : u.has .gearInterlock = false := without_has s _
  obtain ⟨neutral, both, one⟩ := gearAnswer_single h up fault
  intro t
  refine ⟨fun a b => ?_, fun a b => ?_, fun n => ?_⟩
  · have touches := enterGear_touches u .neutral
    have off : (u.enterGear .neutral).has .gearInterlock = false := (touches.has (by decide) _).trans gone
    have drops := endByAck_drops (s := s) (c := .gearInterlock)
    rw [neutral a b] at drops
    have dropped := drops off (touches.loaded.roomy (without_roomy room) (touches.station (by decide)))
    refine ⟨?_, (dropped.has _).trans off, ?_⟩
    · rw [dropped.touches.gear (by decide), enterGear_gear]
    · rw [dropped.list, touches.alerts (by decide)]
      show removeEntry _ s.comms.alerts.list = _
      rw [h.list]
      exact removeEntry_single _ _
  · have on : (s.endCondition .gearInterlock).has .gearInterlock = true := by
      rw [both a b]
      exact raise_has_self u _
    have stands : t = u.raise .gearInterlock := (endByAck_stands on).trans (both a b)
    rw [stands]
    refine ⟨(raise_touches u _).gear (by decide), raise_has_self u _, ?_⟩
    rw [(raise_roomy (without_roomy room) _).1]
    show raiseList _ s.comms.alerts.list = _
    rw [h.list]
    exact raiseList_single _ _
  · obtain ⟨list, loaded⟩ := raise_roomy (s := u) (without_roomy room) .gearTimeout
    have touches := raise_touches u .gearTimeout
    have off : (u.raise .gearTimeout).has .gearInterlock = false := (raise_has_ne u (by decide) (by decide)).trans gone
    have drops := endByAck_drops (s := s) (c := .gearInterlock)
    rw [one n] at drops
    have dropped := drops off (loaded.roomy (without_roomy room) (touches.station (by decide)))
    refine ⟨?_, (dropped.has _).trans off, (dropped.has _).trans (raise_has_self u _), ?_⟩
    · rw [dropped.touches.gear (by decide), touches.gear (by decide)]
      rfl
    · rw [dropped.list, list]
      show removeEntry _ (raiseList _ s.comms.alerts.list) = _
      rw [h.list, raiseList_second occ (by decide)]
      exact removeEntry_second occ (by decide)

/-! ## OVERSPEED (R50, R51, R74) -/

/-- The end of a condition, for an owner that only raises it again. -/
theorem endByAck_answered {b : Bool} (h : Single c occ s) (has : (s.endCondition c).has c = b)
    (list : (s.endCondition c).comms.alerts.list = if b then again c occ else s.comms.alerts.list)
    (room : (s.endCondition c).Roomy) : OnlyTouches commsParts (s.endCondition c) (s.endByAck c) ∧
      (∀ d, (s.endByAck c).has d = (s.endCondition c).has d) ∧
      (s.endByAck c).comms.alerts.list = if b then again c occ else [] := by
  cases b with
  | true =>
    rw [endByAck_stands has]
    exact ⟨.refl _ _, fun _ => rfl, list⟩
  | false =>
    have dropped := endByAck_drops has room
    refine ⟨dropped.touches, dropped.has, ?_⟩
    rw [dropped.list, list]
    show removeEntry c s.comms.alerts.list = []
    rw [h.list]
    exact removeEntry_single _ _

theorem overspeed_pressed (h : Single .overspeed occ s) (prop : s.isProp = true) (act : s.station.acting = true) (room : s.Roomy) :
    let t := s.endByAck .overspeed
    let factor := if s.overLimit = true ∨ s.gear.state = .gearFault ∨ s.line 2 = false then 0 else 1000
    t.thrust.factor = factor ∧ t.thrust.ahead = s.param Param.ratedThrust * factor / 1000 ∧
      t.thrust.astern = t.thrust.ahead * s.param Param.asternRatio / 1000 ∧
      (s.overLimit = true → t.thrust.x = 0) ∧ t.has .overspeed = s.overLimit ∧
      t.comms.alerts.list = if s.overLimit then again .overspeed occ else [] := by
  let u := s.without .overspeed
  let v := if u.overLimit then u.raise .overspeed else u
  have eq : s.endCondition .overspeed = v.refreshAvailability := by
    show u.overspeedAnswer = _
    unfold State.overspeedAnswer State.raiseAvail
    show _ = (if u.overLimit then u.raise .overspeed else u).refreshAvailability
    split <;> rfl
  have touches : OnlyTouches commsParts u v := .ite (raise_touches u _) (.refl _ u)
  have found := refreshAvailability_touches v
  have loaded : Loaded u v := by
    show Loaded u (if _ then _ else _)
    split
    · exact (raise_roomy (without_roomy room) _).2
    · exact .refl u
  have has : v.has .overspeed = s.overLimit := by
    show (if u.overLimit then _ else _ : State).has _ = u.overLimit
    split
    next above => rw [above]; exact raise_has_self u _
    next below => rw [Bool.eq_false_iff.mpr below]; exact without_has s _
  have list : v.comms.alerts.list = if s.overLimit then again .overspeed occ else s.comms.alerts.list := by
    show (if u.overLimit then _ else _ : State).comms.alerts.list = if u.overLimit then _ else _
    split
    · rw [(raise_roomy (without_roomy room) _).1]
      show raiseList _ s.comms.alerts.list = _
      rw [h.list]
      exact raiseList_single _ _
    · rfl
  have absent {d : AlertCode} (n : d ≠ .overspeed) (nt : d ≠ .txLoss) : v.has d = false := by
    show (if u.overLimit then _ else _ : State).has _ = _
    split
    · rw [raise_has_ne u n nt, without_has_ne s n, h.absent n]
    · rw [without_has_ne s n, h.absent n]
  have factor : v.factorNow = if s.overLimit = true ∨ s.gear.state = .gearFault ∨ s.line 2 = false then 0 else 1000 := by
    rw [factorNow_eq, has, absent (by decide) (by decide), absent (d := .shaftSignal) (by decide) (by decide),
      touches.gear (by decide), show v.line 2 = s.line 2 from congrArg (·.get 2) (touches.lines (by decide))]
    show (if s.gear.state = .gearFault ∨ _ then _ else _) = _
    simp [or_left_comm]
  have param (p : ParamSpec) : v.param p = s.param p := by
    unfold State.param
    rw [touches.start (by decide)]
    rfl
  obtain ⟨ended, told, after⟩ := endByAck_answered (b := s.overLimit) h (by rw [eq, found.has (by decide)]; exact has)
    (by rw [eq, found.alerts (by decide)]; exact list)
    (by rw [eq]; exact (loaded.trans found.loaded).roomy (without_roomy room) ((found.station (by decide)).trans (touches.station (by decide))))
  have refreshed := refreshAvailability_refreshed (s := v) ((isProp_eq (touches.role (by decide))).trans prop)
    (by rw [touches.station (by decide)]; exact taking_of_acting act)
  obtain ⟨newFactor, ahead, astern, x⟩ := refreshed
  rw [factor] at newFactor ahead
  rw [param] at ahead astern
  intro t factor'
  have thrust : t.thrust = v.refreshAvailability.thrust := (ended.thrust (by decide)).trans (by rw [eq])
  rw [thrust]
  refine ⟨newFactor, ahead, astern, fun above => ?_, ?_, after⟩
  · rw [if_pos (.inl above), Nat.mul_zero, Nat.zero_div] at ahead
    rw [x, astern, ahead, Nat.zero_mul, Nat.zero_div]
    exact withinAvailability_none _
  · rw [told, eq, found.has (by decide)]
    exact has

/-! ## RUDDER_INTERLOCK (R86, R88) -/

theorem rudderInterlock_pressed (h : Single .rudderInterlock occ s) (room : s.Roomy) :
    let t := s.endByAck .rudderInterlock
    t.has .rudderInterlock = (s.line 5 && s.line 6) ∧
      t.comms.alerts.list = (if s.line 5 && s.line 6 then again .rudderInterlock occ else []) ∧
      t.steer = if s.line 5 && s.line 6 then s.steer else SteeringUnit.released { s.steer with interlock := false } := by
  let u := s.without .rudderInterlock
  have eq : s.endCondition .rudderInterlock = if u.line 5 && u.line 6 then u.raise .rudderInterlock
      else { u with steer := SteeringUnit.released { u.steer with interlock := false } } := rfl
  have has : (s.endCondition .rudderInterlock).has .rudderInterlock = (s.line 5 && s.line 6) :=
    interlockAnswer_has (without_has s _)
  have list : (s.endCondition .rudderInterlock).comms.alerts.list =
      if s.line 5 && s.line 6 then again .rudderInterlock occ else s.comms.alerts.list := by
    rw [eq]
    show _ = if u.line 5 && u.line 6 then _ else _
    split
    · rw [(raise_roomy (without_roomy room) _).1]
      show raiseList _ s.comms.alerts.list = _
      rw [h.list]
      exact raiseList_single _ _
    · rfl
  have roomy : (s.endCondition .rudderInterlock).Roomy := by
    rw [eq]
    split
    · exact (raise_roomy (without_roomy room) _).2.roomy (without_roomy room) ((raise_touches u _).station (by decide))
    · exact room
  have steer : (s.endCondition .rudderInterlock).steer =
      if s.line 5 && s.line 6 then s.steer else SteeringUnit.released { s.steer with interlock := false } := by
    rw [eq]
    show _ = if u.line 5 && u.line 6 then _ else _
    split
    · exact (raise_touches u _).steer (by decide)
    · rfl
  obtain ⟨ended, told, after⟩ := endByAck_answered h has list roomy
  exact ⟨(told _).trans has, after, (ended.steer (by decide)).trans steer⟩

end Sys2Proof.Machine
end

section
/-! SUPPORT. The end of PARTED and of WINCH_RUN by acknowledgement (O38). -/

namespace Sys2Proof.Machine

-- As in Laws/Touches.lean: one theorem at a time.
set_option Elab.async false

variable {s : State} {occ : Byte}

/-! ## WINCH_RUN (R107, R111) -/

/-- A judgement of a winch that rests with its slack dwell as it stands changes nothing (R107). -/
theorem judgeWinch_settled (coup : s.isCoup = true) (act : s.station = .active) (idle : s.coup.winch = .idle)
    (timer : s.coup.dwellTimer = s.dwellFrom) : s.judgeWinch.coup = s.coup := by
  cases up : s.coup.supervised with
  | false =>
    have still : s.judgeWinch = s := whenever_neg (by rw [up, Bool.and_false])
    rw [still]
  | true =>
    have judged : s.judgeWinch = s.winchStep := whenever_pos (by rw [coup, act, up]; rfl)
    have found : s.dwellFrom = if s.dwellHolds = true then startTimer s.clock (sec (s.param Param.slackDwell)) else none :=
      if_congr ⟨fun h => (dwellHolds_iff s).mpr h.2, fun h => ⟨up, (dwellHolds_iff s).mp h⟩⟩ rfl rfl
    have rests : ¬ (decide (s.coup.winch = .heaving) && (!s.permit || aboveTaut s.coup.cls || s.has .tensionSignal)) = true := by
      rw [idle]
      exact nofun
    rw [judged]
    unfold State.winchStep
    dsimp only
    rw [if_neg rests]
    refine congrArg (fun d => ({ s.coup with dwellTimer := d } : CouplingUnit)) ?_
    rw [timer, found, idle]
    cases s.dwellHolds <;> rfl

/-- What the end of WINCH_RUN leaves. -/
structure WinchFreed (s t : State) : Prop where
  gone : t.has .winchRun = false
  list : t.comms.alerts.list = []
  aside : s.station = .standby → t.coup = s.coup
  locked : s.station = .active → s.coup.winch = .lockedOut → s.line 1 = true → t.coup.winch = .lockedOut
  freed : s.station = .active → s.coup.winch = .lockedOut → s.line 1 = false →
    t.coup = { s.coup.rest .idle with dwellTimer := s.dwellFrom }

theorem winchRun_pressed (h : Single .winchRun occ s) (coup : s.isCoup = true) (room : s.Roomy) :
    WinchFreed s (s.endByAck .winchRun).judgeWinch := by
  let u := s.without .winchRun
  have gone : u.has .winchRun = false := without_has s _
  have unlocked : OnlyTouches [.coup] u (s.endCondition .winchRun) := unlockWinch_touches u
  obtain ⟨ended, told, after⟩ := endByAck_answered (b := false) h ((unlocked.has (by decide) _).trans gone)
    (by rw [unlocked.alerts (by decide)]; rfl)
    (unlocked.loaded.roomy (without_roomy room) (unlocked.station (by decide)))
  let x := s.endByAck .winchRun
  have winch := judgeWinch_touches x
  have unit : x.coup = u.unlockWinch.coup := ended.coup (by decide)
  have station : x.station = s.station := (ended.station (by decide)).trans (unlocked.station (by decide))
  have role : x.role = s.role := (ended.role (by decide)).trans (unlocked.role (by decide))
  have coupX : x.isCoup = true := (isCoup_eq role).trans coup
  refine ⟨?_, ?_, fun away => ?_, fun act locked on => ?_, fun act locked off => ?_⟩
  · rw [winch.has (by decide), told, unlocked.has (by decide)]
    exact gone
  · rw [winch.alerts (by decide)]
    exact after
  · have out : s.station ≠ .active := by rw [away]; nofun
    have still : u.unlockWinch = u := unlockWinch_idle out
    have idle : x.judgeWinch = x := judgeWinch_idle (by rw [station]; exact out)
    rw [idle, unit, still]
    rfl
  · have still : u.unlockWinch = u := by
      rw [unlockWinch_rests (s := u) coup act, if_neg fun k => absurd (k.2.1 : s.line 1 = false) (by rw [on]; exact nofun)]
    have stands : x.coup.winch = .lockedOut := by
      rw [unit, still]
      exact locked
    unfold State.judgeWinch State.whenever
    split
    · rw [(winchStep_coup x).1, if_neg, stands]
      unfold State.heaveEnds
      rw [stands]
      exact nofun
    · exact stands
  · have rests : u.unlockWinch = { u with coup := { u.coup.rest .idle with dwellTimer := u.dwellFrom } } := by
      rw [unlockWinch_rests (s := u) coup act, if_pos ⟨locked, off, gone⟩]
    have dwell (v : State) (role : v.role = s.role) (address : v.address = s.address) (station : v.station = s.station)
        (start : v.start = s.start) (peers : v.peers = s.peers) (demand : v.demand = s.demand) (clock : v.clock = s.clock)
        (cls : v.coup.cls = s.coup.cls) (up : v.coup.supervised = s.coup.supervised)
        (has : v.has .tensionSignal = s.has .tensionSignal) : v.dwellFrom = s.dwellFrom := by
      have permit : v.permit = s.permit := permit_congr coup role address station (by rw [start]) (by rw [peers])
        (by rw [demand]) (by rw [demand]) cls
      unfold State.dwellFrom State.param
      rw [up, cls, permit, has, clock, start]
    have dwellU : u.dwellFrom = s.dwellFrom :=
      dwell u rfl rfl rfl rfl rfl rfl rfl rfl rfl (without_has_ne s (by decide))
    rw [rests, dwellU] at unit
    have dwellX : x.dwellFrom = s.dwellFrom := by
      have touches : OnlyTouches [.present, .alerts, .link, .coup] s x :=
        (without_touches s _).mono.trans (unlocked.mono.trans ended.mono)
      refine dwell x role (touches.address (by decide)) station (touches.start (by decide)) (touches.peers (by decide))
        (touches.demand (by decide)) (touches.clock (by decide)) (by rw [unit]; rfl) (by rw [unit]; rfl) ?_
      rw [told, unlocked.has (by decide)]
      exact without_has_ne s (by decide)
    rw [judgeWinch_settled coupX (station.trans act) (by rw [unit]; rfl) (by rw [unit, dwellX]), unit]
    rfl

/-! ## PARTED (R99, R102, R104, R196) -/

/-- The station after a report of the class in ACTIVE and STANDBY (R196). -/
theorem reportClass_station (coup : s.isCoup = true) (act : s.station.acting = true) :
    s.reportClass.station = if aboveTaut s.coup.cls then .active
      else if s.start.request = true then .standby else s.station := by
  let b := s.offerStrain.judgeWinch
  have winch : OnlyTouches [.coup] s.offerStrain b := judgeWinch_touches _
  have station : b.station = s.station := winch.station (by decide)
  have cls : b.coup.cls = s.coup.cls := congrArg (·.cls) (judgeWinch_only s.offerStrain)
  have start : b.start = s.start := winch.start (by decide)
  have role : b.isCoup = true := (isCoup_eq (winch.role (by decide))).trans coup
  cases high : aboveTaut s.coup.cls with
  | true =>
    cases state : s.station with
    | active => rw [reportClass_active state (.inr high), winch.station (by decide)]; exact state
    | standby => rw [reportClass_returns coup state high]; exact (coupReturn_active _).1
    | _ => rw [state] at act; exact nomatch act
  | false =>
    have judged : s.reportClass = b.judgeCoupStandby := if_neg (by rw [cls, high, Bool.and_false]; exact nofun)
    rw [judged]
    unfold State.judgeCoupStandby
    show _ = if s.start.request = true then StationState.standby else s.station
    by_cases enters : s.station = .active ∧ s.start.request = true
    · rw [whenever_pos (by rw [role, station, start, cls, high, enters.1, enters.2]; rfl), if_pos enters.2]
      exact (offerStrain_touches _).station (by decide)
    · rw [whenever_neg (by rw [role, station, start, cls, high]; simpa using fun h => enters ∘ And.intro h), station]
      split
      next asks =>
        cases state : s.station with
        | active => exact absurd ⟨state, asks⟩ enters
        | standby => rfl
        | _ => rw [state] at act; exact nomatch act
      · rfl

/-- The end of PARTED with the wire still broken: a new occurrence and a new onset (R102). -/
theorem parted_stands (h : Single .parted occ s) (act : s.station.acting = true) (room : s.load ≤ 6) (broken : s.line 0 = true) :
    let t := (s.endByAck .parted).judgeWinch
    t.waits .strain = true ∧ t.has .parted = true ∧ t.comms.alerts.list = again .parted occ ∧ t.coup.cls = s.coup.cls ∧
      t.coup.partedLatch = s.coup.partedLatch ∧ t.coup.onset = some s.clock ∧ t.station = s.station := by
  let u := s.without .parted
  let m := (u.raise .parted).markOnset
  have raised := raise_touches u .parted
  have roomU : u.load ≤ 7 := room.trans (by decide)
  have load : m.load ≤ 6 := (markOnset_loaded _).load.trans ((raise_loaded .parted roomU).load.trans room)
  have station : m.station = s.station := raised.station (by decide)
  have eq : s.endCondition .parted = m.offerStrain := if_pos (show u.line 0 = true from broken)
  have on : m.offerStrain.has .parted = true :=
    (offerStrain_tells (cs := []) m .parted (by decide) (by decide)).trans (raise_has_self u .parted)
  have stands : s.endByAck .parted = m.offerStrain := (endByAck_stands (by rw [eq]; exact on)).trans eq
  have coup : m.offerStrain.coup = { s.coup with onset := some s.clock } := by
    show ({ (u.raise .parted).coup with onset := some (u.raise .parted).clock } : CouplingUnit) = _
    rw [raised.coup (by decide), raised.clock (by decide)]
    rfl
  have winch := judgeWinch_touches m.offerStrain
  have kept := judgeWinch_only m.offerStrain
  have list : m.offerStrain.comms.alerts.list = again .parted occ := by
    refine (offer_posts m .strain m.strainClass (Nat.succ_le_succ load)).2.2.trans ?_
    refine (raise_roomy (s := u) (fun _ => roomU.trans (by decide)) .parted).1.trans ?_
    show raiseList _ s.comms.alerts.list = _
    rw [h.list]
    exact raiseList_single _ _
  rw [stands]
  refine ⟨?_, (winch.has (by decide) _).trans on, by rw [winch.alerts (by decide)]; exact list, ?_, ?_, ?_, ?_⟩
  · rw [winch.waits]
    exact (offer_loaded .strain m.strainClass (by rw [station]; exact act) (load.trans (by decide))).2.1
  · rw [kept, coup]
  · rw [kept, coup]
  · rw [kept, coup]
  · rw [winch.station (by decide)]
    exact ((offerStrain_touches m).station (by decide)).trans station

/-- What a change of the class from PARTED makes of the list. -/
theorem classMarked_list {c : StrainClass} (cls : s.coup.cls = .parted) (room : s.Roomy) :
    (∀ code, classCondition c = some code → s.has code = false →
      (s.classMarked c).comms.alerts.list = raiseList code s.comms.alerts.list) ∧
    (classCondition c = none → (s.classMarked c).comms.alerts.list = s.comms.alerts.list) := by
  let u : State := { s with coup := { s.coup with cls := c } }
  have eq : s.classMarked c = if c = .overload then (u.raiseClass c).markOnset else u.raiseClass c := by
    unfold State.classMarked
    rw [cls]
    rfl
  have list : (s.classMarked c).comms.alerts.list = (u.raiseClass c).comms.alerts.list := by
    rw [eq]
    split <;> rfl
  rw [list]
  unfold State.raiseClass
  refine ⟨fun code condition off => ?_, fun none => by rw [none]⟩
  rw [condition]
  have raises : u.raiseNew code = u.raise code := by
    unfold State.raiseNew
    rw [if_neg (by rw [show u.has code = false from off]; exact nofun)]
    rfl
  show (u.raiseNew code).comms.alerts.list = _
  rw [raises]
  exact (raise_roomy (s := u) room code).1

/-- What the end of PARTED leaves with the wire no longer broken. -/
structure PartedEnded (afresh : StrainClass) (s t : State) : Prop where
  waits : t.waits .strain = true
  gone : t.has .parted = false
  latch : t.coup.partedLatch = false
  cls : t.coup.cls = afresh
  raised : ∀ code, classCondition afresh = some code →
    t.has code = true ∧ t.comms.alerts.list = [{ code := code, state := .activeUnack, occ := 1 }]
  cleared : classCondition afresh = none → t.comms.alerts.list = []
  onset : t.coup.onset = if afresh = .overload then some s.clock else s.coup.onset
  station : t.station = if aboveTaut afresh then .active else if s.start.request = true then .standby else s.station

theorem classRisen_slack (s : State) (f : Nat) : s.classRisen f .slack ≠ .parted := by
  unfold State.classRisen
  dsimp only
  split
  · nofun
  · split
    · nofun
    · split <;> nofun

theorem classCondition_parted (c : StrainClass) : classCondition c ≠ some .parted := by
  cases c <;> nofun

theorem parted_ends (h : Single .parted occ s) (coup : s.isCoup = true) (act : s.station.acting = true) (room : s.load ≤ 6)
    (cls : s.coup.cls = .parted) (whole : s.line 0 = false) :
    PartedEnded (s.classRisen s.coup.filtered .slack) s (s.endByAck .parted).judgeWinch := by
  let u := s.without .parted
  let w : State := { u with coup := { u.coup with partedLatch := false } }
  let afresh := s.classRisen s.coup.filtered .slack
  have climbs : u.classAfresh u.coup.filtered = afresh := climb_eq s .slack s.coup.filtered
  have new : afresh ≠ w.coup.cls := by
    rw [show w.coup.cls = .parted from cls]
    exact classRisen_slack s _
  have eq : s.endCondition .parted = w.changeClass afresh := by
    refine (if_neg (show ¬ u.line 0 = true by rw [show u.line 0 = false from whole]; exact nofun)).trans ?_
    exact congrArg w.changeClass climbs
  have reported : w.changeClass afresh = (w.classMarked afresh).reportClass := changeClass_eq new
  have classes := changeClass_classes new
  have roomW : w.load ≤ 7 := room.trans (by decide)
  have marked : (w.classMarked afresh).load ≤ 6 := (classMarked_loaded afresh roomW).load.trans room
  obtain ⟨load, -, posted⟩ := reportClass_posts (w.classMarked afresh) (Nat.succ_le_succ marked)
  have off : (s.endCondition .parted).has .parted = false := by
    rw [eq]
    exact (changeClass_tells w afresh .parted (by decide) (by decide)).trans (without_has s _)
  have dropped := endByAck_drops off (by rw [eq, reported]; exact fun _ => load.trans (Nat.succ_le_succ (marked.trans (by decide))))
  rw [eq] at dropped
  have winch := judgeWinch_touches (s.endByAck .parted)
  have kept := judgeWinch_only (s.endByAck .parted)
  rw [dropped.touches.coup (by decide)] at kept
  obtain ⟨raises, none⟩ := classMarked_list (s := w) (c := afresh) cls (fun _ => roomW.trans (by decide))
  have list : (s.endByAck .parted).judgeWinch.comms.alerts.list = removeEntry .parted (w.classMarked afresh).comms.alerts.list := by
    rw [winch.alerts (by decide), dropped.list, reported, posted]
  refine ⟨?_, ?_, ?_, ?_, fun code condition => ?_, fun condition => ?_, ?_, ?_⟩
  · rw [winch.waits]
    exact dropped.loaded.waits _ (classes.waits act roomW)
  · rw [winch.has (by decide), dropped.has, ← eq]
    exact off
  · rw [kept, classes.coup]
  · rw [kept, classes.coup]
  · have other : AlertCode.parted ≠ code := fun e => classCondition_parted afresh (e ▸ condition)
    refine ⟨?_, ?_⟩
    · rw [winch.has (by decide), dropped.has]
      exact classes.raised code condition
    · rw [list, raises code condition ((without_has_ne s other.symm).trans (h.absent other.symm))]
      show removeEntry _ (raiseList _ s.comms.alerts.list) = _
      rw [h.list, raiseList_second occ other]
      exact removeEntry_second occ other
  · rw [list, none condition]
    show removeEntry _ s.comms.alerts.list = _
    rw [h.list]
    exact removeEntry_single _ _
  · rw [kept, classes.coup]
    rfl
  · have touches := classMarked_touches w afresh
    rw [winch.station (by decide), dropped.touches.station (by decide), reported,
      reportClass_station ((isCoup_eq (touches.role (by decide))).trans coup)
        ((congrArg StationState.acting (touches.station (by decide))).trans act),
      classMarked_coup, touches.start (by decide), touches.station (by decide)]
    rfl

end Sys2Proof.Machine
end

section
/-! SUPPORT. The local acknowledge input (O38). -/

namespace Sys2Proof.Machine

-- As in Laws/Touches.lean: one theorem at a time.
set_option Elab.async false

variable {s : State} {r : Role}

theorem ackChange_eq (role : s.role = some r) (on : Bool) : s.ackChange on =
    (s.setLine (ackLine r) on).whenever (!s.line (ackLine r) && on && s.station.joined) State.pressAck := by
  unfold State.ackChange
  rw [role]

/-- The station about to be acknowledged at its input. -/
def State.pressing (s : State) (dt : Micros) (r : Role) (on : Bool) : State := (s.advance dt).setLine (ackLine r) on

theorem pressing_touches (s : State) (dt : Micros) (r : Role) (on : Bool) :
    OnlyTouches [.clock, .lines] s (s.pressing dt r on) :=
  (advance_touches s dt).mono.trans (setLine_touches _ _ _).mono

theorem pressing_line (s : State) (dt : Micros) (on : Bool) {i : Fin 16} (n : i ≠ ackLine r) :
    (s.pressing dt r on).line i = s.line i := Tab.get_set_ne _ _ n

theorem exec_press {dt : Micros} {on : Bool} (role : s.role = some r)
    (presses : s.line (ackLine r) = false ∧ on = true ∧ s.station.joined = true) :
    exec (.acknowledgeInput dt on) s = .next (s.pressing dt r on).pressAck := by
  obtain ⟨off, rfl, joined⟩ := presses
  show Host.Outcome.next ((s.advance dt).ackChange true) = _
  rw [ackChange_eq (s := s.advance dt) role, whenever_pos]
  · rfl
  · show (!s.line (ackLine r) && true && s.station.joined) = true
    rw [off, joined]
    rfl

theorem exec_noPress {dt : Micros} {on : Bool} (role : s.role = some r)
    (n : ¬ (s.line (ackLine r) = false ∧ on = true ∧ s.station.joined = true)) :
    exec (.acknowledgeInput dt on) s = .next (s.pressing dt r on) := by
  show Host.Outcome.next ((s.advance dt).ackChange on) = _
  rw [ackChange_eq (s := s.advance dt) role, whenever_neg]
  · rfl
  · rw [Bool.eq_false_iff]
    intro h
    simp only [Bool.and_eq_true, Bool.not_eq_true'] at h
    exact n ⟨h.1.1, h.1.2, h.2⟩

theorem plain_of_stopped (h : s.station = .listenOnly ∨ s.station = .halted) : s.Plain := fun e _ _ => by
  rcases h with h | h <;> rw [h] <;> simp

theorem plain_of_unlatched (h : ∀ e ∈ s.comms.alerts.list, e.state = .activeUnack →
    latchedCode e.code = false ∧ e.code ≠ .configClamped) : s.Plain := fun e m unack => by
  obtain ⟨latched, other⟩ := h e m unack
  unfold endsByAck
  rw [latched, beq_eq_false_iff_ne.mpr other]
  rfl

theorem notActing_of_stopped (h : s.station = .listenOnly ∨ s.station = .halted) : ¬ s.station.acting = true := by
  rcases h with h | h <;> rw [h] <;> nofun

theorem ended_notCoup (c : AlertCode) (other : s.isCoup = false) : (s.endByAck c).isCoup = false :=
  (isCoup_eq ((endByAck_touches s c).role (by decide))).trans other

/-- Settles O38: a press is the acknowledgement of the entries in list order, and where one condition stands its end. -/
theorem localAcknowledgement : Obligations.LocalAcknowledgement := by
  unfold Obligations.LocalAcknowledgement
  intro acked again' s dt on r role i presses noLatched
  have line : i = ackLine r := by cases r <;> rfl
  let u := s.pressing dt r on
  have begun := pressing_touches s dt r on
  by_cases press : presses
  · have pressed : s.line (ackLine r) = false ∧ on = true ∧ s.station.joined = true := line ▸ press
    have touches := pressAck_touches u
    refine ⟨u.pressAck, exec_press role pressed, (touches.clock (by decide)).trans rfl,
      (touches.lines (by decide)).trans (by rw [line]; rfl), fun n => absurd press n, fun _ inv stopped => ?_,
      fun _ inv act short plain listed => ?_, fun _ prop act free up fault only occ list => ?_,
      fun _ prop act free only occ list => ?_, fun _ prop act free only occ list => ?_,
      fun _ coup act short cls only occ list => ?_, fun _ coup act free only occ list => ?_, fun _ helm con => ?_,
      fun helm none => ?_, ?_⟩
    · exact pressAck_settles inv.2 (plain_of_stopped stopped) (fun act => absurd act (notActing_of_stopped stopped))
        (stopped.imp id .inl)
    · have load : s.load ≤ 7 := (load_le s).trans (Nat.succ_le_succ short)
      exact pressAck_settles inv.2 (plain_of_unlatched plain) (fun _ => load) (.inr (.inr listed))
    · subst prop
      have prop : u.isProp = true := (isProp_iff u).mpr role
      have single : Single .gearInterlock occ u := ⟨only, list⟩
      rw [single.pressAck rfl act (isHelm_of_prop prop), judgeWinch_other (ended_notCoup _ (notCoup_of_prop prop))]
      obtain ⟨neutral, both, one⟩ := gearInterlock_pressed single up fault (QueueFree.roomy free)
      rw [pressing_line s dt on (by decide), pressing_line s dt on (by decide)] at neutral both one
      exact ⟨neutral, both, one⟩
    · subst prop
      have prop : u.isProp = true := (isProp_iff u).mpr role
      have single : Single .overspeed occ u := ⟨only, list⟩
      rw [single.pressAck rfl act (isHelm_of_prop prop), judgeWinch_other (ended_notCoup _ (notCoup_of_prop prop))]
      intro above factor
      have limit : u.overLimit = decide above := rfl
      obtain ⟨newFactor, ahead, astern, x, has, after⟩ := overspeed_pressed single prop act (QueueFree.roomy free)
      have same : (if u.overLimit = true ∨ u.gear.state = .gearFault ∨ u.line 2 = false then 0 else 1000) = factor :=
        if_congr (or_congr decide_eq_true_iff (by rw [pressing_line s dt on (by decide)]; rfl)) rfl rfl
      rw [same] at newFactor ahead
      rw [limit] at x has after
      refine ⟨newFactor, ahead, astern, fun h => ⟨?_, x (decide_eq_true h), ?_⟩, fun h => ⟨?_, ?_⟩⟩
      · rw [has]; exact decide_eq_true h
      · rw [after, decide_eq_true h]; rfl
      · rw [has]; exact decide_eq_false h
      · rw [after, decide_eq_false h]; rfl
    · subst prop
      have prop : u.isProp = true := (isProp_iff u).mpr role
      have single : Single .rudderInterlock occ u := ⟨only, list⟩
      rw [single.pressAck rfl act (isHelm_of_prop prop), judgeWinch_other (ended_notCoup _ (notCoup_of_prop prop))]
      obtain ⟨has, after, steer⟩ := rudderInterlock_pressed single (QueueFree.roomy free)
      rw [pressing_line s dt on (by decide), pressing_line s dt on (by decide)] at has after steer
      intro both
      refine ⟨fun h => ?_, fun h => ?_⟩
      · have sensed : (s.line 5 && s.line 6) = true := Bool.and_eq_true_iff.mpr h
        rw [has, after, steer, sensed]
        exact ⟨rfl, rfl, rfl⟩
      · have sensed : (s.line 5 && s.line 6) = false := Bool.eq_false_iff.mpr fun k => h (Bool.and_eq_true_iff.mp k)
        rw [has, after, steer, sensed]
        refine ⟨rfl, rfl, ?_⟩
        show SteeringUnit.released { s.steer with interlock := false } = _
        unfold SteeringUnit.released
        simp
    · subst coup
      have coup : u.isCoup = true := (isCoup_iff u).mpr role
      have single : Single .parted occ u := ⟨only, list⟩
      have load : u.load ≤ 6 := (load_le s).trans (Nat.succ_le_succ short)
      rw [single.pressAck rfl act (isHelm_of_coup coup)]
      intro afresh
      cases broken : s.line 0 with
      | true =>
        obtain ⟨waits, has, after, kept, latch, onset, station⟩ :=
          parted_stands single act load ((pressing_line s dt on (by decide)).trans broken)
        exact ⟨waits, fun _ => ⟨has, after, kept.trans cls, latch, onset, station⟩, nofun⟩
      | false =>
        have ended : PartedEnded afresh u _ := parted_ends single coup act load cls ((pressing_line s dt on (by decide)).trans broken)
        refine ⟨ended.waits, nofun, fun _ => ⟨ended.gone, ended.latch, ended.cls, fun high => ?_, fun overload => ?_, fun under => ?_,
          fun low => ?_, fun strained => ?_⟩⟩
        · obtain ⟨has, after⟩ := ended.raised .strainHigh (by rw [high]; rfl)
          exact ⟨has, after⟩
        · obtain ⟨has, after⟩ := ended.raised .overload (by rw [overload]; rfl)
          exact ⟨has, ended.onset.trans (if_pos overload), after⟩
        · exact ended.onset.trans (if_neg under)
        · refine ⟨ended.cleared ?_, ended.station.trans ?_⟩ <;> rcases low with h | h <;> rw [h] <;> rfl
        · refine ended.station.trans ?_
          rcases strained with h | h <;> rw [h] <;> rfl
    · subst coup
      have coup : u.isCoup = true := (isCoup_iff u).mpr role
      have single : Single .winchRun occ u := ⟨only, list⟩
      rw [single.pressAck rfl act (isHelm_of_coup coup)]
      have freed := winchRun_pressed single coup (QueueFree.roomy free)
      intro dwells
      refine ⟨freed.gone, freed.list, freed.aside, fun active locked input =>
        freed.locked active locked ((pressing_line s dt on (by decide)).trans input), fun active locked input => ?_⟩
      rw [freed.freed active locked ((pressing_line s dt on (by decide)).trans input)]
      rw [dwellFrom_congr (s := s) coup rfl, if_congr (Q := dwells) ?_ rfl rfl]
      · rfl
      · rw [show s.has .tensionSignal = false from single.absent (by decide)]
        exact ⟨fun ⟨up, cls, permit, _⟩ => ⟨up, cls, permit⟩, fun ⟨up, cls, permit⟩ => ⟨up, cls, permit, rfl⟩⟩
    · subst helm
      have helm : u.isHelm = true := (isHelm_iff u).mpr role
      refine ⟨(pressAck_view helm con).trans (requestItems_eq _), fun none act short waiting => ?_⟩
      exact (pressAck_helm helm none).2 con act ((load_le u).trans (Nat.succ_le_succ short)) waiting
    · subst helm
      have helm : u.isHelm = true := (isHelm_iff u).mpr role
      exact (begun.mono (qs := [.clock, .lines, .present, .alerts, .link, .view])).trans (pressAck_helm helm none).1.mono
    · exact begun.mono.trans touches.mono
  · have still : ¬ (s.line (ackLine r) = false ∧ on = true ∧ s.station.joined = true) := line ▸ press
    exact ⟨u, exec_noPress role still, rfl, by rw [line]; rfl, fun _ => begun, fun h => absurd h press, fun h => absurd h press,
      fun h => absurd h press, fun h => absurd h press, fun h => absurd h press, fun h => absurd h press, fun h => absurd h press,
      fun h => absurd h press, fun _ _ => begun.mono, begun.mono⟩

end Sys2Proof.Machine
end

section
/-! SUPPORT. Bits and bytes on the link: the check over its own residue, bytes gathered from their bits, the fields of
several bytes and the codes, each with its way back (O24). -/

namespace Sys2Proof.Machine

-- As in Laws/Touches.lean: one theorem at a time.
set_option Elab.async false

/-! ## The check engine (R149) -/

theorem crcBits_append (l m : List Bool) : ∀ r : Word, crcBits r (l ++ m) = crcBits (crcBits r l) m := by
  induction l with
  | nil => exact fun _ => rfl
  | cons b l ih => exact fun r => ih (crcStep r b)

/-- A step over the residue's own top bit only shifts it. -/
theorem crcStep_msb (r : Word) : crcStep r r.msb = r <<< 1 := by
  unfold crcStep
  rw [Bool.xor_self]
  rfl

/-- The residue after its own leading bits. -/
theorem crcBits_leading (r : Word) (n : Nat) : crcBits r ((List.range n).map r.getMsbD) = r <<< n := by
  induction n with
  | zero => exact (BitVec.shiftLeft_zero r).symm
  | succ n ih =>
    rw [List.range_succ, List.map_append, crcBits_append, ih]
    have top : r.getMsbD n = (r <<< n).msb := by
      rw [BitVec.msb_eq_getMsbD_zero, BitVec.getMsbD_shiftLeft, Nat.zero_add]
    show crcStep (r <<< n) (r.getMsbD n) = _
    rw [top, crcStep_msb, BitVec.shiftLeft_add]

theorem wordBits_eq (w : Word) : wordBits w = (List.range 16).map w.getMsbD := by
  have high (i : Nat) (h : i < 8) : (BitVec.ofNat 8 (w.toNat / 256)).getLsbD i = w.getLsbD (8 + i) := by
    rw [BitVec.getLsbD_ofNat, decide_eq_true h, Bool.true_and]
    exact (Nat.testBit_div_two_pow (n := 8) w.toNat i).trans (by rw [Nat.add_comm]; rfl)
  have low (i : Nat) (h : i < 8) : (BitVec.ofNat 8 (w.toNat % 256)).getLsbD i = w.getLsbD i := by
    rw [BitVec.getLsbD_ofNat, decide_eq_true h, Bool.true_and]
    exact (Nat.testBit_mod_two_pow w.toNat 8 i).trans (by rw [decide_eq_true h]; rfl)
  unfold wordBits byteBits
  rw [high 7, high 6, high 5, high 4, high 3, high 2, high 1, high 0, low 7, low 6, low 5, low 4, low 3, low 2, low 1, low 0] <;>
    first | rfl | decide

/-- A residue followed by itself is 0. -/
theorem crcBits_self (r : Word) : crcBits r (wordBits r) = 0 := by
  rw [wordBits_eq, crcBits_leading]
  exact BitVec.shiftLeft_eq_zero le_rfl

/-! ## Bytes from bits (R147) -/

theorem byteOfBits_byteBits : ∀ b : Byte, byteOfBits (b.getLsbD 7) (b.getLsbD 6) (b.getLsbD 5) (b.getLsbD 4) (b.getLsbD 3)
    (b.getLsbD 2) (b.getLsbD 1) (b.getLsbD 0) = b := by
  decide

theorem gatherBytes_bytesBits (bs : List Byte) : gatherBytes (bytesBits bs) = some bs := by
  induction bs with
  | nil => rfl
  | cons b bs ih =>
    show (gatherBytes (bytesBits bs)).map _ = _
    rw [ih, byteOfBits_byteBits]
    rfl

theorem bytesBits_append (l m : List Byte) : bytesBits (l ++ m) = bytesBits l ++ bytesBits m := by
  induction l with
  | nil => rfl
  | cons b l ih =>
    show byteBits b ++ bytesBits (l ++ m) = _
    rw [ih, ← List.append_assoc]
    rfl

theorem bytesBits_length (bs : List Byte) : (bytesBits bs).length = 8 * bs.length := by
  induction bs with
  | nil => rfl
  | cons b bs ih =>
    show (byteBits b ++ bytesBits bs).length = 8 * (bs.length + 1)
    rw [List.length_append, ih]
    show 8 + _ = _
    omega

/-! ## Fields (R152) -/

theorem of16_be16 (w : BitVec 16) : of16 (w.extractLsb' 8 8) (w.extractLsb' 0 8) = w :=
  BitVec.extractLsb'_append_extractLsb' (w := 8) (len := 8)

theorem of32_be32 (w : BitVec 32) :
    of32 (w.extractLsb' 24 8) (w.extractLsb' 16 8) (w.extractLsb' 8 8) (w.extractLsb' 0 8) = w := by
  have first : w.extractLsb' 24 8 ++ w.extractLsb' 16 8 = w.extractLsb' 16 (8 + 8) :=
    BitVec.extractLsb'_append_extractLsb'_eq_extractLsb' rfl
  have second : w.extractLsb' 16 (8 + 8) ++ w.extractLsb' 8 8 = w.extractLsb' 8 (8 + 8 + 8) :=
    BitVec.extractLsb'_append_extractLsb'_eq_extractLsb' rfl
  unfold of32
  rw [first, second]
  exact BitVec.extractLsb'_append_extractLsb' (w := 24) (len := 8)

theorem of40_be40 (w : BitVec 40) : of40 (w.extractLsb' 32 8) (w.extractLsb' 24 8) (w.extractLsb' 16 8) (w.extractLsb' 8 8)
    (w.extractLsb' 0 8) = w := by
  have first : w.extractLsb' 32 8 ++ w.extractLsb' 24 8 = w.extractLsb' 24 (8 + 8) :=
    BitVec.extractLsb'_append_extractLsb'_eq_extractLsb' rfl
  have second : w.extractLsb' 24 (8 + 8) ++ w.extractLsb' 16 8 = w.extractLsb' 16 (8 + 8 + 8) :=
    BitVec.extractLsb'_append_extractLsb'_eq_extractLsb' rfl
  have third : w.extractLsb' 16 (8 + 8 + 8) ++ w.extractLsb' 8 8 = w.extractLsb' 8 (8 + 8 + 8 + 8) :=
    BitVec.extractLsb'_append_extractLsb'_eq_extractLsb' rfl
  unfold of40
  rw [first, second, third]
  exact BitVec.extractLsb'_append_extractLsb' (w := 32) (len := 8)

theorem flagsByte_bits : ∀ a b c d : Bool, (flagsByte a b c d).getLsbD 0 = a ∧ (flagsByte a b c d).getLsbD 1 = b ∧
    (flagsByte a b c d).getLsbD 2 = c ∧ (flagsByte a b c d).getLsbD 3 = d := by
  decide

theorem of4_get {α : Type} (t : Tab 4 α) : Tab.of4 (t.get 0) (t.get 1) (t.get 2) (t.get 3) = t := by
  obtain ⟨cells, size⟩ := t
  match cells, size with
  | [_, _, _, _], _ => rfl

/-! ## Codes (R151, R153 to R155) -/

theorem modeOfCode_code (m : SteeringMode) : modeOfCode (byteOf (modeCode m)).toNat = some m := by cases m <;> rfl

theorem actionOfCode_code (a : ConAction) : actionOfCode (byteOf (actionCode a)).toNat = some a := by cases a <;> rfl

theorem gearOfCode_code (g : GearState) : gearOfCode (byteOf (gearCode g)).toNat = some g := by cases g <;> rfl

theorem sideOfCode_code (x : Side) : sideOfCode (byteOf (sideCode x)).toNat = some x := by cases x <;> rfl

theorem rudderOfCode_code (x : RudderType) : rudderOfCode (byteOf (rudderCode x)).toNat = some x := by cases x <;> rfl

theorem classOfCode_code (c : StrainClass) : classOfCode (byteOf (classCode c)).toNat = some c := by cases c <;> rfl

theorem winchOfCode_code (w : WinchState) : winchOfCode (byteOf (winchCode w)).toNat = some w := by cases w <;> rfl

theorem entryStateOfCode_code (e : EntryState) : entryStateOfCode (byteOf (entryStateCode e)).toNat = some e := by
  cases e <;> rfl

theorem alertOfNumber_number (c : AlertCode) : alertOfNumber (byteOf (alertNumber c)).toNat = some c := by cases c <;> rfl

theorem kindOfCode_code (k : FrameKind) : kindOfCode (kindCode k) = some k := by cases k <;> rfl

theorem roleOfCode_code (r : Role) : roleOfCode (roleCode r) = some r := by cases r <;> rfl

theorem kindCode_lt (k : FrameKind) : kindCode k < 16 := by cases k <;> decide

theorem roleCode_le (r : Role) : roleCode r ≤ 3 := by cases r <;> decide

theorem byteOf_toNat {n : Nat} (h : n < 256) : (byteOf n).toNat = n := Nat.mod_eq_of_lt h

end Sys2Proof.Machine
end

section
/-! SUPPORT. Payloads as bytes and back, and frames as bits and back (O24). -/

namespace Sys2Proof.Machine

-- As in Laws/Touches.lean: one theorem at a time.
set_option Elab.async false

/-! ## Items (R155, R156) -/

theorem parseAlertItems_bytes (its : List AlertItem) (ok : its.all (fun it => occOk it.occ) = true) :
    parseAlertItems (alertItemBytes its) = some its := by
  induction its with
  | nil => rfl
  | cons it its ih =>
    obtain ⟨occ, rest⟩ := Bool.and_eq_true_iff.mp ok
    unfold alertItemBytes parseAlertItems
    have occ : occOk it.occ = true := occ
    rw [alertOfNumber_number, entryStateOfCode_code, occ, ih rest]

theorem parseAckItems_bytes (its : List AckItem) (ok : its.all (fun it => occOk it.occ) = true) :
    parseAckItems (ackItemBytes its) = some its := by
  induction its with
  | nil => rfl
  | cons it its ih =>
    obtain ⟨occ, rest⟩ := Bool.and_eq_true_iff.mp ok
    unfold ackItemBytes parseAckItems
    have occ : occOk it.occ = true := occ
    rw [alertOfNumber_number, occ, ih rest]

theorem alertItemBytes_length (its : List AlertItem) : (alertItemBytes its).length = 3 * its.length := by
  induction its with
  | nil => rfl
  | cons it its ih =>
    unfold alertItemBytes
    rw [List.length_cons, List.length_cons, List.length_cons, List.length_cons, ih]
    omega

theorem ackItemBytes_length (its : List AckItem) : (ackItemBytes its).length = 3 * its.length := by
  induction its with
  | nil => rfl
  | cons it its ih =>
    unfold ackItemBytes
    rw [List.length_cons, List.length_cons, List.length_cons, List.length_cons, ih]
    omega

theorem parseAlertItems_ok : ∀ (bs : List Byte) {its : List AlertItem}, parseAlertItems bs = some its →
    bs.length = 3 * its.length ∧ its.all (fun it => occOk it.occ) = true
  | [], _, h => by cases h; exact ⟨rfl, rfl⟩
  | [_], _, h => nomatch h
  | [_, _], _, h => nomatch h
  | c :: st :: occ :: rest, its, h => by
    unfold parseAlertItems at h
    split at h
    next code state its _ _ ranges items =>
      cases h
      obtain ⟨length, all⟩ := parseAlertItems_ok rest items
      refine ⟨?_, Bool.and_eq_true_iff.mpr ⟨ranges, all⟩⟩
      show rest.length + 3 = 3 * (its.length + 1)
      omega
    · cases h

theorem parseAckItems_ok : ∀ (bs : List Byte) {its : List AckItem}, parseAckItems bs = some its →
    bs.length = 3 * its.length ∧ its.all (fun it => occOk it.occ) = true
  | [], _, h => by cases h; exact ⟨rfl, rfl⟩
  | [_], _, h => nomatch h
  | [_, _], _, h => nomatch h
  | st :: c :: occ :: rest, its, h => by
    unfold parseAckItems at h
    split at h
    next code its _ ranges items =>
      cases h
      obtain ⟨length, all⟩ := parseAckItems_ok rest items
      refine ⟨?_, Bool.and_eq_true_iff.mpr ⟨ranges, all⟩⟩
      show rest.length + 3 = 3 * (its.length + 1)
      omega
    · cases h

/-! ## Payloads (R153 to R156) -/

theorem parsePayload_demand (p : DemandFields) : parsePayload .demand (payloadBytes (.demand p)) = .ok (.demand p) := by
  show (coded (modeOfCode (byteOf (modeCode p.mode)).toNat) >>= _) = _
  rw [modeOfCode_code]
  show Except.ok (Payload.demand { p with thrust := of16 _ _, turn := of16 _ _, cap := of16 _ _, stopAll := _ }) = _
  rw [of16_be16, of16_be16, of16_be16, (flagsByte_bits _ _ _ _).1]

theorem parsePayload_con (a : ConAction) (p : ConFields) : parsePayload .con (payloadBytes (.con a p)) = .ok (.con a p) := by
  have target : (if h : (byteOf p.target.val).toNat < 32 then some (⟨(byteOf p.target.val).toNat, h⟩ : Addr) else none) =
      some p.target := by
    have val : (byteOf p.target.val).toNat = p.target.val := byteOf_toNat (p.target.isLt.trans (by decide))
    rw [dif_pos (by rw [val]; exact p.target.isLt)]
    exact congrArg some (Fin.ext val)
  show (coded (actionOfCode (byteOf (actionCode a)).toNat) >>= _) = _
  rw [actionOfCode_code]
  show (coded (dite _ _ _) >>= _) = _
  rw [target]
  show Except.ok (Payload.con a { p with thrust := of16 _ _, turn := of16 _ _ }) = _
  rw [of16_be16, of16_be16]

theorem parsePayload_propState (p : PropStateFields) :
    parsePayload .propState (payloadBytes (.propState p)) = .ok (.propState p) := by
  obtain ⟨standby, trip, warn, -⟩ := flagsByte_bits p.standby p.trip p.warn false
  show (coded (gearOfCode (byteOf (gearCode p.gear)).toNat) >>= _) = _
  rw [gearOfCode_code]
  show (coded (sideOfCode (byteOf (sideCode p.side)).toNat) >>= _) = _
  rw [sideOfCode_code]
  show (coded (rudderOfCode (byteOf (rudderCode p.rudder)).toNat) >>= _) = _
  rw [rudderOfCode_code]
  show Except.ok (Payload.propState { p with
    rated := of16 _ _, ahead := of16 _ _, astern := of16 _ _, setpoint := of16 _ _, angle := of16 _ _, rpm := of16 _ _,
    fuelRate := of16 _ _, trim := of16 _ _, standby := _, trip := _, warn := _ }) = _
  rw [of16_be16, of16_be16, of16_be16, of16_be16, of16_be16, of16_be16, of16_be16, of16_be16, standby, trip, warn]

theorem parsePayload_strain (p : StrainFields) : parsePayload .strain (payloadBytes (.strain p)) = .ok (.strain p) := by
  show (coded (classOfCode (byteOf (classCode p.cls)).toNat) >>= _) = _
  rw [classOfCode_code]
  show (coded (winchOfCode (byteOf (winchCode p.winch)).toNat) >>= _) = _
  rw [winchOfCode_code]
  show Except.ok (Payload.strain { p with tension := of16 _ _, peak := of16 _ _, standby := _ }) = _
  rw [of16_be16, of16_be16, (flagsByte_bits _ _ _ _).1]

theorem parsePayload_fuel (p : FuelFields) : parsePayload .fuel (payloadBytes (.fuel p)) = .ok (.fuel p) := by
  show Except.ok (Payload.fuel { p with
    totals := Tab.of4 (of32 _ _ _ _) (of32 _ _ _ _) (of32 _ _ _ _) (of32 _ _ _ _), rate := of16 _ _ }) = _
  rw [of32_be32, of32_be32, of32_be32, of32_be32, of4_get, of16_be16]

theorem parsePayload_account (p : AccountFields) : parsePayload .account (payloadBytes (.account p)) = .ok (.account p) := by
  obtain ⟨one, two, three, four⟩ := flagsByte_bits (p.low.get 0) (p.low.get 1) (p.low.get 2) (p.low.get 3)
  show Except.ok (Payload.account { p with
    totals := Tab.of4 (of40 _ _ _ _ _) (of40 _ _ _ _ _) (of40 _ _ _ _ _) (of40 _ _ _ _ _), low := Tab.of4 _ _ _ _ }) = _
  rw [of40_be40, of40_be40, of40_be40, of40_be40, of4_get, one, two, three, four, of4_get]

theorem parsePayload_alert (p : AlertFields) (ok : p.ok = true) :
    parsePayload .alert (payloadBytes (.alert p)) = .ok (.alert p) := by
  obtain ⟨few, occs⟩ := Bool.and_eq_true_iff.mp ok
  have few := of_decide_eq_true few
  have count : (byteOf p.items.length).toNat = p.items.length := byteOf_toNat (by omega)
  have flags : (flagsByte p.part1 p.last false false).toNat < 4 := by
    cases p.part1 <;> cases p.last <;> decide
  obtain ⟨part, last, -⟩ := flagsByte_bits p.part1 p.last false false
  show (if 4 ≤ (flagsByte p.part1 p.last false false).toNat ∨ 8 < (byteOf p.items.length).toNat then _
    else if (alertItemBytes p.items).length ≠ 3 * (byteOf p.items.length).toNat then _
    else coded (parseAlertItems (alertItemBytes p.items)) >>= _) = _
  rw [if_neg (by omega), if_neg (by rw [count, alertItemBytes_length]; exact fun h => h rfl), parseAlertItems_bytes _ occs]
  show Except.ok (Payload.alert { p with part1 := _, last := _ }) = _
  rw [part, last]

theorem parsePayload_ack (items : List AckItem) (ok : ackItemsOk items = true) :
    parsePayload .ack (payloadBytes (.ack items)) = .ok (.ack items) := by
  obtain ⟨counts, occs⟩ := Bool.and_eq_true_iff.mp ok
  obtain ⟨some, few⟩ := Bool.and_eq_true_iff.mp counts
  have some := of_decide_eq_true some
  have few := of_decide_eq_true few
  have count : (byteOf items.length).toNat = items.length := byteOf_toNat (by omega)
  show (if (byteOf items.length).toNat = 0 ∨ 8 < (byteOf items.length).toNat then _
    else if (ackItemBytes items).length ≠ 3 * (byteOf items.length).toNat then _
    else coded (parseAckItems (ackItemBytes items)) >>= _) = _
  rw [if_neg (by omega), if_neg (by rw [count, ackItemBytes_length]; exact fun h => h rfl), parseAckItems_bytes _ occs]
  rfl

/-- A payload read from its own bytes. -/
theorem parsePayload_bytes (p : Payload) (ok : payloadOk p = true) : parsePayload (payloadKind p) (payloadBytes p) = .ok p := by
  cases p with
  | demand p => exact parsePayload_demand p
  | con a p => exact parsePayload_con a p
  | propState p => exact parsePayload_propState p
  | strain p => exact parsePayload_strain p
  | fuel p => exact parsePayload_fuel p
  | account p => exact parsePayload_account p
  | alert p => exact parsePayload_alert p ok
  | ack items => exact parsePayload_ack items ok
  | roster e => rfl
  | standby e => rfl
  | wake e => rfl

theorem payloadBytes_length (p : Payload) (ok : payloadOk p = true) : (payloadBytes p).length ≤ 28 := by
  cases p with
  | alert p =>
    have few := of_decide_eq_true (Bool.and_eq_true_iff.mp ok).1
    show (alertItemBytes p.items).length + 2 ≤ 28
    rw [alertItemBytes_length]
    omega
  | ack items =>
    have few := of_decide_eq_true (Bool.and_eq_true_iff.mp (Bool.and_eq_true_iff.mp ok).1).2
    show (ackItemBytes items).length + 1 ≤ 28
    rw [ackItemBytes_length]
    omega
  | _ => exact Nat.le_of_ble_eq_true rfl

/-! ## Headers (R151, R152) -/

/-- A byte's bit by its number. -/
theorem getLsbD_byteOf {n : Nat} (h : n < 256) (i : Nat) : (byteOf n).getLsbD i = decide (n / 2 ^ i % 2 = 1) := by
  show (byteOf n).toNat.testBit i = _
  rw [byteOf_toNat h]
  exact Nat.testBit_eq_decide_div_mod_eq

/-- The header of a frame read back, with its payload's own bytes. -/
theorem parseFrame_bytes (f : Frame) (ok : frameOk f = true) :
    parseFrame (byteOf (kindCode (payloadKind f.payload) + 16 * f.cls.val + 64 * f.start.toNat))
      (byteOf (f.source.val + 32 * roleCode f.role)) (byteOf (payloadBytes f.payload).length) (payloadBytes f.payload) = .ok f := by
  obtain ⟨payload, cls⟩ := Bool.and_eq_true_iff.mp ok
  obtain ⟨payload, may⟩ := Bool.and_eq_true_iff.mp payload
  have length := payloadBytes_length f.payload payload
  have kind := kindCode_lt (payloadKind f.payload)
  have role := roleCode_le f.role
  have class_ := f.cls.isLt
  have source := f.source.isLt
  have start : f.start.toNat ≤ 1 := Bool.toNat_le f.start
  have header : (byteOf (kindCode (payloadKind f.payload) + 16 * f.cls.val + 64 * f.start.toNat)).toNat = _ :=
    byteOf_toNat (by omega)
  have sender : (byteOf (f.source.val + 32 * roleCode f.role)).toNat = _ := byteOf_toNat (by omega)
  unfold parseFrame
  have reserved : ¬ decide ((kindCode (payloadKind f.payload) + 16 * f.cls.val + 64 * f.start.toNat) / 2 ^ 7 % 2 = 1) = true := by
    rw [decide_eq_true_eq]
    omega
  have started : decide ((kindCode (payloadKind f.payload) + 16 * f.cls.val + 64 * f.start.toNat) / 2 ^ 6 % 2 = 1) = f.start := by
    cases began : f.start
    · exact decide_eq_false (by rw [Bool.toNat_false]; omega)
    · exact decide_eq_true (by rw [Bool.toNat_true]; omega)
  have codeOf : (kindCode (payloadKind f.payload) + 16 * f.cls.val + 64 * f.start.toNat) % 16 = kindCode (payloadKind f.payload) := by
    omega
  have classOf : (kindCode (payloadKind f.payload) + 16 * f.cls.val + 64 * f.start.toNat) / 16 % 4 = f.cls.val := by omega
  have roleOf : (f.source.val + 32 * roleCode f.role) / 32 = roleCode f.role := by omega
  have sourceOf : (f.source.val + 32 * roleCode f.role) % 32 = f.source.val := by omega
  rw [if_neg (by rw [byteOf_toNat (by omega)]; omega), getLsbD_byteOf (by omega) 7, getLsbD_byteOf (by omega) 6, header, sender,
    if_neg reserved, started, codeOf, classOf, roleOf, sourceOf, roleOfCode_code, kindOfCode_code]
  dsimp only
  rw [may, cls, parsePayload_bytes f.payload payload]
  show Except.ok ({ f with source := Fin.ofNat 32 f.source.val, cls := Fin.ofNat 4 f.cls.val } : Frame) = _
  rw [Fin.ofNat_val_eq_self, Fin.ofNat_val_eq_self]

end Sys2Proof.Machine
end

section
/-! SUPPORT. Frames as bits and back, what the receive checks let pass, and the levels of a transmission (O24). -/

namespace Sys2Proof.Machine

-- As in Laws/Touches.lean: one theorem at a time.
set_option Elab.async false

/-! ## A frame's own bits (R149, R156) -/

theorem wordBits_bytes (w : Word) :
    wordBits w = bytesBits [BitVec.ofNat 8 (w.toNat / 256), BitVec.ofNat 8 (w.toNat % 256)] := rfl

theorem frameBits_residue (f : Frame) : crcBits crcSeed (frameBits f) = 0 := by
  unfold frameBits
  rw [crcBits_append]
  exact crcBits_self (frameCheck f)

/-- A frame that a station may send passes the receive checks as it was. -/
theorem receiveChecks_frameBits (f : Frame) (ok : frameOk f = true) : receiveChecks (frameBits f) = .ok f := by
  let check := [BitVec.ofNat 8 ((frameCheck f).toNat / 256), BitVec.ofNat 8 ((frameCheck f).toNat % 256)]
  have bytes : frameBits f = bytesBits (headerBytes f ++ (payloadBytes f.payload ++ check)) := by
    unfold frameBits frameBytes
    rw [wordBits_bytes, ← bytesBits_append, List.append_assoc]
  have payload : payloadOk f.payload = true := (Bool.and_eq_true_iff.mp (Bool.and_eq_true_iff.mp ok).1).1
  have count : (byteOf (payloadBytes f.payload).length).toNat = (payloadBytes f.payload).length :=
    byteOf_toNat ((payloadBytes_length f.payload payload).trans_lt (by decide))
  have length : (payloadBytes f.payload ++ check).length = (payloadBytes f.payload).length + 2 := List.length_append
  unfold receiveChecks
  rw [frameBits_residue, if_neg (fun h => h rfl), bytes, gatherBytes_bytesBits]
  show (if (payloadBytes f.payload ++ check).length < 2 ∨
    (payloadBytes f.payload ++ check).length ≠ (byteOf (payloadBytes f.payload).length).toNat + 2 then _
    else parseFrame _ _ _ ((payloadBytes f.payload ++ check).take (byteOf (payloadBytes f.payload).length).toNat)) = _
  rw [if_neg (by rw [count, length]; omega), count, List.take_left]
  exact parseFrame_bytes f ok

/-! ## What passes the receive checks (R156) -/

theorem bind_ok {α β : Type} {e : Except RxCheck α} {g : α → Except RxCheck β} {b : β} (h : e >>= g = .ok b) :
    ∃ a, e = .ok a ∧ g a = .ok b := by
  cases e with
  | error => cases h
  | ok a => exact ⟨a, rfl, h⟩

theorem coded_ok {α : Type} {o : Option α} {a : α} (h : coded o = .ok a) : o = some a := by
  cases o with
  | none => cases h
  | some b => cases h; rfl

/-- A payload that is read is of the kind it is read as, with items in range. -/
theorem parsePayload_ok {k : FrameKind} {bs : List Byte} {p : Payload} (h : parsePayload k bs = .ok p) :
    payloadKind p = k ∧ payloadOk p = true := by
  unfold parsePayload at h
  split at h
  · obtain ⟨_, -, h⟩ := bind_ok h
    cases h
    exact ⟨rfl, rfl⟩
  · obtain ⟨_, -, h⟩ := bind_ok h
    obtain ⟨_, -, h⟩ := bind_ok h
    cases h
    exact ⟨rfl, rfl⟩
  · obtain ⟨_, -, h⟩ := bind_ok h
    obtain ⟨_, -, h⟩ := bind_ok h
    obtain ⟨_, -, h⟩ := bind_ok h
    cases h
    exact ⟨rfl, rfl⟩
  · obtain ⟨_, -, h⟩ := bind_ok h
    obtain ⟨_, -, h⟩ := bind_ok h
    cases h
    exact ⟨rfl, rfl⟩
  · cases h
    exact ⟨rfl, rfl⟩
  · cases h
    exact ⟨rfl, rfl⟩
  next part n rest =>
    split at h
    · cases h
    next range =>
      split at h
      · cases h
      next size =>
        obtain ⟨items, read, h⟩ := bind_ok h
        obtain ⟨length, occs⟩ := parseAlertItems_ok rest (coded_ok read)
        cases h
        refine ⟨rfl, Bool.and_eq_true_iff.mpr ⟨decide_eq_true ?_, occs⟩⟩
        show items.length ≤ 8
        omega
  next n rest =>
    split at h
    · cases h
    next range =>
      split at h
      · cases h
      next size =>
        obtain ⟨items, read, h⟩ := bind_ok h
        obtain ⟨length, occs⟩ := parseAckItems_ok rest (coded_ok read)
        cases h
        refine ⟨rfl, Bool.and_eq_true_iff.mpr ⟨Bool.and_eq_true_iff.mpr ⟨decide_eq_true ?_, decide_eq_true ?_⟩, occs⟩⟩ <;> omega
  · cases h
    exact ⟨rfl, rfl⟩
  · cases h
    exact ⟨rfl, rfl⟩
  · cases h
    exact ⟨rfl, rfl⟩
  · cases h

theorem parseFrame_ok {b0 b1 b2 : Byte} {bs : List Byte} {f : Frame} (h : parseFrame b0 b1 b2 bs = .ok f) : frameOk f = true := by
  unfold parseFrame at h
  split at h
  · cases h
  · split at h
    · cases h
    · split at h
      · cases h
      · split at h
        · cases h
        · split at h
          · cases h
          next may =>
            split at h
            · cases h
            next cls =>
              obtain ⟨p, read, h⟩ := bind_ok h
              obtain ⟨kind, ok⟩ := parsePayload_ok read
              cases h
              unfold frameOk
              dsimp only
              rw [ok, kind, (by simpa using may : mayRoleSend _ _ = true)]
              show classAllowed _ (b0.toNat / 16 % 4 % 4) = true
              rw [Nat.mod_mod]
              simpa using cls

theorem receiveChecks_ok {bits : List Bool} {f : Frame} (h : receiveChecks bits = .ok f) : frameOk f = true := by
  unfold receiveChecks at h
  split at h
  · cases h
  · split at h
    · split at h
      · cases h
      · exact parseFrame_ok h
    · cases h

/-! ## The levels of a transmission (R147, R158) -/

/-- A half-bit of coded bits. -/
theorem codeLevels_get (bits : List Bool) : ∀ i j : Nat, j < 2 →
    (codeLevels bits)[2 * i + j]? = bits[i]?.map fun b => if j = 1 then b else !b := by
  induction bits with
  | nil => exact fun _ _ _ => rfl
  | cons b bits ih =>
    intro i j half
    show ((!b) :: b :: codeLevels bits)[2 * i + j]? = _
    cases i with
    | zero =>
      match j, half with
      | 0, _ => rfl
      | 1, _ => rfl
    | succ i =>
      rw [show 2 * (i + 1) + j = (2 * i + j) + 2 by omega]
      exact ih i j half

theorem codeLevels_at (bits : List Bool) (t : Nat) :
    (codeLevels bits)[t / 4]? = bits[t / 8]?.map fun b => if decide (4 ≤ t % 8) then b else !b := by
  have half : t / 4 = 2 * (t / 8) + t % 8 / 4 := by omega
  have second : (t % 8 / 4 = 1) = (decide (4 ≤ t % 8) = true) := by
    rw [decide_eq_true_eq, eq_iff_iff]
    omega
  rw [half, codeLevels_get bits _ _ (by omega)]
  simp only [second]

theorem preambleBits_at {i : Nat} (h : i < 16) : preambleBits[i]? = some (decide (i % 2 = 0)) := by
  revert i
  decide

theorem frameBits_length (f : Frame) : (frameBits f).length = 40 + 8 * (payloadBytes f.payload).length := by
  unfold frameBits frameBytes
  rw [List.length_append, bytesBits_length, List.length_append, wordBits_bytes, bytesBits_length]
  show 8 * (3 + _) + 8 * 2 = _
  omega

/-- The bits of a transmission before its end marker. -/
theorem sentBits_length (f : Frame) : (preambleBits ++ frameBits f).length = 56 + 8 * (payloadBytes f.payload).length := by
  rw [List.length_append, frameBits_length]
  show 16 + _ = _
  omega

/-- The level of a half-bit of the preamble or the frame. -/
theorem levelAt_bit {f : Frame} {t : Nat} {b : Bool} (bit : (preambleBits ++ frameBits f)[t / 8]? = some b) :
    levelAt (frameLevels f) t = some (if decide (4 ≤ t % 8) then b else !b) := by
  have short := (List.getElem?_eq_some_iff.mp bit).1
  show (codeLevels (preambleBits ++ frameBits f) ++ endLevels)[t / 4]? = _
  rw [List.getElem?_append_left (by rw [codeLevels_length]; omega), codeLevels_at, bit]
  rfl

/-- The level of the end marker, and none after it. -/
theorem levelAt_end {f : Frame} {t : Nat} (after : 56 + 8 * (payloadBytes f.payload).length ≤ t / 8) :
    levelAt (frameLevels f) t = endLevels[t / 4 - 2 * (56 + 8 * (payloadBytes f.payload).length)]? := by
  show (codeLevels (preambleBits ++ frameBits f) ++ endLevels)[t / 4]? = _
  rw [List.getElem?_append_right (by rw [codeLevels_length, sentBits_length]; omega), codeLevels_length, sentBits_length]

theorem endLevels_at (k : Nat) : (k < 2 → endLevels[k]? = some true) ∧ (2 ≤ k → k < 4 → endLevels[k]? = some false) := by
  match k with
  | 0 | 1 => exact ⟨fun _ => rfl, fun h => by omega⟩
  | 2 | 3 => exact ⟨fun h => by omega, fun _ _ => rfl⟩
  | _ + 4 => exact ⟨fun h => by omega, fun _ h => by omega⟩

theorem linkLevel_sending {s : State} {hand : InHand} (tx : s.comms.link.tx = .sending hand) :
    s.linkLevel = levelAt (frameLevels hand.frame) (elapsed s.clock hand.since) := by
  unfold State.linkLevel
  rw [tx]

theorem levelAt_jam (t : Nat) : levelAt jamLevels t = if t < 128 then some (decide (4 ≤ t % 8)) else none := by
  show (codeLevels (List.replicate 16 true))[t / 4]? = _
  rw [codeLevels_at, List.getElem?_replicate]
  by_cases h : t < 128
  · rw [if_pos h, if_pos (by omega)]
    show some (if decide (4 ≤ t % 8) then true else !true) = _
    cases decide (4 ≤ t % 8) <;> rfl
  · rw [if_neg h, if_neg (by omega)]
    rfl

/-- What a station puts on the line while it sends. -/
theorem levelAt_sending (f : Frame) (t : Nat) :
    let bytes := (payloadBytes f.payload).length
    let bit := t / 8
    let second := decide (4 ≤ t % 8)
    (bit < 16 → levelAt (frameLevels f) t = some (if bit % 2 = 0 then second else !second)) ∧
    (16 ≤ bit → bit < 56 + 8 * bytes →
      ∃ b, (frameBits f)[bit - 16]? = some b ∧ levelAt (frameLevels f) t = some (if b then second else !second)) ∧
    (bit = 56 + 8 * bytes → levelAt (frameLevels f) t = some true) ∧
    (bit = 57 + 8 * bytes → levelAt (frameLevels f) t = some false) ∧
    (58 + 8 * bytes ≤ bit → levelAt (frameLevels f) t = none) := by
  intro bytes bit second
  have swap (b : Bool) : (if second then b else !b) = if b then second else !second := by
    cases second <;> cases b <;> rfl
  obtain ⟨high, low⟩ := endLevels_at (t / 4 - 2 * (56 + 8 * bytes))
  refine ⟨fun early => ?_, fun late before => ?_, fun first => ?_, fun last => ?_, fun sent => ?_⟩
  · have at_ : (preambleBits ++ frameBits f)[bit]? = some (decide (bit % 2 = 0)) := by
      rw [List.getElem?_append_left early]
      exact preambleBits_at early
    rw [levelAt_bit at_, swap]
    simp only [decide_eq_true_eq]
  · have short : bit - 16 < (frameBits f).length := by
      rw [frameBits_length]
      omega
    obtain ⟨b, found⟩ : ∃ b, (frameBits f)[bit - 16]? = some b := ⟨_, List.getElem?_eq_getElem short⟩
    refine ⟨b, found, ?_⟩
    rw [levelAt_bit (b := b) (by rw [List.getElem?_append_right late]; exact found), swap]
  · rw [levelAt_end (le_of_eq first.symm)]
    exact high (by omega)
  · rw [levelAt_end (by omega)]
    exact low (by omega) (by omega)
  · rw [levelAt_end (by omega)]
    exact List.getElem?_eq_none (by show 4 ≤ _; omega)

/-- Settles O24: the check over its own residue is 0 and every field is read back from its bytes. -/
theorem sentFramesPassTheReceiveChecks : Obligations.SentFramesPassTheReceiveChecks := by
  refine ⟨receiveChecks_frameBits, fun _ _ => receiveChecks_ok, fun s hand tx => ?_, fun s hand tx => ?_, fun s off => ?_⟩
  · rw [linkLevel_sending tx]
    exact levelAt_sending hand.frame (elapsed s.clock hand.since)
  · unfold State.linkLevel
    rw [tx]
    exact levelAt_jam (elapsed s.clock hand.since)
  · unfold State.linkLevel
    cases tx : s.comms.link.tx with
    | sending | jamming => rw [tx] at off; cases off
    | _ => rfl

end Sys2Proof.Machine
end

section
/-! SUPPORT. The events of the line and the receiver (O25). -/

namespace Sys2Proof.Machine

-- As in Laws/Touches.lean: one theorem at a time.
set_option Elab.async false

variable {s : State} {dt : Micros}

/-- A level change within the last 3 bit times. -/
def Early (l : LinkUnit) (now : Clock) : Prop := ∃ change, l.lastChange = some change ∧ elapsed now change < 24

theorem still_iff (l : LinkUnit) (now : Clock) : l.still now = true ↔ ¬ Early l now := by
  unfold LinkUnit.still Early aged
  cases l.lastChange with
  | none => simp
  | some change =>
    simp only [Option.isNone_some, Bool.false_or, Option.some.injEq, exists_eq_left', Nat.not_lt]
    exact decide_eq_true_iff

theorem receptionStart_begins (joined : s.station.joined = true) (hunting : s.comms.link.receiver = .hunting)
    {quiet : Clock} (was : s.comms.link.quietSince = some quiet) :
    exec (.receptionStart dt) s = .next { s.advance dt with comms := { s.comms with
      link := { s.comms.link with receiver := .receiving, quietSince := none, lastChange := some (s.later dt) } } } := by
  refine congrArg Host.Outcome.next (whenever_pos (s := s.advance dt) ?_)
  show (s.station.joined && s.comms.link.receiver == .hunting && s.comms.link.quietSince.isSome) = true
  rw [joined, hunting, was]
  rfl

/-! ## Quiet and fragments (R147, R148, R149) -/

theorem lineQuiet_cuts {bits : List Bool} (joined : s.station.joined = true) (active : s.comms.link.quietSince = none)
    (released : drives s.comms.link.tx = false) (late : ¬ Early s.comms.link (s.later dt)) :
    exec (.lineQuiet ⟨dt, bits⟩) s = .next { s.advance dt with comms := { s.comms with link := { s.comms.link with
      receiver := .hunting, quietSince := some (s.later dt),
      rxResidue := if s.comms.link.receiver = .receiving then takenResidue bits s.comms.link.rxResidue
        else s.comms.link.rxResidue } } } := by
  refine congrArg Host.Outcome.next (whenever_pos (s := s.advance dt) ?_)
  show (s.station.joined && s.comms.link.quietSince.isNone && !drives s.comms.link.tx && s.comms.link.still (s.later dt)) = true
  rw [joined, active, released, (still_iff _ _).mpr late]
  rfl

theorem lineQuiet_early {bits : List Bool} (early : Early s.comms.link (s.later dt)) :
    exec (.lineQuiet ⟨dt, bits⟩) s = .next (s.advance dt) := by
  refine congrArg Host.Outcome.next (whenever_neg (s := s.advance dt) ?_)
  show (s.station.joined && s.comms.link.quietSince.isNone && !drives s.comms.link.tx && s.comms.link.still (s.later dt)) = false
  rw [Bool.eq_false_iff.mpr fun h => (still_iff _ _).mp h early, Bool.and_false]

theorem fragment_ends {cause : FragmentCause} {bits : List Bool} (receives : s.receives = true)
    (late : ¬ (cause = .quiet ∧ Early s.comms.link (s.later dt))) :
    exec (.fragment dt cause bits) s = .next { s.advance dt with comms := { s.comms with link := { s.comms.link with
      receiver := .hunting, rxResidue := takenResidue bits s.comms.link.rxResidue,
      quietSince := if cause = .quiet ∧ drives s.comms.link.tx = false then some (s.later dt)
        else s.comms.link.quietSince } } } := by
  have timely : (cause != .quiet || s.comms.link.still (s.later dt)) = true := by
    by_cases quiet : cause = .quiet
    · rw [(still_iff _ _).mpr fun early => late ⟨quiet, early⟩, Bool.or_true]
    · rw [bne_iff_ne.mpr quiet]
      rfl
  have since : (if cause = .quiet ∧ drives s.comms.link.tx = false then some (s.later dt) else s.comms.link.quietSince) =
      if cause = .quiet && !drives s.comms.link.tx then some (s.later dt) else s.comms.link.quietSince :=
    if_congr (by simp) rfl rfl
  rw [since]
  refine congrArg Host.Outcome.next (whenever_pos (s := s.advance dt) ?_)
  show (s.receives && (cause != .quiet || s.comms.link.still (s.later dt))) = true
  rw [receives, timely]
  rfl

theorem fragment_early {bits : List Bool} (early : Early s.comms.link (s.later dt)) :
    exec (.fragment dt .quiet bits) s = .next (s.advance dt) := by
  refine congrArg Host.Outcome.next (whenever_neg (s := s.advance dt) ?_)
  show (s.receives && (false || s.comms.link.still (s.later dt))) = false
  rw [Bool.eq_false_iff.mpr fun h => (still_iff _ _).mp h early]
  exact Bool.and_false _

/-! ## Complete receptions (R156, R167) -/

theorem takeBits_bad {bits : List Bool} {check : RxCheck} (receives : s.receives = true)
    (fails : receiveChecks bits = .error check) : s.takeBits bits = s.takeError (crcBits crcSeed bits) := by
  unfold State.takeBits
  rw [whenever_pos receives, fails]

/-- Bits that pass every check are taken as the frame they spell. -/
theorem takeBits_frame {f : Frame} (ok : payloadOk f.payload = true) (spells : receiveChecks (frameBits f) = .ok f) :
    s.takeBits (frameBits f) = s.takeFrame f := by
  unfold State.takeBits State.takeFrame
  rw [spells, ok]
  rfl

/-- A frame that a command carries is one that a station may send. -/
theorem frameOk_of_frameOf {c : Instr} {f : Frame} (h : frameOf c = some (dt, f)) (ok : payloadOk f.payload = true) :
    frameOk f = true := by
  cases c <;> cases h
  case alert role p =>
    unfold frameOk
    rw [ok]
    cases role <;> rfl
  all_goals
    unfold frameOk
    rw [ok]
    rfl

/-- Settles O25: the events of the line by their guards, and bits that spell a frame by the way back of O24. -/
theorem receptionEvents : Obligations.ReceptionEvents := by
  unfold Obligations.ReceptionEvents
  intro preamble
  refine ⟨fun s dt quiet joined hunting was => receptionStart_begins joined hunting was,
    fun s dt bits joined active released => ⟨lineQuiet_cuts joined active released, lineQuiet_early⟩,
    fun s dt cause bits receives => ⟨fun ⟨quiet, early⟩ => ?_, fragment_ends receives⟩,
    fun s dt bits check receives fails => ?_, fun c dt f s frame ok => ?_⟩
  · subst quiet
    exact fragment_early early
  · intro link u
    have run : exec (.receiveError dt bits) s = .next ((s.advance dt).takeError (crcBits crcSeed bits)) :=
      congrArg Host.Outcome.next (takeBits_bad (s := s.advance dt) receives fails)
    have noted (n : s.station ≠ .joining) : (s.advance dt).takeError (crcBits crcSeed bits) =
        u.whenever s.station.reporting fun s => s.follow .rxError true := if_neg n
    refine ⟨_, run, fun joining => if_pos joining, fun reports => ?_, fun halted => ?_⟩
    · rw [noted (by intro h; rw [h] at reports; cases reports), whenever_pos reports]
      exact follow_follows u .rxError true
    · rw [noted (by rw [halted]; nofun), whenever_neg (by rw [halted]; rfl)]
  · rw [exec_frame s frame]
    exact congrArg Host.Outcome.next
      (takeBits_frame (s := s.advance dt) ok (receiveChecks_frameBits f (frameOk_of_frameOf frame ok)))

end Sys2Proof.Machine
end
